-- ==== Sys2Proof/Word.lean ====
section
/-! DEFINITION. The words the 2240 handles: link bytes, and the timers told by the period they were started for. -/

namespace Sys2Proof

/-- One byte on LD0..LD7 (R164, R174). -/
abbrev Byte := BitVec 8

/-- A timer: the period in microseconds it was started for while it runs, `none` while it is stopped
(log entry 2: time itself is not modelled; an expiry is a command). -/
abbrev Timer := Option Nat

end Sys2Proof
end

