-- ==== Sys2Proof/Syntax.lean ====
section
/-! DEFINITION. The commands the 2240 takes: one constructor per row of spec/opcode_table.json. -/

namespace Sys2Proof

/-- The two bays (00_scope.md, "The dual-bay unit"). -/
inductive Bay where
  | A
  | B
  deriving DecidableEq, Repr

/-- The other bay. -/
def Bay.other : Bay → Bay
  | .A => .B
  | .B => .A

/-- What a request that may go to either is addressed to (R180: bay byte 0, or 1 and 2). -/
inductive Addr where
  | part
  | bay (b : Bay)
  deriving DecidableEq, Repr

/-- One entry of WRITE SENSE LIST as it stands on the link: four bytes (R178). -/
structure SenseItem where
  position : Byte
  channel : Byte
  gain : Byte
  marks : Byte
  deriving DecidableEq, Repr

/-- The commands. A request row is the release of LFRM that ends a frame carrying that request
(R166; log entry 3); its operands are the payload fields at their width on the link (R180). The other
rows are the events of the lines, the timers, the converter and the SAU, with what the part reads at
that moment as operands. -/
inductive Instr where
  -- operation requests, R146
  | spinUp (b : Bay)
  | spinDown (b : Bay)
  | loadHeads (b : Bay)
  | unloadHeads (b : Bay)
  | seek (b : Bay) (track : BitVec 16) (head : Byte)
  | openWrite (b : Bay)
  | closeWrite (b : Bay)
  | eject (b : Bay)
  -- bay control and configuration
  | haltBay (b : Bay)
  | runBay (b : Bay)
  | setStepMode (b : Bay) (on : Bool)
  | abortBay (b : Bay)
  | bayReset (b : Bay)
  | setPrevent (b : Bay) (on : Bool)
  | setTrim (b : Bay) (trim : Byte)
  | setGains (b : Bay) (kv kp kd limit : BitVec 16)
  | setBudget (capacity : BitVec 16)
  | writeProfile (demands : List (BitVec 16))
  | readProfile (a : Addr)
  -- sensing
  | writeSenseList (entries : List SenseItem)
  | readSenseList
  | resumeSense
  | sampleNow (channel gain : Byte)
  | readSamples (selector first : Byte)
  | setSampleMode (mode interval : Byte)
  | setLimits (fail logicFail sag recover reserveLow reserveOk overcurrent : BitVec 16)
  -- reporting and reset
  | identify
  | readStatus (a : Addr)
  | readEvents
  | clearEvents (classes : BitVec 16)
  | setEventMask (classes : BitVec 16)
  | readCounters
  | readRefusals
  | readCompletions
  | resetPart
  -- link events
  /-- A frame of these bytes, which fails a link check, ended by the release of LFRM (R166). -/
  | frameRefused (bytes : List Byte)
  /-- An assertion of LSTB with LDIR (true is high), LFRM (true is asserted) and the byte on the lines (R165). -/
  | linkStrobe (ldir lfrm : Bool) (data : Byte)
  | strobeNegated
  | resetNFall
  /-- A rise of RESET_N with LFRM as it stands (true is asserted; R171). -/
  | resetNRise (lfrm : Bool)
  | powerOn
  -- cartridge events
  | presRise (b : Bay)
  | presFall (b : Bay)
  /-- The debounce expires with MED1, MED0 (true is closed) and WPROT (true is protect) as read then (R3). -/
  | debounceExpiry (b : Bay) (med1 med0 wprot : Bool)
  /-- BTN changes to this level (R7). -/
  | btnChange (b : Bay) (level : Bool)
  | buttonLevelExpiry (b : Bay)
  | longPress (b : Bay)
  | pulseTimerExpiry (b : Bay)
  | waitTimerExpiry (b : Bay)
  | lampFlashToggle (b : Bay)
  -- spindle events
  /-- A TACH pulse, `elapsed` microseconds after the one before it (R26; log entry 22). -/
  | tachPulse (b : Bay) (elapsed : Nat)
  | tachTimerExpiry (b : Bay)
  | stageTimerExpiry (b : Bay)
  | brakeLimitExpiry (b : Bay)
  | speedLostTimerExpiry (b : Bay)
  -- servo and positioner events
  /-- The open wedge window of the bay ends. RDSIG gave the Gray code `code`, the parity check passed or
  not, and the burst amplitudes in converter counts before limiting (R65; log entries 10, 11). -/
  | wedgeWindowEnd (b : Bay) (code : BitVec 10) (parityOk : Bool) (ampA ampB : Nat)
  | sauCompletion
  | loadWaitTimerExpiry (b : Bay)
  | loadTimerExpiry (b : Bay)
  | seekTimerExpiry (b : Bay)
  | unloadTimerExpiry (b : Bay)
  | retractTimerExpiry (b : Bay)
  | parkRise (b : Bay)
  | parkFall (b : Bay)
  -- write gate events
  | wgateRise (b : Bay)
  | wgateFall (b : Bay)
  -- sense events
  | scanTimerExpiry
  /-- The list conversion in progress completes with this raw conversion, 0..1023 (R126). -/
  | conversionCompletion (raw : BitVec 10)
  /-- The SAMPLE NOW conversion in progress completes with this raw conversion (R131). -/
  | sampleNowCompletion (raw : BitVec 10)
  | lfrmRelease
  deriving DecidableEq, Repr

end Sys2Proof
end

