-- ==== Sys2Proof/Config.lean ====
section
/-! DEFINITION. What an implementation fixes and the spec leaves open: the free values. -/

namespace Sys2Proof.Config

/-- A free value: 24 bits nothing is known of, for the n-th draw. READ SAMPLES carries it where the spec
says that the other fields of an invalid image slot "are of no meaning" (R134; log entry 9). No body:
nothing can be proved of its value. -/
opaque freeWord : Nat → BitVec 24

end Sys2Proof.Config
end

