-- ==== Sys2Proof/Machine/Constants.lean ====
section
/-! DEFINITION. The numbers the spec gives: timer periods in microseconds, ledger amounts, codes, bounds and defaults. -/

namespace Sys2Proof.Machine.Const

/-- Seating debounce, 100 ms (R2). -/
abbrev debounce : Nat := 100000
/-- Button level, 50 ms (R7). -/
abbrev buttonLevel : Nat := 50000
/-- Press timer, 5 s (R7). -/
abbrev press : Nat := 5000000
/-- Latch pulse, 80 ms (R15). -/
abbrev latchPulse : Nat := 80000
/-- Wait after a pulse, 1 s (R15). -/
abbrev latchWait : Nat := 1000000
/-- Half a period of the 2 Hz flash, 250 ms (R21). -/
abbrev flash : Nat := 250000
/-- Tach timer, 500 ms (R26). -/
abbrev tach : Nat := 500000
/-- The longest measurable period, 500,000 us (R26). -/
abbrev longestPeriod : Nat := 500000
/-- Stage timer in ALIGNING, 500 ms (R32). -/
abbrev stageAlign : Nat := 500000
/-- Stage timer in RAMPING, 12 s (R33). -/
abbrev stageRamp : Nat := 12000000
/-- Stage timer in LOCKING, 4 s (R34). -/
abbrev stageLock : Nat := 4000000
/-- Brake limit timer, 10 s (R38). -/
abbrev brakeLimit : Nat := 10000000
/-- Speed-lost timer, 1 s (R36). -/
abbrev speedLost : Nat := 1000000
/-- Load wait timer, 2 s (R93). -/
abbrev loadWait : Nat := 2000000
/-- Load timer, 300 ms (R95). -/
abbrev load : Nat := 300000
/-- Seek timer, 150 ms (R98). -/
abbrev seek : Nat := 150000
/-- Unload timer, 500 ms (R104). -/
abbrev unload : Nat := 500000
/-- Retract timer, 500 ms (R107). -/
abbrev retract : Nat := 500000

/-- The nominal revolution period (R27, R64). -/
abbrev nominalPeriod : Nat := 16667
/-- Half width of the lock window (R28). -/
abbrev lockWindow : Nat := 83
/-- The period excess at or below which RAMPING ends (R33). -/
abbrev rampExcess : Int := 1667
/-- The drive code of a period on target (R29). -/
abbrev driveBase : Int := 24
/-- Reservation for a spin-up (R49). -/
abbrev spinUpUnits : Nat := 180
/-- Reservation for regulated running (R25, R34). -/
abbrev runUnits : Nat := 40
/-- Drive code of the fixed pattern (R25, R32). -/
abbrev alignDrive : Nat := 60
/-- Follow reservation (R49, R93). -/
abbrev followUnits : Nat := 30
/-- A seek's ranged request (R49, R97). -/
abbrev seekMin : Nat := 60
/-- A seek's ranged request (R49, R97). -/
abbrev seekMax : Nat := 100
/-- The holding kept at most in UNLOADING (R104). -/
abbrev unloadUnits : Nat := 60
/-- The latch reservation (R14). -/
abbrev latchUnits : Nat := 120
/-- Default capacity (R48). -/
abbrev capacityDefault : Nat := 300
/-- Load code (R89, R95). -/
abbrev loadCode : Int := 25
/-- Unload code (R89, R104). -/
abbrev unloadCode : Int := -25
/-- Retract code (R89, R107). -/
abbrev retractCode : Int := -60

/-- Least position, the ramp side of track 0 (R66). -/
abbrev posMin : Int := -32
/-- Greatest position estimate (R66, R75). -/
abbrev posMax : Int := 65504

/-- Slots of the Command Pool (R143). -/
abbrev poolSize : Nat := 16
/-- Records of the completion list (R161). -/
abbrev completionSize : Nat := 8
/-- Records of the history ring (R132). -/
abbrev historySize : Nat := 96
/-- Bytes of a frame (R174). -/
abbrev frameSize : Nat := 64
/-- Ceiling of a counter (R191). -/
abbrev counterMax : Nat := 65535

/-- The default seek profile (R83). -/
def profileDefault : List Nat :=
  [16, 40, 56, 68, 80, 96, 112, 132, 152, 176, 200, 220, 256, 320, 384, 384]

end Sys2Proof.Machine.Const
end

