-- ==== Sys2Proof/Machine/State.lean ====
section
/-! DEFINITION. Everything the spec gives the 2240 as state, block by block, as plain data, and the state
right after a part reset. The rule that names a field is in its docstring; INVENTORY.md lists them all. -/

namespace Sys2Proof.Machine

/-- The machine has no fault: no command stops it (what the spec calls a fault is an effect on State). -/
inductive Fault where
  deriving DecidableEq, Repr

/-- Why a step could be refused. -/
inductive Refusal where
  /-- A command that has no meaning yet, raised by an arm of `exec` alone. No arm raises it. Safe. -/
  | notModelled (mnemonic : String)
  deriving DecidableEq, Repr

/-! ## Cartridge Controller (R1) -/

/-- The cartridge state, in the order of R1. -/
inductive CartState where
  | empty
  | seating
  | seated
  | releasePending
  | ejecting
  | jammed
  deriving DecidableEq, Repr

/-- The media type (R1). -/
inductive MediaType where
  | S
  | D
  | unrecognised
  deriving DecidableEq, Repr

/-- The media record (R1). -/
structure Media where
  kind : MediaType
  lastTrack : Option Nat
  heads : Nat
  writeProtected : Bool
  deriving DecidableEq, Repr

/-- The eject phase (R1). -/
inductive EjectPhase where
  | pulse
  | wait
  deriving DecidableEq, Repr

/-- The three modes of the bay lamp (R21). -/
inductive LampMode where
  | off
  | steady
  | flashing
  deriving DecidableEq, Repr

/-- The Cartridge Controller of a bay (R1, R7, R21). -/
structure Cartridge where
  state : CartState
  media : Option Media
  prevent : Bool
  pulseCount : Nat
  phase : Option EjectPhase
  debounce : Timer
  pulseTimer : Timer
  waitTimer : Timer
  /-- A press has begun and not ended (R7). -/
  pressed : Bool
  /-- BTN has been seen false since the part reset (R7). -/
  seenFalse : Bool
  levelTimer : Timer
  pressTimer : Timer
  /-- The LATCH output. -/
  latch : Bool
  lampMode : LampMode
  /-- The LAMP output. -/
  lamp : Bool
  flashTimer : Timer
  deriving DecidableEq, Repr

/-! ## Spindle Controller (R24) -/

/-- The spindle state, in the order of R24. -/
inductive SpinState where
  | stopped
  | waitPower
  | aligning
  | ramping
  | locking
  | locked
  | unlocked
  | braking
  | fault
  deriving DecidableEq, Repr

/-- The brake purpose (R24). -/
inductive BrakePurpose where
  | stop
  | retry
  | spinFail
  | overcurrent
  deriving DecidableEq, Repr

/-- What SPH1..SPH3 carry (R25). -/
inductive PhaseDrive where
  | off
  | fixed
  | commutated
  deriving DecidableEq, Repr

/-- The Spindle Controller of a bay (R24, R25). -/
structure Spindle where
  state : SpinState
  attempt : Nat
  tachRef : Bool
  lastPeriod : Option Nat
  trim : Int
  drive : Nat
  inside : Nat
  outside : Nat
  purpose : Option BrakePurpose
  startMark : Bool
  brakeMark : Bool
  tachTimer : Timer
  stageTimer : Timer
  brakeLimit : Timer
  speedLost : Timer
  /-- The SBRK output. -/
  sbrk : Bool
  /-- The SPH1..SPH3 outputs. -/
  phases : PhaseDrive
  deriving DecidableEq, Repr

/-! ## Wedge Demodulator (R64) -/

/-- The Wedge Demodulator of a bay: the open window and the window interval w (R64). -/
structure Demod where
  window : Option Nat
  interval : Nat
  deriving DecidableEq, Repr

/-- A wedge report, less its bay (R65). -/
structure Report where
  number : Nat
  track : Option Nat
  burstA : Nat
  burstB : Nat
  deriving DecidableEq, Repr

/-! ## Positioner Controller (R88, R66) -/

/-- The positioner state, in the order of R88. -/
inductive PosState where
  | parked
  | loading
  | acquiring
  | following
  | seeking
  | settling
  | unloading
  | retracting
  | fault
  deriving DecidableEq, Repr

/-- The pending request (R88). -/
inductive Pending where
  | none
  | load
  | seek (track head : Nat)
  | recovery
  deriving DecidableEq, Repr

/-- The seek owner (R88). -/
inductive SeekOwner where
  | none
  | operation
  | recovery
  | aborted
  deriving DecidableEq, Repr

/-- Where ACT draws its current (R89). -/
inductive ActSource where
  | none
  | rail
  | reserve
  deriving DecidableEq, Repr

/-- The Positioner Controller of a bay (R88, R89). -/
structure Positioner where
  state : PosState
  head : Nat
  /-- The HSEL output. -/
  hsel : Nat
  target : Nat
  pending : Pending
  owner : SeekOwner
  acquire : Nat
  settle : Nat
  offTrack : Nat
  clean : Nat
  servoLost : Nat
  recovery : Nat
  loadWait : Timer
  loadTimer : Timer
  seekTimer : Timer
  unloadTimer : Timer
  retractTimer : Timer
  /-- The ACT output. -/
  act : Int
  source : ActSource
  deriving DecidableEq, Repr

/-- The servo record of a bay (R66). -/
structure Servo where
  P : Int
  v : Int
  fresh : Bool
  lastValid : Option Int
  k : Nat
  lastNum : Option Nat
  lastOk : Bool
  pes : Int
  pesValid : Bool
  I : Int
  deriving DecidableEq, Repr

/-! ## Write Permit Gate (R114) -/

/-- The Write Permit Gate of a bay (R114). -/
structure Gate where
  window : Bool
  /-- The WPERM output. -/
  wperm : Bool
  qualified : Bool
  held : Bool
  deriving DecidableEq, Repr

/-! ## Command Pool and Bay Schedulers (R143, R149, R155) -/

/-- The eight operations (R143), with a SEEK's track and head. -/
inductive OpKind where
  | spinUp
  | spinDown
  | loadHeads
  | unloadHeads
  | seek (track head : Nat)
  | openWrite
  | closeWrite
  | eject
  deriving DecidableEq, Repr

/-- An operation record, less its bay and place, which are where it stands (R143, R148). -/
structure Op where
  tag : Nat
  kind : OpKind
  deriving DecidableEq, Repr

/-- The causes of a failed outcome (R152). -/
inductive Cause where
  | spinFail
  | overcurrent
  | brakeTimeout
  | speedLost
  | servoLost
  | recoveryFail
  | loadTimeout
  | reserveLow
  | unloadTimeout
  | retractFail
  | jam
  | presenceLost
  | supplyFail
  | notReady
  | notTracking
  | writeProtected
  | seekTimeout
  | mediaUnknown
  | noBudget
  deriving DecidableEq, Repr

/-- The outcome of an operation (R152). -/
inductive OpOutcome where
  | success
  | cancelled
  | failed (c : Cause)
  deriving DecidableEq, Repr

/-- A completion record (R161). -/
structure Completion where
  tag : Nat
  bay : Bay
  op : OpKind
  outcome : OpOutcome
  detail : Option Nat
  deriving DecidableEq, Repr

/-- The scheduler state (R155). -/
inductive SchedState where
  | running
  | halting
  | halted
  deriving DecidableEq, Repr

/-- The halt cause (R155). -/
inductive HaltCause where
  | request
  | step
  | fault
  deriving DecidableEq, Repr

/-- The Bay Scheduler of a bay (R149, R155). -/
structure Sched where
  queue : List Op
  inflight : Option Op
  state : SchedState
  cause : Option HaltCause
  step : Bool
  lastFault : Option Cause
  deriving DecidableEq, Repr

/-! ## SAU (R68) -/

/-- The gains of a bay (R86). -/
structure Gains where
  kv : Nat
  kp : Nat
  kd : Nat
  limit : Nat
  deriving DecidableEq, Repr

/-- The computation the SAU is busy with: what was fixed when it was taken (R68), and whether it is marked
for discard (R67, R71). -/
structure Computation where
  bay : Bay
  report : Report
  gains : Gains
  profile : List Nat
  discard : Bool
  deriving DecidableEq, Repr

/-! ## Power Ledger (R48) -/

/-- The six consumers (R48). -/
inductive Consumer where
  | spindle (b : Bay)
  | actuator (b : Bay)
  | latch (b : Bay)
  deriving DecidableEq, Repr

/-- A request: an exact amount, or the largest amount of a range that fits (R48, R51). -/
inductive Req where
  | fixed (amount : Nat)
  | ranged (least most : Nat)
  deriving DecidableEq, Repr

/-- A wait-list entry (R48). -/
structure WaitEntry where
  who : Consumer
  req : Req
  deriving DecidableEq, Repr

/-- The holdings of one bay's consumers (R48). -/
structure Holdings where
  spindle : Nat
  actuator : Nat
  latch : Nat
  deriving DecidableEq, Repr

/-- The Power Ledger (R48). -/
structure Ledger where
  capacity : Nat
  effective : Nat
  holdA : Holdings
  holdB : Holdings
  wait : List WaitEntry
  deriving DecidableEq, Repr

/-! ## Sense Sequencer, Sample Store, Supply Monitor (R123, R132, R136) -/

/-- A used programmable position (R124). -/
structure SenseEntry where
  channel : Nat
  gain : Nat
  endMark : Bool
  haltMark : Bool
  notifyMark : Bool
  deriving DecidableEq, Repr

/-- The scan in progress: the position it has reached, and whether its programmable part is included (R123). -/
structure Scan where
  position : Nat
  programmable : Bool
  deriving DecidableEq, Repr

/-- The converter (R123). -/
inductive Converter where
  | idle
  | list (position : Nat)
  | now (channel gain : Nat)
  deriving DecidableEq, Repr

/-- The Sense Sequencer (R123). `active` and `replacement` are positions 6..15. -/
structure Sense where
  active : List (Option SenseEntry)
  /-- The pending list of R123. -/
  replacement : Option (List (Option SenseEntry))
  halted : Bool
  interval : Nat
  scanTimer : Timer
  scanCount : Nat
  scan : Option Scan
  /-- An expiry met a scan in progress: its scan start is made at the end of that scan (R125). -/
  scanDue : Bool
  conv : Converter
  /-- The waiting SAMPLE NOW: channel and gain code. -/
  waiting : Option (Nat × Nat)
  deriving DecidableEq, Repr

/-- The sample mode (R132). -/
inductive SampleMode where
  | image
  | history
  deriving DecidableEq, Repr

/-- An image slot (R132). -/
structure Slot where
  channel : Nat
  value : Nat
  scan : Nat
  valid : Bool
  deriving DecidableEq, Repr

/-- A history record (R132). -/
structure Record where
  position : Nat
  channel : Nat
  value : Nat
  scan : Nat
  deriving DecidableEq, Repr

/-- The Sample Store (R132): sixteen image slots and the ring, oldest first. -/
structure Store where
  mode : SampleMode
  image : List Slot
  ring : List Record
  deriving DecidableEq, Repr

/-- The supply state (R136). -/
inductive SupplyState where
  | normal
  | sag
  | fail
  deriving DecidableEq, Repr

/-- The seven limits (R136). -/
structure Limits where
  fail : Nat
  logicFail : Nat
  sag : Nat
  recover : Nat
  reserveLow : Nat
  reserveOk : Nat
  overcurrent : Nat
  deriving DecidableEq, Repr

/-- The part-wide state of the Supply Monitor (R136). -/
structure Supply where
  state : SupplyState
  good12 : Bool
  goodScans : Nat
  limits : Limits
  deriving DecidableEq, Repr

/-- The per-bay state of the Supply Monitor (R136). -/
structure Monitor where
  qualified : Bool
  reserveCount : Nat
  overcurrent : Bool
  overCount : Nat
  deriving DecidableEq, Repr

/-! ## Link Interface, Event Unit, Counter Bank (R164, R184, R186, R191) -/

/-- The link phase (R164). -/
inductive LinkPhase where
  | idle
  | receiving
  | preparing
  | holding
  deriving DecidableEq, Repr

/-- The Link Interface and its lines (R164). `held` is empty when no reply is held. -/
structure Link where
  phase : LinkPhase
  buffer : List Byte
  overflow : Bool
  held : List Byte
  readIndex : Nat
  /-- The byte of a withheld strobe (R170). -/
  withheld : Option Byte
  lockout : Bool
  resetOnRead : Bool
  lack : Bool
  lrdy : Bool
  attn : Bool
  /-- The byte the part has placed on LD0..LD7; `none` while it drives none. -/
  ld : Option Byte
  /-- The LFRM line as last seen (true is asserted). -/
  lfrm : Bool
  /-- The LDIR line as last seen (true is high). -/
  ldir : Bool
  /-- The LSTB line as last seen (true is asserted). -/
  lstb : Bool
  /-- The RESET_N line (true is high). -/
  resetN : Bool
  deriving DecidableEq, Repr

/-- The refusal reasons (R176). -/
inductive Reason where
  | badFrame
  | badBay
  | badValue
  | noCartridge
  | wrongState
  | queueFull
  | busy
  | prevented
  | ejectPending
  | inUse
  deriving DecidableEq, Repr

/-- A refusal record (R183). -/
structure RefusalRecord where
  code : Byte
  bay : Byte
  reason : Reason
  deriving DecidableEq, Repr

/-- The refusal log (R184). -/
structure RefusalLog where
  count : Nat
  first : Option RefusalRecord
  latest : Option RefusalRecord
  deriving DecidableEq, Repr

/-- The Event Unit: pending marks of the latched classes and the mask, bits as R179 numbers them (R186). -/
structure Events where
  latched : BitVec 16
  mask : BitVec 16
  deriving DecidableEq, Repr

/-- The eight counters of a bay (R191). -/
structure BayCounters where
  missedWedges : Nat
  recoverySeeks : Nat
  seekTimeouts : Nat
  writeFaults : Nat
  blockedGates : Nat
  spinUpRetries : Nat
  ejectRetries : Nat
  servoLosses : Nat
  deriving DecidableEq, Repr

/-- The five part-wide counters (R191). -/
structure PartCounters where
  completionOverwrites : Nat
  historyOverwrites : Nat
  sagEntries : Nat
  failEntries : Nat
  refusedRequests : Nat
  deriving DecidableEq, Repr

/-- The input lines of a bay whose level the part reads (00_scope.md, "Connections"). -/
structure BayPins where
  pres : Bool
  btn : Bool
  park : Bool
  wgate : Bool
  deriving DecidableEq, Repr

/-! ## The machine -/

/-- All that one bay has. -/
structure BayState where
  pins : BayPins
  cart : Cartridge
  spin : Spindle
  demod : Demod
  pos : Positioner
  servo : Servo
  gate : Gate
  sched : Sched
  gains : Gains
  /-- The holding slot of the SAU (R68). -/
  slot : Option Report
  mon : Monitor
  cnt : BayCounters
  deriving DecidableEq, Repr

/-- The 2240. -/
structure State where
  bayA : BayState
  bayB : BayState
  /-- The SAU's activity: free, or busy with a computation (R68). -/
  sau : Option Computation
  /-- The seek profile table (R83). -/
  profile : List Nat
  ledger : Ledger
  sense : Sense
  store : Store
  supply : Supply
  /-- The tag counter (R143). -/
  nextTag : Nat
  /-- The completion list, oldest first (R161). -/
  completions : List Completion
  link : Link
  refusals : RefusalLog
  events : Events
  partCnt : PartCounters
  /-- The model's own: the commands waiting, first in first out (log entry 1). -/
  pending : List Instr
  /-- The model's own: how many free values have been drawn (log entry 9). -/
  freeCount : Nat
  deriving DecidableEq, Repr

/-! ## The state right after reset, block by block -/

/-- R22 with PRES false and BTN false (log entries 7, 8). -/
def Cartridge.reset : Cartridge :=
  { state := .empty, media := none, prevent := false, pulseCount := 0, phase := none, debounce := none,
    pulseTimer := none, waitTimer := none, pressed := false, seenFalse := true, levelTimer := none,
    pressTimer := none, latch := false, lampMode := .off, lamp := false, flashTimer := none }

/-- R46. -/
def Spindle.reset : Spindle :=
  { state := .braking, attempt := 0, tachRef := false, lastPeriod := none, trim := 0, drive := 0, inside := 0,
    outside := 0, purpose := some .stop, startMark := false, brakeMark := false, tachTimer := some Const.tach,
    stageTimer := none, brakeLimit := some Const.brakeLimit, speedLost := none, sbrk := true, phases := .off }

/-- R64: no window is open until the first TACH pulse. -/
def Demod.reset : Demod := { window := none, interval := 347 }

/-- R112 with PARK true (log entry 7). -/
def Positioner.reset : Positioner :=
  { state := .parked, head := 0, hsel := 0, target := 0, pending := .none, owner := .none, acquire := 0,
    settle := 0, offTrack := 0, clean := 0, servoLost := 0, recovery := 0, loadWait := none,
    loadTimer := none, seekTimer := none, unloadTimer := none, retractTimer := none, act := 0,
    source := .none }

/-- R66. -/
def Servo.reset : Servo :=
  { P := -32, v := 0, fresh := true, lastValid := none, k := 0, lastNum := none, lastOk := false, pes := 0,
    pesValid := false, I := 0 }

/-- R122 with WGATE inactive (log entry 7). -/
def Gate.reset : Gate := { window := false, wperm := false, qualified := false, held := false }

/-- R163. -/
def Sched.reset : Sched :=
  { queue := [], inflight := none, state := .running, cause := none, step := false, lastFault := none }

/-- R86. -/
def Gains.reset : Gains := { kv := 24, kp := 12, kd := 40, limit := 12 }

/-- R142. -/
def Monitor.reset : Monitor := { qualified := false, reserveCount := 0, overcurrent := false, overCount := 0 }

/-- R191. -/
def BayCounters.reset : BayCounters :=
  { missedWedges := 0, recoverySeeks := 0, seekTimeouts := 0, writeFaults := 0, blockedGates := 0,
    spinUpRetries := 0, ejectRetries := 0, servoLosses := 0 }

/-- R191. -/
def PartCounters.reset : PartCounters :=
  { completionOverwrites := 0, historyOverwrites := 0, sagEntries := 0, failEntries := 0, refusedRequests := 0 }

/-- R62. -/
def Ledger.reset : Ledger :=
  { capacity := Const.capacityDefault, effective := Const.capacityDefault, holdA := ⟨0, 0, 0⟩, holdB := ⟨0, 0, 0⟩, wait := [] }

/-- A default entry of the sense list: this channel at gain x1 (R124). -/
def SenseEntry.plain (channel : Nat) (endMark : Bool) : SenseEntry :=
  { channel := channel, gain := 0, endMark := endMark, haltMark := false, notifyMark := false }

/-- R124, R142. -/
def Sense.reset : Sense :=
  { active := [some (.plain 6 false), some (.plain 7 false), some (.plain 8 false), some (.plain 9 false),
      some (.plain 10 false), some (.plain 11 true), none, none, none, none],
    replacement := none, halted := false, interval := 2, scanTimer := some 2000, scanCount := 0, scan := none,
    scanDue := false, conv := .idle, waiting := none }

/-- An image slot that nothing has filled (R142; its other fields: log entry 8). -/
def Slot.blank : Slot := { channel := 0, value := 0, scan := 0, valid := false }

/-- R142. -/
def Store.reset : Store := { mode := .image, image := List.replicate 16 Slot.blank, ring := [] }

/-- R136, R142. -/
def Supply.reset : Supply :=
  { state := .normal, good12 := false, goodScans := 0,
    limits := { fail := 680, logicFail := 700, sag := 740, recover := 770, reserveLow := 540,
                reserveOk := 600, overcurrent := 900 } }

/-- R164, with the adapter's lines at rest and RESET_N high (log entry 7). -/
def Link.reset : Link :=
  { phase := .idle, buffer := [], overflow := false, held := [], readIndex := 0, withheld := none,
    lockout := false, resetOnRead := false, lack := false, lrdy := false, attn := false, ld := none,
    lfrm := false, ldir := false, lstb := false, resetN := true }

/-- R184. -/
def RefusalLog.reset : RefusalLog := { count := 0, first := none, latest := none }

/-- R196. -/
def Events.reset : Events := { latched := 0, mask := 0 }

/-- The input lines the model starts with: no cartridge, button up, heads on the ramp, write gate low (log entry 7). -/
def BayPins.reset : BayPins := { pres := false, btn := false, park := true, wgate := false }

/-- A bay right after reset. -/
def BayState.reset : BayState :=
  { pins := .reset, cart := .reset, spin := .reset, demod := .reset, pos := .reset, servo := .reset,
    gate := .reset, sched := .reset, gains := .reset, slot := none, mon := .reset, cnt := .reset }

/-- The machine right after a part reset (the chapters' reset rules; log entries 7 and 8). -/
def State.reset : State :=
  { bayA := .reset, bayB := .reset, sau := none, profile := Const.profileDefault, ledger := .reset, sense := .reset,
    store := .reset, supply := .reset, nextTag := 1, completions := [], link := .reset, refusals := .reset,
    events := .reset, partCnt := .reset, pending := [], freeCount := 0 }

end Sys2Proof.Machine
end

