-- ==== Sys2Proof/Machine/Access.lean ====
section
/-! DEFINITION. How the rest of the model reads and writes State: a bay by its name, one block of a bay, one shared block.
Their lemmas, one per field per update, are Laws/State.lean. -/

namespace Sys2Proof.Machine

/-- The state of a bay. -/
def State.bay (s : State) : Bay → BayState
  | .A => s.bayA
  | .B => s.bayB

/-- Put a bay's state in place. -/
def State.setBay (s : State) (b : Bay) (x : BayState) : State :=
  match b with
  | .A => { s with bayA := x }
  | .B => { s with bayB := x }

/-- Change the `pins` of bay `b`. -/
def State.modPins (s : State) (b : Bay) (f : BayPins → BayPins) : State :=
  s.setBay b { s.bay b with pins := f (s.bay b).pins }

/-- Change the `cart` of bay `b`. -/
def State.modCart (s : State) (b : Bay) (f : Cartridge → Cartridge) : State :=
  s.setBay b { s.bay b with cart := f (s.bay b).cart }

/-- Change the `spin` of bay `b`. -/
def State.modSpin (s : State) (b : Bay) (f : Spindle → Spindle) : State :=
  s.setBay b { s.bay b with spin := f (s.bay b).spin }

/-- Change the `demod` of bay `b`. -/
def State.modDemod (s : State) (b : Bay) (f : Demod → Demod) : State :=
  s.setBay b { s.bay b with demod := f (s.bay b).demod }

/-- Change the `pos` of bay `b`. -/
def State.modPos (s : State) (b : Bay) (f : Positioner → Positioner) : State :=
  s.setBay b { s.bay b with pos := f (s.bay b).pos }

/-- Change the `servo` of bay `b`. -/
def State.modServo (s : State) (b : Bay) (f : Servo → Servo) : State :=
  s.setBay b { s.bay b with servo := f (s.bay b).servo }

/-- Change the `gate` of bay `b`. -/
def State.modGate (s : State) (b : Bay) (f : Gate → Gate) : State :=
  s.setBay b { s.bay b with gate := f (s.bay b).gate }

/-- Change the `sched` of bay `b`. -/
def State.modSched (s : State) (b : Bay) (f : Sched → Sched) : State :=
  s.setBay b { s.bay b with sched := f (s.bay b).sched }

/-- Change the `gains` of bay `b`. -/
def State.modGains (s : State) (b : Bay) (f : Gains → Gains) : State :=
  s.setBay b { s.bay b with gains := f (s.bay b).gains }

/-- Change the `slot` of bay `b`. -/
def State.modSlot (s : State) (b : Bay) (f : Option Report → Option Report) : State :=
  s.setBay b { s.bay b with slot := f (s.bay b).slot }

/-- Change the `mon` of bay `b`. -/
def State.modMon (s : State) (b : Bay) (f : Monitor → Monitor) : State :=
  s.setBay b { s.bay b with mon := f (s.bay b).mon }

/-- Change the `cnt` of bay `b`. -/
def State.modCnt (s : State) (b : Bay) (f : BayCounters → BayCounters) : State :=
  s.setBay b { s.bay b with cnt := f (s.bay b).cnt }

/-- Put the `sau` in place. -/
def State.setSau (s : State) (x : Option Computation) : State := { s with sau := x }

/-- Put the `profile` in place. -/
def State.setProfile (s : State) (x : List Nat) : State := { s with profile := x }

/-- Put the `ledger` in place. -/
def State.setLedger (s : State) (x : Ledger) : State := { s with ledger := x }

/-- Put the `sense` in place. -/
def State.setSense (s : State) (x : Sense) : State := { s with sense := x }

/-- Put the `store` in place. -/
def State.setStore (s : State) (x : Store) : State := { s with store := x }

/-- Put the `supply` in place. -/
def State.setSupply (s : State) (x : Supply) : State := { s with supply := x }

/-- Put the `nextTag` in place. -/
def State.setNextTag (s : State) (x : Nat) : State := { s with nextTag := x }

/-- Put the `completions` in place. -/
def State.setCompletions (s : State) (x : List Completion) : State := { s with completions := x }

/-- Put the `link` in place. -/
def State.setLink (s : State) (x : Link) : State := { s with link := x }

/-- Put the `refusals` in place. -/
def State.setRefusals (s : State) (x : RefusalLog) : State := { s with refusals := x }

/-- Put the `events` in place. -/
def State.setEvents (s : State) (x : Events) : State := { s with events := x }

/-- Put the `partCnt` in place. -/
def State.setPartCnt (s : State) (x : PartCounters) : State := { s with partCnt := x }

/-- Put the `freeCount` in place. -/
def State.setFreeCount (s : State) (x : Nat) : State := { s with freeCount := x }

/-- Change the Link Interface. -/
def State.modLink (s : State) (f : Link → Link) : State := s.setLink (f s.link)

/-- Change the Sense Sequencer. -/
def State.modSense (s : State) (f : Sense → Sense) : State := s.setSense (f s.sense)

/-- Change the Sample Store. -/
def State.modStore (s : State) (f : Store → Store) : State := s.setStore (f s.store)

end Sys2Proof.Machine
end

