-- ==== Sys2Proof/Machine/Operands.lean ====
section
/-! DEFINITION. Operand forms and arithmetic: clamping and rounding (00_scope.md, "Arithmetic"), the wedge code (R65), and the
bytes of frame fields (R175). -/

namespace Sys2Proof.Machine

/-! ## Clamping and rounding -/

/-- "Clamped to a..b", naturals. -/
def clampNat (lo hi x : Nat) : Nat := if x < lo then lo else if hi < x then hi else x

/-- "Clamped to a..b", integers. -/
def clampInt (lo hi x : Int) : Int := if x < lo then lo else if hi < x then hi else x

/-- The quotient "rounded toward zero". -/
def quotient (x y : Int) : Int := Int.tdiv x y

/-- The quotient of `x` by a positive `y` "rounded to nearest, halves away from zero". -/
def nearest (x : Int) (y : Nat) : Int :=
  let q : Int := ((2 * x.natAbs + y) / (2 * y) : Nat)
  if x < 0 then -q else q

/-- One more, held at `top`. -/
def bump (top n : Nat) : Nat := if n < top then n + 1 else top

/-! ## The track code of a wedge (R65) -/

/-- Fold the shifts of a Gray code together. -/
def grayFold : Nat → BitVec 10 → BitVec 10 → BitVec 10
  | 0, _, acc => acc
  | n + 1, g, acc => grayFold n (g >>> 1) (acc ^^^ g)

/-- The value 0..1023 of a 10-bit Gray code (R65). PRESUMED the reflected binary code (log entry 10). -/
def grayValue (code : BitVec 10) : Nat := (grayFold 10 code 0).toNat

/-- A burst amplitude as measured: beyond the range it reads 1023 (R65). -/
def amplitude (a : Nat) : Nat := min a 1023

/-! ## Bytes of a field, most significant first (R175) -/

/-- A byte that carries `n`. -/
def byteOf (n : Nat) : Byte := BitVec.ofNat 8 n

/-- One byte, unsigned. -/
def u8 (n : Nat) : List Byte := [byteOf n]

/-- Two bytes, unsigned. -/
def u16 (n : Nat) : List Byte := [byteOf (n / 256), byteOf n]

/-- Three bytes, unsigned. -/
def u24 (n : Nat) : List Byte := [byteOf (n / 65536), byteOf (n / 256), byteOf n]

/-- One byte, two's complement. -/
def i8 (x : Int) : List Byte := u8 (BitVec.ofInt 8 x).toNat

/-- Two bytes, two's complement. -/
def i16 (x : Int) : List Byte := u16 (BitVec.ofInt 16 x).toNat

/-- Three bytes, two's complement. -/
def i24 (x : Int) : List Byte := u24 (BitVec.ofInt 24 x).toNat

/-- A flag in a reply: 0 or 1. -/
def flag (x : Bool) : List Byte := u8 x.toNat

/-- An optional field: a presence byte, then the value's bytes, `width` zeros when it is absent. -/
def optional {α : Type} (width : Nat) (enc : α → List Byte) : Option α → List Byte
  | some x => u8 1 ++ enc x
  | none => u8 0 ++ List.replicate width 0

/-- A text: a length byte, then its characters in ASCII. -/
def text (t : String) : List Byte := u8 t.toList.length ++ t.toList.map (fun c => byteOf c.toNat)

/-- The two bytes of a 16-bit request field. -/
def split16 (x : BitVec 16) : List Byte := [x.extractLsb' 8 8, x.extractLsb' 0 8]

/-- The 16-bit request field at byte `i` of a payload. -/
def field16 (p : List Byte) (i : Nat) : BitVec 16 := p.getD i 0 ++ p.getD (i + 1) 0

/-- The request byte `i` of a payload. -/
def field8 (p : List Byte) (i : Nat) : Byte := p.getD i 0

/-- A flag in a request is off when its byte is 0 and on when it is any other value (R175). -/
def flagOf (x : Byte) : Bool := x != 0

end Sys2Proof.Machine
end

