-- ==== Sys2Proof/Machine/Flags.lean ====
section
/-! DEFINITION. Event classes, the pending set, ATTN (R173, R179, R186, R187) and the counters (R191). -/

namespace Sys2Proof.Machine

/-- The latched classes (R186) by what sets them. -/
inductive LatchedClass where
  | presence (b : Bay)
  | button (b : Bay)
  | supply
  | overcurrent (b : Bay)
  | senseNote
  | historyOverrun
  | writeFault
  deriving DecidableEq, Repr

/-- The number 0 or 1 of a bay, A first. -/
def bayIndex : Bay → Nat
  | .A => 0
  | .B => 1

/-- The bit of a latched class (R179). -/
def classBit : LatchedClass → Nat
  | .presence b => 3 + bayIndex b
  | .button b => 5 + bayIndex b
  | .supply => 7
  | .overcurrent b => 8 + bayIndex b
  | .senseNote => 10
  | .historyOverrun => 11
  | .writeFault => 12

/-- A set of one class. -/
def bitSet (n : Nat) : BitVec 16 := 1#16 <<< n

/-- The thirteen classes: bits 13..15 are not read in a request (R179). -/
def allClasses : BitVec 16 := 0x1FFF

/-- The ten latched classes: bits 3..12. -/
def latchedClasses : BitVec 16 := 0x1FF8

/-- A bay's scheduler is HALTED with cause FAULT (R153, R186). -/
def faultHalted (x : Sched) : Bool := x.state = .halted && x.cause = some .fault

/-- The condition classes whose condition holds: COMPLETION, FAULT_A, FAULT_B (R186). -/
def conditions (s : State) : BitVec 16 :=
  (if s.completions = [] then 0 else bitSet 0) |||
  (if faultHalted s.bayA.sched then bitSet 1 else 0) |||
  (if faultHalted s.bayB.sched then bitSet 2 else 0)

/-- The pending set (R186). -/
def pendingSet (s : State) : BitVec 16 := s.events.latched ||| conditions s

/-- Whether ATTN is due: a class is both pending and enabled (R187), and RESET_N is not low (R173). -/
def attnDue (s : State) : Bool := s.link.resetN && (pendingSet s &&& s.events.mask) != 0

/-- Work ATTN out afresh (R187). -/
def refreshAttn (s : State) : State := s.modLink fun l => { l with attn := attnDue s }

/-- Latch a class (R186), and work ATTN out afresh. -/
def latchEvent (c : LatchedClass) (s : State) : State :=
  refreshAttn (s.setEvents { s.events with latched := s.events.latched ||| bitSet (classBit c) })

/-- A counter's increment, saturating (R191). -/
def count (n : Nat) : Nat := bump Const.counterMax n

/-- Change the counters of a bay. -/
def countBay (b : Bay) (f : BayCounters → BayCounters) (s : State) : State := s.modCnt b f

/-- Change the part-wide counters. -/
def countPart (f : PartCounters → PartCounters) (s : State) : State := s.setPartCnt (f s.partCnt)

end Sys2Proof.Machine
end

