-- ==== Sys2Proof/Machine/Ledger.lean ====
section
/-! DEFINITION. The Power Ledger as a block of its own: requests, grants, reductions, withdrawals, the wait list and its re-examination
(R48 to R60). What a consumer does on an answer is Ops.lean. -/

namespace Sys2Proof.Machine

/-- A grant: the consumer and its new total (R51). -/
abbrev Grant := Consumer × Nat

/-- The holding of a consumer. -/
def Ledger.hold (l : Ledger) : Consumer → Nat
  | .spindle .A => l.holdA.spindle
  | .spindle .B => l.holdB.spindle
  | .actuator .A => l.holdA.actuator
  | .actuator .B => l.holdB.actuator
  | .latch .A => l.holdA.latch
  | .latch .B => l.holdB.latch

/-- Put a consumer's holding in place. -/
def Ledger.setHold (l : Ledger) (c : Consumer) (n : Nat) : Ledger :=
  match c with
  | .spindle .A => { l with holdA := { l.holdA with spindle := n } }
  | .spindle .B => { l with holdB := { l.holdB with spindle := n } }
  | .actuator .A => { l with holdA := { l.holdA with actuator := n } }
  | .actuator .B => { l with holdB := { l.holdB with actuator := n } }
  | .latch .A => { l with holdA := { l.holdA with latch := n } }
  | .latch .B => { l with holdB := { l.holdB with latch := n } }

/-- The total of one bay's holdings. -/
def Holdings.sum (h : Holdings) : Nat := h.spindle + h.actuator + h.latch

/-- The reservation sum (R48). -/
def Ledger.sum (l : Ledger) : Nat := l.holdA.sum + l.holdB.sum

/-- The amount of a fixed request, or the minimum of a ranged one (R52). -/
def Req.need : Req → Nat
  | .fixed a => a
  | .ranged m _ => m

/-- Whether a request of the consumer waits. -/
def Ledger.waits (l : Ledger) (c : Consumer) : Bool := l.wait.any fun e : WaitEntry => e.who = c

/-- The total a request would be granted now, if it fits (R53). -/
def Ledger.fit (l : Ledger) (c : Consumer) (r : Req) : Option Nat :=
  if l.sum - l.hold c + r.need ≤ l.effective then
    match r with
    | .fixed a => some a
    | .ranged _ m => some (min m (l.effective + l.hold c - l.sum))
  else none

/-- Grant the heads of this list while they fit, and leave the rest waiting (R56). -/
def Ledger.grantHeads (l : Ledger) : List WaitEntry → Ledger × List Grant
  | [] => ({ l with wait := [] }, [])
  | e :: es =>
    match l.fit e.who e.req with
    | some g =>
      let r := (l.setHold e.who g).grantHeads es
      (r.1, (e.who, g) :: r.2)
    | none => ({ l with wait := e :: es }, [])

/-- Re-examine the wait list (R56). -/
def Ledger.reexamine (l : Ledger) : Ledger × List Grant := l.grantHeads l.wait

/-- Give a holding back down to `total`, 0 for a release: nothing if it is not lower, else re-examined (R55). -/
def Ledger.lower (l : Ledger) (c : Consumer) (total : Nat) : Ledger × List Grant :=
  if total < l.hold c then (l.setHold c total).reexamine else (l, [])

/-- Take a consumer's waiting request off the list, then re-examine; nothing if none waits (R57). -/
def Ledger.withdraw (l : Ledger) (c : Consumer) : Ledger × List Grant :=
  if l.waits c then ({ l with wait := l.wait.filter fun e : WaitEntry => e.who ≠ c }).reexamine else (l, [])

/-- What became of a request (R51, R52, R54). -/
structure Answer where
  ledger : Ledger
  grants : List Grant
  noBudget : Bool
  deriving DecidableEq, Repr

/-- Take a request (R51 to R54). One of a consumer that already waits replaces the earlier one in its place. -/
def Ledger.request (l : Ledger) (c : Consumer) (r : Req) : Answer :=
  if l.waits c then
    if l.capacity < r.need then
      let x := l.withdraw c
      { ledger := x.1, grants := x.2, noBudget := true }
    else
      let x := ({ l with wait := l.wait.map fun e : WaitEntry => if e.who = c then ⟨c, r⟩ else e }).reexamine
      { ledger := x.1, grants := x.2, noBudget := false }
  else if l.capacity < r.need then { ledger := l, grants := [], noBudget := true }
  else
    match l.wait, l.fit c r with
    | [], some g => { ledger := l.setHold c g, grants := [(c, g)], noBudget := false }
    | _, _ => { ledger := { l with wait := l.wait ++ [⟨c, r⟩] }, grants := [], noBudget := false }

/-- The effective capacity of a capacity in a supply state (R59, R60). -/
def effectiveOf (capacity : Nat) : SupplyState → Nat
  | .normal => capacity
  | .sag => 3 * capacity / 4
  | .fail => 0

/-- Take a capacity not below the sum: E afresh, and the entries that exceed it removed, before the
re-examination (R58). Answers the consumers to be told NO_BUDGET, in list order. -/
def Ledger.take (l : Ledger) (capacity : Nat) (supply : SupplyState) : Ledger × List Consumer :=
  ({ l with capacity := capacity, effective := effectiveOf capacity supply,
            wait := l.wait.filter fun e : WaitEntry => e.req.need ≤ capacity },
   (l.wait.filter fun e : WaitEntry => capacity < e.req.need).map WaitEntry.who)

/-- A supply state other than FAIL: E afresh, and the list re-examined (R59). -/
def Ledger.supply (l : Ledger) (x : SupplyState) : Ledger × List Grant :=
  ({ l with effective := effectiveOf l.capacity x }).reexamine

/-- The supply state becomes FAIL: E is 0 and every entry is removed (R60). -/
def Ledger.failed (l : Ledger) : Ledger := { l with effective := 0, wait := [] }

end Sys2Proof.Machine
end

