-- ==== Sys2Proof/Machine/Ops.lean ====
section
/-! DEFINITION. The named operations that several blocks share: the lamp, completion records, the write window, the servo history, the
loads, seeks, latch pulses and attempts a grant begins, and the ledger's answers handed to their consumers. -/

namespace Sys2Proof.Machine

/-! ## What one block reads of another (R5, R12, R37, R65) -/

/-- "Loaded", which is also "reporting": LOADING, ACQUIRING, FOLLOWING, SEEKING, SETTLING (R65, R89). -/
def PosState.loaded : PosState → Bool
  | .loading | .acquiring | .following | .seeking | .settling => true
  | _ => false

/-- The six states that defer a brake order: the loaded ones and UNLOADING (R37). -/
def PosState.defersBrake : PosState → Bool
  | .unloading => true
  | p => p.loaded

/-- Under regulation: LOCKED or UNLOCKED (R90). -/
def SpinState.regulated : SpinState → Bool
  | .locked | .unlocked => true
  | _ => false

/-- The mechanisms of a bay are at rest (01, section 1.1). -/
def atRest (b : Bay) (s : State) : Bool :=
  (s.bay b).pos.state = .parked && (s.bay b).spin.state = .stopped

/-- The holding of a consumer. -/
def State.hold (s : State) (c : Consumer) : Nat := s.ledger.hold c

/-- The last track of the bay's media record, if it has one (R5). -/
def lastTrack (b : Bay) (s : State) : Option Nat := (s.bay b).cart.media.bind Media.lastTrack

/-! ## The bay lamp (R21) -/

/-- The mode that the first condition that holds gives (R21). -/
def lampModeOf (c : Cartridge) (x : Sched) : LampMode :=
  if c.state = .jammed || faultHalted x then .flashing
  else if x.inflight.isSome || c.state = .releasePending || c.state = .ejecting then .steady
  else .off

/-- Drive the lamp in a mode: a change of mode acts at once, flashing starts with the lamp on, and a mode that
goes on keeps its rhythm (R21). -/
def Cartridge.drive (m : LampMode) (c : Cartridge) : Cartridge :=
  if m = c.lampMode then c
  else
    match m with
    | .off => { c with lampMode := .off, lamp := false, flashTimer := none }
    | .steady => { c with lampMode := .steady, lamp := true, flashTimer := none }
    | .flashing => { c with lampMode := .flashing, lamp := true, flashTimer := some Const.flash }

/-- Work the lamp of a bay out again (R21). -/
def lampUpdate (b : Bay) (s : State) : State :=
  s.modCart b (Cartridge.drive (lampModeOf (s.bay b).cart (s.bay b).sched))

/-- Change a bay's Cartridge Controller in a way that may change its state: the lamp follows (R21). -/
def changeCart (b : Bay) (f : Cartridge → Cartridge) (s : State) : State := lampUpdate b (s.modCart b f)

/-- Change a bay's scheduler: the lamp and the FAULT condition follow (R21, R186). -/
def changeSched (b : Bay) (f : Sched → Sched) (s : State) : State := refreshAttn (lampUpdate b (s.modSched b f))

/-! ## Completion records (R151, R161) -/

/-- Append a record to the completion list; a full list loses its oldest, counted (R161). -/
def appendRecord (r : Completion) (s : State) : State :=
  let s' :=
    if s.completions.length < Const.completionSize then s
    else countPart (fun c => { c with completionOverwrites := count c.completionOverwrites })
      (s.setCompletions (s.completions.drop (s.completions.length + 1 - Const.completionSize)))
  refreshAttn (s'.setCompletions (s'.completions ++ [r]))

/-- The detail a record carries (R152). -/
def detailOf (x : BayState) (k : OpKind) (o : OpOutcome) : Option Nat :=
  match k, o with
  | .spinUp, _ => some x.spin.attempt
  | .seek track _, .success => some track
  | .loadHeads, .success => some x.pos.target
  | _, _ => none

/-- Write the record of an operation of a bay. -/
def writeRecord (b : Bay) (op : Op) (o : OpOutcome) (s : State) : State :=
  appendRecord { tag := op.tag, bay := b, op := op.kind, outcome := o, detail := detailOf (s.bay b) op.kind o } s

/-- The in-flight operation ends: its record, its slot, and HALTING becomes HALTED (R151 steps 1 to 3 for an outcome
that is not fatal). With nothing in flight the completion is dropped. The next taking is judged when the event has
had its whole effect (log entry 6). -/
def completeOp (b : Bay) (o : OpOutcome) (s : State) : State :=
  match (s.bay b).sched.inflight with
  | none => s
  | some op =>
    changeSched b (fun x => { x with inflight := none, state := if x.state = .halting then .halted else x.state })
      (writeRecord b op o s)

/-- Whether the in-flight operation of a bay is of this kind. -/
def inflightIs (b : Bay) (p : OpKind → Bool) (s : State) : Bool :=
  match (s.bay b).sched.inflight with
  | some op => p op.kind
  | none => false

/-- End the in-flight operation if it is of this kind. -/
def completeIf (b : Bay) (p : OpKind → Bool) (o : OpOutcome) (s : State) : State :=
  if inflightIs b p s then completeOp b o s else s

def OpKind.isSpinUp : OpKind → Bool
  | .spinUp => true
  | _ => false

def OpKind.isSpinDown : OpKind → Bool
  | .spinDown => true
  | _ => false

def OpKind.isLoad : OpKind → Bool
  | .loadHeads => true
  | _ => false

def OpKind.isUnload : OpKind → Bool
  | .unloadHeads => true
  | _ => false

def OpKind.isSeek : OpKind → Bool
  | .seek _ _ => true
  | _ => false

def OpKind.isEject : OpKind → Bool
  | .eject => true
  | _ => false

/-- Every queued operation of a bay completes CANCELLED, oldest first (R11, R19, R159). -/
def cancelAll (b : Bay) : List Op → State → State
  | [], s => s
  | op :: ops, s => cancelAll b ops (writeRecord b op .cancelled s)

/-- Empty the bay queue by cancellation. -/
def cancelQueue (b : Bay) (s : State) : State :=
  let ops := (s.bay b).sched.queue
  cancelAll b ops (s.modSched b fun x => { x with queue := [] })

/-! ## The write window and the servo history -/

/-- Close the write window (R119); WPERM follows when the gate is worked out afresh. -/
def closeWindow (b : Bay) (s : State) : State := s.modGate b fun g => { g with window := false }

/-- Clear the wedge qualification (R116). -/
def clearQualified (b : Bay) (s : State) : State := s.modGate b fun g => { g with qualified := false }

/-- Drop the SAU's work for a bay: the held report, and the computation in progress marked for discard, neither of them
counted (R67, R71). -/
def dropSauWork (b : Bay) (s : State) : State :=
  let s := s.setBay b { s.bay b with slot := none }
  s.setSau (s.sau.map fun c => if c.bay = b then { c with discard := true } else c)

/-- A history reset (R67), which also clears the wedge qualification (R116). -/
def historyReset (b : Bay) (s : State) : State :=
  clearQualified b <| dropSauWork b <| s.modServo b fun x =>
    { x with v := 0, fresh := true, lastValid := none, lastNum := none, k := 0, lastOk := false }

/-- Set the target track; a change of it clears the wedge qualification (R116). -/
def setTarget (b : Bay) (t : Nat) (s : State) : State :=
  let s' := s.modPos b fun p => { p with target := t }
  if t = (s.bay b).pos.target then s' else clearQualified b s'

/-- The nearest track to P: P / 64 to nearest, clamped to 0..the last track (R77). A record without a last
track cannot be met with heads loaded; the clamp is then to 611, the top of the target's range (log entry 17). -/
def nearestTrack (b : Bay) (s : State) : Nat :=
  (clampInt 0 ((lastTrack b s).getD 611) (nearest (s.bay b).servo.P 64)).toNat

/-- The speed-lost timer runs while the spindle is UNLOCKED and the heads are on the platter (R36). -/
def speedLostUpdate (b : Bay) (s : State) : State :=
  let want : Bool := (s.bay b).spin.state = .unlocked && (s.bay b).pos.state.loaded
  s.modSpin b fun x =>
    { x with speedLost := if want then (if x.speedLost.isSome then x.speedLost else some Const.speedLost) else none }

/-! ## The phase drives (R25) -/

/-- What SPH1..SPH3 carry in a spindle state while current flows (R25). -/
def SpinState.phases : SpinState → PhaseDrive
  | .aligning => .fixed
  | .ramping | .locking | .locked | .unlocked => .commutated
  | .stopped | .waitPower | .braking | .fault => .off

/-- What SPH1..SPH3 carry in a spindle state at a drive code: "with drive code 0 the phase drives are off" (R25). -/
def SpinState.phasesAt (x : SpinState) (code : Nat) : PhaseDrive := if code = 0 then .off else x.phases

/-- The spindle takes a drive code in the state it is in, the phase drives with it (R25). -/
def Spindle.driven (code : Nat) (x : Spindle) : Spindle := { x with drive := code, phases := x.state.phasesAt code }

/-! ## What a grant begins (R32, R94, R95, R98, R15) -/

/-- Entry to ALIGNING at the grant of a spin-up's 180 (R31, R32). -/
def enterAligning (b : Bay) (s : State) : State :=
  if (s.bay b).spin.state = .waitPower then
    s.modSpin b fun x =>
      Spindle.driven Const.alignDrive { x with state := .aligning, sbrk := false, stageTimer := some Const.stageAlign }
  else s

/-- Entry to LOADING (R95). -/
def enterLoading (b : Bay) (s : State) : State :=
  let s := historyReset b s
  let s := s.modPos b fun p =>
    { p with state := .loading, head := 0, hsel := 0, pending := .none, owner := .none, servoLost := 0, recovery := 0,
             loadWait := none, loadTimer := some Const.load, act := Const.loadCode, source := .rail }
  speedLostUpdate b s

/-- Whether a load wait stands. -/
def loadWaiting (b : Bay) (s : State) : Bool := (s.bay b).pos.state = .parked && (s.bay b).pos.pending = .load

/-- Judge a load wait: with the 30 held and the reserve qualified, a LOCKED spindle lets LOADING be entered (R94). -/
def tryLoading (b : Bay) (s : State) : State :=
  if loadWaiting b s && Const.followUnits ≤ s.hold (.actuator b) && (s.bay b).mon.qualified &&
      (s.bay b).spin.state = .locked then
    enterLoading b s
  else s

/-- Bring ACT within a new total (R55, R81). -/
def clampAct (b : Bay) (total : Nat) (s : State) : State :=
  s.modPos b fun p => { p with act := clampInt (-total) total p.act }

/-- Entry to SEEKING at the grant of a seek or recovery request (R98). -/
def enterSeeking (b : Bay) (owner : SeekOwner) (s : State) : State :=
  s.modPos b fun p =>
    { p with state := .seeking, pending := .none, owner := owner, settle := 0, offTrack := 0, clean := 0,
             seekTimer := some Const.seek, source := .rail }

/-- Take the head a SEEK names: a change switches HSEL and orders a history reset (R98). -/
def switchHead (b : Bay) (head : Nat) (s : State) : State :=
  if head = (s.bay b).pos.head then s
  else historyReset b (s.modPos b fun p => { p with head := head, hsel := head })

/-- A grant reaches the actuator consumer (R94, R98): ACT is clamped to it, and what the pending request
asked for begins. -/
def actuatorGranted (b : Bay) (total : Nat) (s : State) : State :=
  let s := clampAct b total s
  if (s.bay b).pos.state = .following || (s.bay b).pos.state = .settling then
    match (s.bay b).pos.pending with
    | .seek track head => enterSeeking b .operation (switchHead b head (setTarget b track s))
    | .recovery => enterSeeking b .recovery s
    | _ => s
  else tryLoading b s

/-- Start a latch pulse at the grant of its 120 (R15), with the mechanisms at rest (R16). -/
def startPulse (b : Bay) (total : Nat) (s : State) : State :=
  if (s.bay b).cart.state = .releasePending && atRest b s && total = Const.latchUnits then
    let n := bump 3 (s.bay b).cart.pulseCount
    let s := if 2 ≤ n then countBay b (fun c => { c with ejectRetries := count c.ejectRetries }) s else s
    changeCart b (fun c =>
      { c with state := .ejecting, phase := some .pulse, latch := true, pulseCount := n, pulseTimer := some Const.latchPulse }) s
  else s

/-- Tell a consumer of its grant. -/
def tellGrant (s : State) (g : Grant) : State :=
  match g with
  | (.spindle b, _) => enterAligning b s
  | (.actuator b, total) => actuatorGranted b total s
  | (.latch b, total) => startPulse b total s

/-- Tell the consumers of their grants, in list order (R56). -/
def tellGrants (gs : List Grant) (s : State) : State := gs.foldl tellGrant s

/-- Tell a consumer NO_BUDGET: a spindle returns to STOPPED and its SPIN UP fails (R31), a latch abandons its release
cycle (R14). An actuator is never told so (R58). -/
def tellNoBudget (c : Consumer) (s : State) : State :=
  match c with
  | .spindle b =>
    if (s.bay b).spin.state = .waitPower then
      completeIf b OpKind.isSpinUp (.failed .noBudget) (s.modSpin b fun x => { x with state := .stopped })
    else s
  | .latch b =>
    if (s.bay b).cart.state = .releasePending then
      completeIf b OpKind.isEject (.failed .noBudget)
        (changeCart b (fun c => { c with state := .seated, pulseCount := 0, phase := none }) s)
    else s
  | .actuator _ => s

/-! ## The consumer's side of the ledger (R51, R55, R57) -/

/-- Make a request and act on its answer. -/
def ask (c : Consumer) (r : Req) (s : State) : State :=
  let a := s.ledger.request c r
  let s := tellGrants a.grants (s.setLedger a.ledger)
  if a.noBudget then tellNoBudget c s else s

/-- Reduce a holding, or release it with `total` 0. -/
def lowerHolding (c : Consumer) (total : Nat) (s : State) : State :=
  let x := s.ledger.lower c total
  tellGrants x.2 (s.setLedger x.1)

/-- Withdraw a waiting request. -/
def withdrawRequest (c : Consumer) (s : State) : State :=
  let x := s.ledger.withdraw c
  tellGrants x.2 (s.setLedger x.1)

/-! ## The load wait and the latch (R94, R103, R14, R16) -/

/-- A load wait ends: its timer stops, nothing is pending, its request is withdrawn or its 30 released (R94, R103). -/
def endLoadWait (b : Bay) (s : State) : State :=
  if loadWaiting b s then
    lowerHolding (.actuator b) 0 <| withdrawRequest (.actuator b) <|
      s.modPos b fun p => { p with pending := .none, loadWait := none }
  else s

/-- A load wait fails with this cause (R94). -/
def failLoadWait (b : Bay) (c : Cause) (s : State) : State :=
  if loadWaiting b s then completeIf b OpKind.isLoad (.failed c) (endLoadWait b s) else s

/-- The end of a pulse: LATCH off, the 120 released, phase WAIT, the wait timer started (R15). -/
def endPulse (b : Bay) (s : State) : State :=
  lowerHolding (.latch b) 0 <| s.modCart b fun c =>
    { c with latch := false, phase := some .wait, pulseTimer := none, waitTimer := some Const.latchWait }

/-- A change of the mechanisms during the pulse cuts it (R16). -/
def cutPulse (b : Bay) (s : State) : State :=
  if (s.bay b).cart.state = .ejecting && (s.bay b).cart.phase = some .pulse && !atRest b s then endPulse b s else s

/-- While RELEASE_PENDING: at rest the latch asks for its 120, and a request that waits is withdrawn when the
mechanisms cease to be at rest (R12, R14). -/
def judgeLatch (b : Bay) (s : State) : State :=
  if (s.bay b).cart.state = .releasePending then
    if atRest b s then
      if s.ledger.waits (.latch b) then s else ask (.latch b) (.fixed Const.latchUnits) s
    else withdrawRequest (.latch b) s
  else s

end Sys2Proof.Machine
end

