-- ==== Sys2Proof/Machine/Spindle.lean ====
section
/-! DEFINITION. The Spindle Controller of a bay: braking, stopping, attempts, cancellation, and the fatal outcomes that act on a spin-up
(R24 to R47, R153). -/

namespace Sys2Proof.Machine

/-! ## Speed (R27, R28, R29, R33) -/

/-- The target period (R27). -/
def targetPeriod (trim : Int) : Int := Const.nominalPeriod + 4 * trim

/-- A period inside the lock window (R28). -/
def insideWindow (trim : Int) (period : Nat) : Bool := ((period : Int) - targetPeriod trim).natAbs ≤ Const.lockWindow

/-- The drive code of a period, clamped to 0..the reservation held (R29). -/
def driveCode (trim : Int) (period held : Nat) : Nat :=
  (clampInt 0 held (Const.driveBase + quotient ((period : Int) - targetPeriod trim) 4)).toNat

/-- Whether a period ends RAMPING (R33). -/
def rampDone (trim : Int) (period : Nat) : Bool := (period : Int) ≤ targetPeriod trim + Const.rampExcess

/-- The revolution a TACH pulse measures: none without a reference, and none for a pulse later than 500 ms after its
predecessor, which finds no reference (R26; log entry 22). -/
def measured (tachRef : Bool) (elapsed : Nat) : Option Nat :=
  if tachRef && 1 ≤ elapsed && elapsed ≤ Const.longestPeriod then some elapsed else none

/-! ## Changes of the spindle state (R45) -/

/-- What the other blocks of the bay do at a change of the spindle state: the speed-lost timer (R36), the load wait
(R94), the latch pulse (R16), a waiting release (R12, R14). -/
def spindleChanged (b : Bay) (s : State) : State :=
  let s := speedLostUpdate b s
  let s := if (s.bay b).spin.state.regulated then tryLoading b s else failLoadWait b .notReady s
  judgeLatch b (cutPulse b s)

/-- Entry to BRAKING (R38). -/
def enterBraking (b : Bay) (p : BrakePurpose) (s : State) : State :=
  let s := s.modSpin b fun x =>
    { x with state := .braking, drive := 0, phases := .off, sbrk := true, inside := 0, outside := 0, purpose := some p,
             brakeMark := false, stageTimer := none, speedLost := none, tachTimer := some Const.tach,
             brakeLimit := some Const.brakeLimit }
  spindleChanged b (lowerHolding (.spindle b) 0 s)

/-- Entry to STOPPED (R25, R38). -/
def enterStopped (b : Bay) (s : State) : State :=
  spindleChanged b <| s.modSpin b fun x =>
    { x with state := .stopped, drive := 0, phases := .off, sbrk := false, purpose := none, startMark := false,
             brakeMark := false, stageTimer := none, brakeLimit := none }

/-- Entry to FAULT (R25, R38, R39). -/
def enterSpinFault (b : Bay) (s : State) : State :=
  spindleChanged b <| s.modSpin b fun x =>
    { x with state := .fault, drive := 0, phases := .off, sbrk := true, purpose := none, startMark := false,
             brakeMark := false, stageTimer := none, brakeLimit := none }

/-- A request waiting in WAIT_POWER is withdrawn and the spindle is STOPPED (R31). -/
def abandonPower (b : Bay) (s : State) : State := enterStopped b (withdrawRequest (.spindle b) s)

/-- A brake order (R37). -/
def brakeOrder (b : Bay) (s : State) : State :=
  match (s.bay b).spin.state with
  | .stopped | .fault | .braking => s
  | .waitPower => abandonPower b s
  | .aligning | .ramping | .locking | .locked | .unlocked =>
    if (s.bay b).pos.state.defersBrake then s.modSpin b fun x => { x with brakeMark := true }
    else enterBraking b .stop s

/-- The brake purpose after a cancellation, a fatal outcome of another block, or a supply failure: RETRY and SPIN_FAIL
become STOP, OVERCURRENT is kept; the start mark is cleared (R38). -/
def mergeStop (b : Bay) (s : State) : State :=
  s.modSpin b fun x =>
    { x with purpose := (if x.purpose = some .overcurrent then x.purpose else some .stop), startMark := false }

/-- How a cancellation of its SPIN UP acts on a spindle (R43). -/
def cancelOnSpindle (b : Bay) (s : State) : State :=
  match (s.bay b).spin.state with
  | .waitPower => abandonPower b s
  | .aligning | .ramping | .locking => enterBraking b .stop s
  | .braking => mergeStop b s
  | .stopped | .locked | .unlocked | .fault => s

/-- The in-flight SPIN UP is cancelled (R43): from WAIT_POWER it completes CANCELLED at once, otherwise at the stop. -/
def cancelSpinUp (b : Bay) (s : State) : State :=
  if inflightIs b OpKind.isSpinUp s then
    if (s.bay b).spin.state = .waitPower then cancelOnSpindle b (completeOp b .cancelled s)
    else cancelOnSpindle b s
  else s

/-! ## Fatal outcomes (R153) -/

/-- The in-flight operation fails with the cause, the cause becomes the last fault, and the scheduler is HALTED with cause
FAULT (R153). -/
def faultHalt (b : Bay) (c : Cause) (s : State) : State :=
  changeSched b (fun x => { x with state := .halted, cause := some .fault, lastFault := some c })
    (completeOp b (.failed c) s)

/-- A fatal outcome is raised on a bay: the write window closes (R119), the scheduler fault-halts (R153). -/
def raiseOutcome (b : Bay) (c : Cause) (s : State) : State := faultHalt b c (closeWindow b s)

/-- A fatal outcome raised on a bay, a SPIN UP it ended acting on the spindle as a cancellation does (R43). -/
def raiseFatal (b : Bay) (c : Cause) (s : State) : State :=
  let wasSpinUp := inflightIs b OpKind.isSpinUp s
  let s := raiseOutcome b c s
  if wasSpinUp then cancelOnSpindle b s else s

/-! ## Attempts and the stop of the platter (R30, R38, R40) -/

/-- Ask for 180 and wait for it in WAIT_POWER, as attempt `n` (R30, R31, R40). -/
def askPower (b : Bay) (n : Nat) (s : State) : State :=
  let s := s.modSpin b fun x =>
    { x with state := .waitPower, attempt := n, drive := 0, phases := .off, sbrk := false, purpose := none, brakeLimit := none }
  ask (.spindle b) (.fixed Const.spinUpUnits) (spindleChanged b s)

/-- The attempt of R30 from STOPPED: under an active overcurrent the spindle is FAULT and the fault is raised. -/
def beginAttempt (b : Bay) (s : State) : State :=
  if (s.bay b).mon.overcurrent then raiseFatal b .overcurrent (enterSpinFault b s) else askPower b 1 s

/-- The stop of a braking platter, by brake purpose and start mark (R38). A SPIN UP still in flight without its start mark
is a cancelled one, under purpose OVERCURRENT too (R43; log entry 16). -/
def platterStop (b : Bay) (s : State) : State :=
  let x := (s.bay b).spin
  match x.purpose with
  | some .retry =>
    askPower b (bump 3 x.attempt) (countBay b (fun c => { c with spinUpRetries := count c.spinUpRetries }) s)
  | some .spinFail => raiseFatal b .spinFail (enterSpinFault b s)
  | some .overcurrent =>
    let s := enterSpinFault b s
    if x.startMark && inflightIs b OpKind.isSpinUp s then raiseFatal b .spinFail s
    else completeIf b OpKind.isSpinDown (.failed .notReady) (completeIf b OpKind.isSpinUp .cancelled s)
  | some .stop | none =>
    if x.startMark then
      beginAttempt b (s.modSpin b fun y =>
        { y with state := .stopped, sbrk := false, purpose := none, startMark := false, brakeLimit := none })
    else
      enterStopped b (completeIf b OpKind.isSpinUp .cancelled (completeIf b OpKind.isSpinDown .success s))

/-- A failed attempt (R40). -/
def failAttempt (b : Bay) (s : State) : State :=
  enterBraking b (if (s.bay b).spin.attempt < 3 then .retry else .spinFail) s

/-! ## Lock (R33, R34, R35) -/

/-- The revolution that ends RAMPING enters LOCKING (R33, R34). -/
def enterLocking (b : Bay) (period : Nat) (s : State) : State :=
  let held := s.hold (.spindle b)
  spindleChanged b <| s.modSpin b fun x =>
    Spindle.driven (driveCode x.trim period held)
      { x with state := .locking, inside := 0, outside := 0, stageTimer := some Const.stageLock }

/-- The eighth inside revolution of LOCKING: drive within 40, the reservation reduced, the SPIN UP complete (R34). -/
def lockEntry (b : Bay) (s : State) : State :=
  let s := s.modSpin b fun x =>
    Spindle.driven (min x.drive Const.runUnits) { x with state := .locked, inside := 0, outside := 0, stageTimer := none }
  spindleChanged b (completeIf b OpKind.isSpinUp .success (lowerHolding (.spindle b) Const.runUnits s))

/-- LOCKED to UNLOCKED and back (R35). -/
def moveLock (b : Bay) (goal : SpinState) (s : State) : State :=
  spindleChanged b (s.modSpin b fun x => { x with state := goal, inside := 0, outside := 0 })

/-- Count a revolution toward lock, inside the window or outside (R28). -/
def countRevolution (b : Bay) (inside : Bool) (s : State) : State :=
  let x := (s.bay b).spin
  match x.state, inside with
  | .locking, true => if 8 ≤ x.inside + 1 then lockEntry b s else s.modSpin b fun x => { x with inside := x.inside + 1 }
  | .unlocked, true => if 8 ≤ x.inside + 1 then moveLock b .locked s else s.modSpin b fun x => { x with inside := x.inside + 1 }
  | .locking, false | .unlocked, false => s.modSpin b fun x => { x with inside := 0 }
  | .locked, true => s.modSpin b fun x => { x with outside := 0 }
  | .locked, false => if 2 ≤ x.outside + 1 then moveLock b .unlocked s else s.modSpin b fun x => { x with outside := x.outside + 1 }
  | _, _ => s

/-- Judge a measured revolution (R26, R28, R29, R33). -/
def judgeRevolution (b : Bay) (period : Nat) (s : State) : State :=
  let x := (s.bay b).spin
  match x.state with
  | .ramping => if rampDone x.trim period then enterLocking b period s else s
  | .locking | .locked | .unlocked =>
    let held := s.hold (.spindle b)
    countRevolution b (insideWindow x.trim period) (s.modSpin b fun y => y.driven (driveCode y.trim period held))
  | _ => s

/-- An expiry of the tach timer counts as a revolution outside the window, at the reservation held (R26, R29). -/
def missedRevolution (b : Bay) (s : State) : State :=
  let held := s.hold (.spindle b)
  countRevolution b false (s.modSpin b fun y => Spindle.driven held { y with tachTimer := some Const.tach })

end Sys2Proof.Machine
end

