-- ==== Sys2Proof/Machine/Positioner.lean ====
section
/-! DEFINITION. The Positioner Controller of a bay: unload, retract, fault, cancellation, and what each wedge does to its counts (R88 to R113). -/

namespace Sys2Proof.Machine

/-! ## Changes of the positioner state (R111) -/

/-- What the other blocks of the bay do at a change of the positioner state: the SAU drops its work and the wedge
qualification goes outside the reporting states (R71, R116), the speed-lost timer follows (R36), a deferred brake order
is carried out (R37), a waiting release gives its brake order (R12), the latch pulse and the latch request are judged
(R14, R16). -/
def posChanged (b : Bay) (s : State) : State :=
  let s := if (s.bay b).pos.state.loaded then s else clearQualified b (dropSauWork b s)
  let s := speedLostUpdate b s
  let s := if (s.bay b).spin.brakeMark && !(s.bay b).pos.state.defersBrake then brakeOrder b s else s
  let s := if (s.bay b).cart.state = .releasePending && !(s.bay b).pos.state.defersBrake then brakeOrder b s else s
  judgeLatch b (cutPulse b s)

/-- Withdraw the actuator's pending request: nothing is pending (R57). -/
def dropPending (b : Bay) (s : State) : State :=
  withdrawRequest (.actuator b) (s.modPos b fun p => { p with pending := .none })

/-- Entry to PARKED, PARK being true: ACT 0, the holding released; what waits for PARKED completes (R104, R105, R107,
R109). -/
def enterParked (b : Bay) (s : State) : State :=
  let s := s.modPos b fun p =>
    { p with state := .parked, act := 0, source := .none, owner := .none, unloadTimer := none, retractTimer := none }
  let s := lowerHolding (.actuator b) 0 s
  let s := completeIf b OpKind.isUnload .success s
  let s := completeIf b (fun k => k.isLoad || k.isSeek) .cancelled s
  posChanged b s

/-- Entry to FAULT: ACT 0, the holding released (R104, R107, R108). -/
def enterPosFault (b : Bay) (s : State) : State :=
  let s := s.modPos b fun p =>
    { p with state := .fault, act := 0, source := .none, owner := .none, unloadTimer := none, retractTimer := none }
  posChanged b (lowerHolding (.actuator b) 0 s)

/-- Entry to UNLOADING from a loaded state: the pending request is withdrawn, ACT takes -25, the holding is at most 60
(R103, R104). PARK may already be true. Of the two ledger events the withdrawal comes first (DESIGN CHOICE, log entry 45). -/
def enterUnloading (b : Bay) (s : State) : State :=
  let s := s.modPos b fun p =>
    { p with state := .unloading, act := Const.unloadCode, source := .rail, owner := .none, loadWait := none,
             loadTimer := none, seekTimer := none, unloadTimer := some Const.unload }
  let s := lowerHolding (.actuator b) Const.unloadUnits (dropPending b s)
  let s := posChanged b s
  if (s.bay b).pins.park then enterParked b s else s

/-- An unload order (R103). -/
def unloadOrder (b : Bay) (s : State) : State :=
  if (s.bay b).pos.state.loaded then enterUnloading b s
  else if (s.bay b).pos.state = .parked then endLoadWait b s
  else s

/-- Entry to RETRACTING: ACT takes -60 from the reserve, the pending request is withdrawn, the holding is released whole
(R107). PARK may already be true. Of the two ledger events the withdrawal comes first (DESIGN CHOICE, log entry 45). -/
def enterRetracting (b : Bay) (s : State) : State :=
  let s := s.modPos b fun p =>
    { p with state := .retracting, act := Const.retractCode, source := .reserve, owner := .none, loadWait := none,
             loadTimer := none, seekTimer := none, unloadTimer := none, retractTimer := some Const.retract }
  let s := lowerHolding (.actuator b) 0 (dropPending b s)
  let s := posChanged b s
  if (s.bay b).pins.park then enterParked b s else s

/-- A retract order from another block (R107): PARKED only ends a load wait, RETRACTING goes on. -/
def retractOrder (b : Bay) (s : State) : State :=
  match (s.bay b).pos.state with
  | .parked => endLoadWait b s
  | .retracting => s
  | _ => enterRetracting b s

/-! ## Cancellation (R109) -/

/-- An in-flight LOAD HEADS is stopped: in the load wait it completes CANCELLED at once, else the heads are unloaded. -/
def stopLoad (b : Bay) (s : State) : State :=
  if loadWaiting b s then completeIf b OpKind.isLoad .cancelled (endLoadWait b s)
  else if (s.bay b).pos.state = .loading || (s.bay b).pos.state = .acquiring then unloadOrder b s
  else s

/-- Settle on the nearest track for an aborted seek (R109). -/
def settleAborted (b : Bay) (s : State) : State :=
  let t := nearestTrack b s
  let again := (s.bay b).pos.state = .seeking || t ≠ (s.bay b).pos.target
  (setTarget b t s).modPos b fun p =>
    { p with state := .settling, seekTimer := none, settle := (if again then 0 else p.settle), owner := .aborted }

/-- Whether the pending request is a SEEK's. -/
def Pending.isSeek : Pending → Bool
  | .seek _ _ => true
  | _ => false

/-- An in-flight SEEK is stopped by ABORT BAY (R109). -/
def abortSeek (b : Bay) (s : State) : State :=
  if (s.bay b).pos.pending.isSeek then completeIf b OpKind.isSeek .cancelled (dropPending b s)
  else if (s.bay b).pos.state = .seeking || (s.bay b).pos.state = .settling then settleAborted b s
  else s

/-- The positioner's part of ABORT BAY (R109, R159). -/
def abortPositioner (b : Bay) (s : State) : State :=
  if inflightIs b OpKind.isLoad s then stopLoad b s
  else if inflightIs b OpKind.isSeek s then abortSeek b s
  else s

/-- The positioner's part of a release request and of BAY RESET: a LOAD HEADS or SEEK in flight is stopped by unloading
(R109). -/
def stopByUnload (b : Bay) (s : State) : State :=
  if inflightIs b OpKind.isLoad s then stopLoad b s
  else if inflightIs b OpKind.isSeek s then unloadOrder b s
  else s

/-! ## Faults of its own (R92, R95, R101, R106) -/

/-- Raise a fatal fault and unload. -/
def faultAndUnload (b : Bay) (c : Cause) (s : State) : State := unloadOrder b (raiseFatal b c s)

/-- The servo-lost count reaches 8 (R92). -/
def servoLostFault (b : Bay) (s : State) : State :=
  faultAndUnload b .servoLost (countBay b (fun c => { c with servoLosses := count c.servoLosses }) s)

/-- The actuator's ranged request (R97, R101). -/
def askSeek (b : Bay) (s : State) : State := ask (.actuator b) (.ranged Const.seekMin Const.seekMax) s

/-- The off-track count reaches 4: a recovery seek, or RECOVERY_FAIL after two (R101). -/
def offTrackMark (b : Bay) (s : State) : State :=
  if (s.bay b).pos.recovery < 2 then
    let s := countBay b (fun c => { c with recoverySeeks := count c.recoverySeeks }) (closeWindow b s)
    askSeek b (s.modPos b fun p =>
      { p with recovery := p.recovery + 1, pending := .recovery, offTrack := 0, clean := 0 })
  else faultAndUnload b .recoveryFail s

/-- The reserve of a bay is disqualified (R94, R106). After the load wait timer has expired that fails a load wait, held or
still waiting for its 30 (log entry 43). -/
def reserveDisqualified (b : Bay) (s : State) : State :=
  if (s.bay b).pos.state.loaded then faultAndUnload b .reserveLow s
  else if loadWaiting b s && (s.bay b).pos.loadWait.isNone then failLoadWait b .reserveLow s
  else s

/-! ## What each wedge does to the counts (R91) -/

/-- The states that keep the servo-lost count: the loaded ones but LOADING (R91). -/
def PosState.countsWedges : PosState → Bool
  | .acquiring | .following | .seeking | .settling => true
  | _ => false

/-- An invalid wedge, implied or computed (R91, R92). -/
def invalidWedge (b : Bay) (s : State) : State :=
  if (s.bay b).pos.state.countsWedges then
    if 8 ≤ (s.bay b).pos.servoLost + 1 then servoLostFault b (s.modPos b fun p => { p with servoLost := 8 })
    else
      s.modPos b fun p =>
        let p := { p with servoLost := p.servoLost + 1 }
        match p.state with
        | .acquiring => { p with acquire := 0 }
        | .following => { p with offTrack := 0, clean := 0 }
        | .settling => { p with settle := 0 }
        | _ => p
  else s

/-- The implied wedges of a completion, one at a time (R91). -/
def impliedWedges (b : Bay) : Nat → State → State
  | 0, s => s
  | n + 1, s => impliedWedges b n (invalidWedge b s)

/-- The fourth valid wedge of ACQUIRING (R96). The target chosen was no target of the PES before it, so the wedge
qualification is cleared (R116). -/
def acquisitionComplete (b : Bay) (s : State) : State :=
  let s := clearQualified b (setTarget b (nearestTrack b s) s)
  let s := s.modPos b fun p =>
    { p with state := .following, acquire := 4, offTrack := 0, clean := 0, servoLost := 0, owner := .none }
  completeIf b OpKind.isLoad .success s

/-- The third near wedge of SETTLING: the head is settled (R99). FOLLOWING is entered before the consumers are told of
the grants of the re-examination, so that a grant of its own finds it FOLLOWING (log entry 29). -/
def settled (b : Bay) (s : State) : State :=
  let owner := (s.bay b).pos.owner
  let s := clampAct b Const.followUnits s
  let s := s.modPos b fun p =>
    { p with state := .following, seekTimer := none, settle := 3, offTrack := 0, clean := 0, servoLost := 0, owner := .none }
  let s :=
    match owner with
    | .operation => completeIf b OpKind.isSeek .success s
    | .aborted => completeIf b OpKind.isSeek .cancelled s
    | .recovery | .none => s
  lowerHolding (.actuator b) Const.followUnits s

/-- "Near" (R91). -/
def nearCentre (pes : Int) : Bool := pes.natAbs ≤ 6

/-- "Far" (R91). -/
def farOff (pes : Int) : Bool := 48 < pes.natAbs

/-- A valid wedge in FOLLOWING (R91, R101, R102). -/
def followWedge (b : Bay) (pes : Int) (s : State) : State :=
  let p := (s.bay b).pos
  if p.pending ≠ .none then s.modPos b fun p => { p with offTrack := 0, clean := 0 }
  else if farOff pes then
    if 4 ≤ p.offTrack + 1 then offTrackMark b (s.modPos b fun p => { p with offTrack := 4, clean := 0 })
    else s.modPos b fun p => { p with offTrack := p.offTrack + 1, clean := 0 }
  else if 64 ≤ p.clean + 1 then s.modPos b fun p => { p with offTrack := 0, clean := 0, recovery := 0 }
  else s.modPos b fun p => { p with offTrack := 0, clean := p.clean + 1 }

/-- A valid wedge, with its PES and whether a seek arrived (R91). -/
def validWedge (b : Bay) (pes : Int) (arrived : Bool) (s : State) : State :=
  match (s.bay b).pos.state with
  | .loading =>
    s.modPos b fun p => { p with state := .acquiring, acquire := 0, loadTimer := none }
  | .acquiring =>
    let s := s.modPos b fun p => { p with servoLost := 0 }
    if 4 ≤ (s.bay b).pos.acquire + 1 then acquisitionComplete b s
    else s.modPos b fun p => { p with acquire := p.acquire + 1 }
  | .following => followWedge b pes (s.modPos b fun p => { p with servoLost := 0 })
  | .seeking =>
    s.modPos b fun p =>
      if arrived then { p with servoLost := 0, state := .settling, settle := 0 } else { p with servoLost := 0 }
  | .settling =>
    let s := s.modPos b fun p => { p with servoLost := 0 }
    if nearCentre pes then
      if 3 ≤ (s.bay b).pos.settle + 1 then settled b s else s.modPos b fun p => { p with settle := p.settle + 1 }
    else s.modPos b fun p => { p with settle := 0 }
  | .parked | .unloading | .retracting | .fault => s

end Sys2Proof.Machine
end

