-- ==== Sys2Proof/Machine/Release.lean ====
section
/-! DEFINITION. The Cartridge Controller of a bay: release requests, the latch cycle, departures, jams (R6 to R23), and how a bay's in-flight
operation is stopped (R159, R160). -/

namespace Sys2Proof.Machine

/-- R11 step 3: the in-flight operation is stopped, but for the EJECT that made the release. SPIN DOWN and UNLOAD HEADS
run on. -/
def stopForRelease (b : Bay) (s : State) : State := stopByUnload b (cancelSpinUp b s)

/-- R12: heads first, platter second. With the heads off, the brake order is given at once; otherwise at the positioner
change that lets it (`posChanged`). -/
def orderToRest (b : Bay) (s : State) : State :=
  let s := if (s.bay b).pos.state.loaded then unloadOrder b s else s
  let s :=
    if (s.bay b).spin.state ≠ .stopped && !(s.bay b).pos.state.defersBrake then brakeOrder b s else s
  judgeLatch b s

/-- A release request is accepted from SEATED, and as a fresh cycle from JAMMED (R10, R11, R12, R18). -/
def acceptRelease (b : Bay) (s : State) : State :=
  let s := changeCart b (fun c => { c with state := .releasePending, pulseCount := 0, phase := none }) s
  let s := cancelQueue b (closeWindow b s)
  orderToRest b (stopForRelease b s)

/-- A release request from a button action or a taken EJECT: accepted in SEATED and JAMMED (R8 to R10, R18). -/
def requestRelease (b : Bay) (s : State) : State :=
  match (s.bay b).cart.state with
  | .seated | .jammed => acceptRelease b s
  | .empty | .seating | .releasePending | .ejecting => s

/-- A short press (R8). -/
def shortPress (b : Bay) (s : State) : State :=
  if (s.bay b).cart.state = .seated && (s.bay b).cart.prevent then latchEvent (.button b) s else requestRelease b s

/-- A long press (R9): the override clears prevent and sets BUTTON. -/
def longPressAction (b : Bay) (s : State) : State :=
  if (s.bay b).cart.state = .seated && (s.bay b).cart.prevent then
    requestRelease b (latchEvent (.button b) (s.modCart b fun c => { c with prevent := false }))
  else requestRelease b s

/-- Entry to EMPTY: the record goes, prevent and the pulse count are cleared, timers stop, the presence-change latch
is set (R4, R17, R19), the bay queue is cancelled and the window closed (R119, R149). The lamp is worked out on the whole
of the event, with what becomes of the operation in flight: a flashing that goes on keeps its rhythm (R21). -/
def enterEmpty (b : Bay) (s : State) : State :=
  let s := s.modCart b (fun c =>
    { c with state := .empty, media := none, prevent := false, pulseCount := 0, phase := none, debounce := none, latch := false,
             pulseTimer := none, waitTimer := none })
  let s := latchEvent (.presence b) s
  cancelQueue b (closeWindow b s)

/-- What the latch consumer has of the ledger is given back: a holding released, a waiting request withdrawn. -/
def dropLatch (b : Bay) (s : State) : State := withdrawRequest (.latch b) (lowerHolding (.latch b) 0 s)

/-- The cartridge leaves after a latch pulse of the cycle: SUCCESS (R17). -/
def cartridgeLeaves (b : Bay) (s : State) : State :=
  lampUpdate b (completeIf b OpKind.isEject .success (dropLatch b (enterEmpty b s)))

/-- Presence loss (R19). -/
def presenceLoss (b : Bay) (s : State) : State :=
  let rest := atRest b s
  let s := dropLatch b (enterEmpty b s)
  if rest then lampUpdate b (completeOp b (if inflightIs b OpKind.isEject s then .success else .cancelled) s)
  else brakeOrder b (retractOrder b (raiseFatal b .presenceLost s))

/-- The supply state becomes FAIL: a release cycle is abandoned (R20). -/
def abandonCycle (b : Bay) (s : State) : State :=
  if (s.bay b).cart.state = .releasePending || (s.bay b).cart.state = .ejecting then
    dropLatch b <| changeCart b (fun c =>
      { c with state := .seated, pulseCount := 0, phase := none, latch := false, pulseTimer := none, waitTimer := none }) s
  else s

/-- The wait expires with the cartridge still in: another pulse, or JAMMED after three (R18). -/
def waitOver (b : Bay) (s : State) : State :=
  if (s.bay b).cart.pulseCount < 3 then
    judgeLatch b (changeCart b (fun c => { c with state := .releasePending, phase := none, waitTimer := none }) s)
  else
    raiseFatal b .jam (changeCart b (fun c => { c with state := .jammed, phase := none, waitTimer := none }) s)

/-- The media type of the two code switches, closed or open (R3). -/
def mediaKind (med1 med0 : Bool) : MediaType :=
  match med1, med0 with
  | false, true => .S
  | true, false => .D
  | _, _ => .unrecognised

/-- The last track of a media type (R1, R3). -/
def lastTrackOf : MediaType → Option Nat
  | .S => some 305
  | .D => some 611
  | .unrecognised => none

/-- The media record written at the end of the debounce (R3). -/
def mediaRecord (med1 med0 wprot : Bool) : Media :=
  let k := mediaKind med1 med0
  { kind := k, lastTrack := lastTrackOf k, heads := 2, writeProtected := wprot }

/-! ## ABORT BAY and BAY RESET (R159, R160) -/

/-- ABORT BAY: the queue is cancelled and the in-flight operation stopped at its block (R159). -/
def abortBay (b : Bay) (s : State) : State := abortPositioner b (cancelSpinUp b (cancelQueue b s))

/-- The spindle's part of BAY RESET (R47). -/
def resetSpindle (b : Bay) (s : State) : State :=
  match (s.bay b).spin.state with
  | .braking => s.modSpin b fun x => { x with purpose := some .stop, startMark := false }
  | .fault => enterBraking b .stop s
  | .stopped | .waitPower | .aligning | .ramping | .locking | .locked | .unlocked => brakeOrder b s

/-- The positioner's part of BAY RESET (R113). -/
def resetPositioner (b : Bay) (s : State) : State :=
  let s := if (s.bay b).pos.state = .fault then enterRetracting b s else unloadOrder b s
  s.modPos b fun p => { p with recovery := 0, acquire := 0, settle := 0, offTrack := 0, clean := 0, servoLost := 0 }

/-- The cartridge's part of BAY RESET (R23). -/
def resetCartridge (b : Bay) (s : State) : State :=
  changeCart b (fun c =>
    if c.state = .jammed then { c with prevent := false, state := .seated, pulseCount := 0 } else { c with prevent := false }) s

/-- The first part of BAY RESET, which its reply tells of: the queue cancelled, the in-flight operation stopped by
unloading (R109, R160). -/
def stopForReset (b : Bay) (s : State) : State :=
  stopByUnload b (cancelSpinUp b (cancelQueue b (closeWindow b s)))

/-- The rest of BAY RESET: the scheduler RUNNING, and each block of the bay as its chapter gives (R160). -/
def resetBlocks (b : Bay) (s : State) : State :=
  let s := changeSched b (fun x => { x with state := .running, cause := none, step := false }) s
  resetSpindle b (resetPositioner b (resetCartridge b s))

end Sys2Proof.Machine
end

