-- ==== Sys2Proof/Machine/Gate.lean ====
section
/-! DEFINITION. The Write Permit Gate: WPERM worked out afresh (R115, R117), write faults (R120), the wedge qualification (R116). -/

namespace Sys2Proof.Machine

/-- All the conditions for write permit hold together (R115). -/
def permitDue (x : BayState) (supply : SupplyState) : Bool :=
  x.gate.window && x.pos.state = .following && x.gate.qualified && x.spin.state = .locked && x.cart.state = .seated &&
    x.cart.media.any (fun m => !m.writeProtected) && supply ≠ .fail && !x.gate.held

/-- WPERM drops: under an active WGATE that is a write fault, counted, latched, and the window is closed (R120). -/
def dropPermit (b : Bay) (s : State) : State :=
  let s := s.modGate b fun g => { g with wperm := false }
  if (s.bay b).pins.wgate then
    latchEvent .writeFault (closeWindow b (countBay b (fun c => { c with writeFaults := count c.writeFaults }) s))
  else s

/-- Work WPERM of a bay out afresh (R117). -/
def judgeGate (b : Bay) (s : State) : State :=
  if permitDue (s.bay b) s.supply.state then s.modGate b fun g => { g with wperm := true }
  else if (s.bay b).gate.wperm then dropPermit b s
  else s

/-- Work both gates out: the points of R117 of an event that may reach either bay. -/
def judgeGates (s : State) : State := judgeGate .B (judgeGate .A s)

/-- Whether a PES is within a bay's write limit (R116). -/
def withinLimit (pes : Int) (limit : Nat) : Bool := pes.natAbs ≤ limit

end Sys2Proof.Machine
end

