-- ==== Sys2Proof/Machine/Taking.lean ====
section
/-! DEFINITION. The Bay Scheduler takes operations and starts each at the block that performs it (R149, R150); the settling of an event. -/

namespace Sys2Proof.Machine

/-! ## What each operation does at its taking (R150) -/

/-- SPIN UP (R30). The states a SPIN UP is not taken in leave it in flight (log entry 34). -/
def takeSpinUp (b : Bay) (s : State) : State :=
  if (s.bay b).cart.media.any (fun m => m.kind = .unrecognised) then completeOp b (.failed .mediaUnknown) s
  else
    match (s.bay b).spin.state with
    | .stopped => beginAttempt b s
    | .locked | .unlocked => completeOp b .success s
    | .braking => s.modSpin b fun x => { x with startMark := true }
    | .fault => raiseFatal b .spinFail s
    | .waitPower | .aligning | .ramping | .locking => s

/-- SPIN DOWN (R42). -/
def takeSpinDown (b : Bay) (s : State) : State :=
  let s := closeWindow b s
  match (s.bay b).spin.state with
  | .stopped => completeOp b .success s
  | .fault => completeOp b (.failed .notReady) s
  | .braking => s
  | .waitPower | .aligning | .ramping | .locking | .locked | .unlocked =>
    brakeOrder b (if (s.bay b).pos.state.loaded then unloadOrder b s else s)

/-- LOAD HEADS (R93). -/
def takeLoadHeads (b : Bay) (s : State) : State :=
  match (s.bay b).pos.state with
  | .loading | .acquiring | .following | .seeking | .settling => completeOp b .success s
  | .unloading | .retracting | .fault => completeOp b (.failed .notReady) s
  | .parked =>
    if (s.bay b).spin.state = .locked then
      let s := s.modPos b fun p => { p with pending := .load, loadWait := some Const.loadWait }
      ask (.actuator b) (.fixed Const.followUnits) s
    else completeOp b (.failed .notReady) s

/-- UNLOAD HEADS (R105). -/
def takeUnloadHeads (b : Bay) (s : State) : State :=
  let s := closeWindow b s
  match (s.bay b).pos.state with
  | .parked => completeOp b .success s
  | .fault => completeOp b (.failed .notReady) s
  | .unloading | .retracting => s
  | .loading | .acquiring | .following | .seeking | .settling => unloadOrder b s

/-- A SEEK's request is made: it is pending, and the off-track and clean counts are held at 0 (R91, R97). -/
def beginSeek (b : Bay) (track head : Nat) (s : State) : State :=
  askSeek b (s.modPos b fun p => { p with pending := .seek track head, offTrack := 0, clean := 0 })

/-- SEEK (R97). One taken in SETTLING on its own track and head owns the settle (log entry 15). -/
def takeSeek (b : Bay) (track head : Nat) (s : State) : State :=
  let s := closeWindow b s
  let here : Bool := track = (s.bay b).pos.target && head = (s.bay b).pos.head
  match (s.bay b).pos.state with
  | .following => if here then completeOp b .success s else beginSeek b track head s
  | .settling =>
    if here then s.modPos b fun p => { p with seekTimer := some Const.seek, owner := .operation }
    else beginSeek b track head s
  | .parked | .loading | .acquiring | .seeking | .unloading | .retracting | .fault => completeOp b (.failed .notTracking) s

/-- OPEN WRITE (R118). -/
def takeOpenWrite (b : Bay) (s : State) : State :=
  if (s.bay b).cart.media.any Media.writeProtected then completeOp b (.failed .writeProtected) s
  else if (s.bay b).pos.state = .following && (s.bay b).spin.state = .locked then
    completeOp b .success (s.modGate b fun g => { g with window := true })
  else completeOp b (.failed .notTracking) s

/-- CLOSE WRITE (R118). -/
def takeCloseWrite (b : Bay) (s : State) : State := completeOp b .success (closeWindow b s)

/-- EJECT (R10, R18): the prevent flag is not consulted. -/
def takeEject (b : Bay) (s : State) : State := requestRelease b s

/-- Start a taken operation at its block (R150). -/
def startOp (b : Bay) (k : OpKind) (s : State) : State :=
  match k with
  | .spinUp => takeSpinUp b s
  | .spinDown => takeSpinDown b s
  | .loadHeads => takeLoadHeads b s
  | .unloadHeads => takeUnloadHeads b s
  | .seek track head => takeSeek b track head s
  | .openWrite => takeOpenWrite b s
  | .closeWrite => takeCloseWrite b s
  | .eject => takeEject b s

/-! ## Takings (R149, R158) -/

/-- Whether the scheduler takes: RUNNING, nothing in flight (the queue's head is the third condition, R149). -/
def mayTake (x : Sched) : Bool := x.state = .running && x.inflight.isNone

/-- A taking: the head becomes the in-flight operation, step mode halts the scheduler behind it (R149, R158), and the
operation is started (R150). -/
def takeHead (b : Bay) (op : Op) (rest : List Op) (s : State) : State :=
  startOp b op.kind <| changeSched b (fun x =>
    if x.step then { x with queue := rest, inflight := some op, state := .halting, cause := some .step }
    else { x with queue := rest, inflight := some op }) s

/-- Take operations while they complete at their taking, each as a step of its own (R150): at most `n`. -/
def takeRun (b : Bay) : Nat → State → State
  | 0, s => s
  | n + 1, s =>
    if mayTake (s.bay b).sched then
      match (s.bay b).sched.queue with
      | [] => s
      | op :: rest => takeRun b n (judgeGates (takeHead b op rest s))
    else s

/-- Judge the takings of a bay (R149). -/
def judgeTaking (b : Bay) (s : State) : State := takeRun b (s.bay b).sched.queue.length s

/-- The end of an event: WPERM of both bays worked out on all of its changes (R117), then the takings, bay A first (log
entry 6). -/
def settle (s : State) : State := judgeTaking .B (judgeTaking .A (judgeGates s))

end Sys2Proof.Machine
end

