-- ==== Sys2Proof/Machine/Servo.lean ====
section
/-! DEFINITION. The arithmetic of the Servo Arithmetic Unit: one computation, stage by stage (R72 to R83). Pure: what the SAU does with the
result is Wedge.lean. -/

namespace Sys2Proof.Machine

/-! ## Seek profile (R83) -/

/-- The profile bin whose range contains the whole tracks remaining (R83). -/
def profileBin (rem : Nat) : Nat :=
  if rem < 4 then rem
  else if rem < 6 then 4
  else if rem < 8 then 5
  else if rem < 12 then 6
  else if rem < 16 then 7
  else if rem < 24 then 8
  else if rem < 32 then 9
  else if rem < 48 then 10
  else if rem < 64 then 11
  else if rem < 128 then 12
  else if rem < 256 then 13
  else if rem < 512 then 14
  else 15

/-! ## Gap (R72) -/

/-- The gap of a report: the wedges missing since the last one computed (R72). -/
def gap (last : Option Nat) (n : Nat) : Nat :=
  match last with
  | some l => (n + 47 - l) % 48
  | none => 0

/-- The `g` implied wedges: P advanced, k increased (R72). -/
def Servo.implied (x : Servo) (g : Nat) : Servo :=
  { x with P := clampInt Const.posMin Const.posMax (x.P + g * x.v), k := min 255 (x.k + g) }

/-! ## Validity, fine position, position, velocity (R73 to R76) -/

/-- The track number of a valid wedge; none where the wedge is invalid (R73). -/
def validTrack (r : Report) (last : Option Nat) : Option Nat :=
  match r.track, last with
  | some t, some top => if 64 ≤ r.burstA + r.burstB && t ≤ top then some t else none
  | _, _ => none

/-- The fine position of a valid wedge (R74). -/
def finePosition (a b : Nat) : Int := nearest (32 * ((a : Int) - b)) (a + b)

/-- The position of a valid wedge (R75). -/
def wedgePosition (track a b : Nat) : Int := 64 * track + finePosition a b

/-- The velocity of a valid wedge at position `p` (R76). -/
def wedgeVelocity (x : Servo) (p : Int) : Int :=
  match x.lastValid with
  | some q => if x.fresh || 8 ≤ x.k then 0 else clampInt (-1023) 1023 (quotient (p - q) (x.k + 1))
  | none => 0

/-- A valid wedge at position `p` (R75, R76). -/
def Servo.measure (x : Servo) (p : Int) : Servo :=
  { x with P := p, v := wedgeVelocity x p, lastValid := some p, k := 0, fresh := false }

/-- An invalid wedge: dead reckoning (R75, R76). -/
def Servo.reckon (x : Servo) : Servo :=
  { x with P := clampInt Const.posMin Const.posMax (x.P + x.v), k := bump 255 x.k }

/-! ## Position error and the laws (R77 to R81) -/

/-- The position error (R77). -/
def positionError (P : Int) (target : Nat) : Int := clampInt (-2048) 2047 (P - 64 * target)

/-- The distance to the target centre (R78). -/
def distance (P : Int) (target : Nat) : Nat := (64 * (target : Int) - P).natAbs

/-- The following law (R79). -/
def followingLaw (g : Gains) (pes v : Int) : Int := quotient (-(g.kp * pes + g.kd * v)) 16

/-- The acquiring law (R79). -/
def acquiringLaw (g : Gains) (v : Int) : Int := quotient (-(g.kd * v)) 16

/-- The seek law, at 32 steps or more from the target centre (R78). -/
def seekLaw (g : Gains) (profile : List Nat) (P v : Int) (target : Nat) : Int :=
  let D : Int := profile.getD (profileBin (distance P target / 64)) 0
  let goal : Int := if P < 64 * target then D else -D
  quotient (g.kv * (goal - v)) 16

/-- The clamp of a code to the actuator holding (R81). -/
def clampCode (held : Nat) (code : Int) : Int := clampInt (-127) 127 (clampInt (-held) held code)

/-- Whether a computation in this regime reports arrival: valid, SEEKING, within half a track (R78). -/
def arrives (state : PosState) (valid : Bool) (P : Int) (target : Nat) : Bool :=
  state = .seeking && valid && distance P target < 32

/-- Whether the position error is worked out (R77). -/
def pesWorked (state : PosState) (arrived : Bool) : Bool :=
  match state with
  | .acquiring | .following | .settling => true
  | .seeking => arrived
  | .loading | .parked | .unloading | .retracting | .fault => false

/-- The code before the clamp (R78, R79, R80). -/
def wedgeCode (state : PosState) (g : Gains) (profile : List Nat) (target : Nat) (valid arrived : Bool) (P v before : Int) : Int :=
  if state = .loading then Const.loadCode
  else if !valid then quotient before 2
  else if state = .acquiring then acquiringLaw g v
  else if state = .seeking && !arrived then seekLaw g profile P v target
  else followingLaw g (positionError P target) v

/-! ## One computation (R72 to R82) -/

/-- The result of a computation: the servo record to write, and what the positioner is handed (R82). -/
structure WedgeResult where
  servo : Servo
  gap : Nat
  valid : Bool
  worked : Bool
  arrived : Bool
  deriving DecidableEq, Repr

/-- Work one report out (R72 to R82): the gains and the profile are the computation's own, the rest is as it stands at
the completion (R68). -/
def compute (x : Servo) (c : Computation) (state : PosState) (target held : Nat) (lastTrk : Option Nat) : WedgeResult :=
  let g := gap x.lastNum c.report.number
  let x0 := x.implied g
  let track := validTrack c.report lastTrk
  let x1 :=
    match track with
    | some t => x0.measure (wedgePosition t c.report.burstA c.report.burstB)
    | none => x0.reckon
  let valid := track.isSome
  let arrived := arrives state valid x1.P target
  let worked := pesWorked state arrived
  let code := clampCode held (wedgeCode state c.gains c.profile target valid arrived x1.P x1.v x.I)
  { servo :=
      { x1 with lastNum := some c.report.number, lastOk := valid,
                pes := (if worked then positionError x1.P target else x.pes),
                pesValid := (if worked then valid else x.pesValid), I := code },
    gap := g, valid := valid, worked := worked, arrived := arrived }

end Sys2Proof.Machine
end

