-- ==== Sys2Proof/Machine/Wedge.lean ====
section
/-! DEFINITION. Wedge windows and reports, the SAU's arbitration, and the application of a completion (R64 to R71, R82, R91, R116). -/

namespace Sys2Proof.Machine

/-! ## Windows (R64) -/

/-- A TACH pulse begins a revolution of windows (R64). The last period is the one that stands once the pulse has been
measured. -/
def beginWindows (b : Bay) (s : State) : State :=
  let w := ((s.bay b).spin.lastPeriod.getD Const.nominalPeriod) / 48
  s.modDemod b fun _ => { window := some 0, interval := w }

/-- The window after window `n` of a revolution (R64). -/
def nextWindow (n : Nat) : Option Nat := if n < 47 then some (n + 1) else none

/-! ## Reports at the SAU (R65, R69) -/

/-- The computation the SAU takes a report into: the gains and the profile are fixed now (R68). -/
def computationOf (b : Bay) (r : Report) (s : State) : Computation :=
  { bay := b, report := r, gains := (s.bay b).gains, profile := s.profile, discard := false }

/-- A wedge report reaches the SAU (R69). -/
def reportArrives (b : Bay) (r : Report) (s : State) : State :=
  match s.sau with
  | none => s.setSau (some (computationOf b r s))
  | some _ =>
    let s :=
      if (s.bay b).slot.isSome then countBay b (fun c => { c with missedWedges := count c.missedWedges }) s else s
    s.modSlot b fun _ => some r

/-- The SAU takes the report of this bay's slot, if it holds one. -/
def takeSlot (b : Bay) (s : State) : Option State :=
  (s.bay b).slot.map fun r => (s.setSau (some (computationOf b r s))).modSlot b fun _ => none

/-- At a completion for a bay the SAU chooses its next computation: the other bay's slot, its own, or none (R70). -/
def chooseNext (served : Bay) (s : State) : State :=
  match takeSlot served.other s with
  | some t => t
  | none =>
    match takeSlot served s with
    | some t => t
    | none => s.setSau none

/-! ## Completions (R71, R82, R91, R116) -/

/-- Whether a completion is applied (R71). -/
def applied (c : Computation) (s : State) : Bool := !c.discard && (s.bay c.bay).pos.state.loaded

/-- The servo record, ACT, the missed wedge and the wedge qualification of an applied completion (R73, R82, R116). -/
def writeResult (b : Bay) (r : WedgeResult) (s : State) : State :=
  let s := s.modServo b fun _ => r.servo
  let s := s.modPos b fun p => { p with act := r.servo.I }
  let s := if r.valid then s else countBay b (fun c => { c with missedWedges := count c.missedWedges }) s
  let limit := (s.bay b).gains.limit
  s.modGate b fun g => { g with qualified := r.valid && r.worked && withinLimit r.servo.pes limit }

/-- The positioner takes the implied wedges, then the wedge itself if it is still in a reporting state (R91). -/
def countWedges (b : Bay) (r : WedgeResult) (s : State) : State :=
  let s := impliedWedges b r.gap s
  if (s.bay b).pos.state.loaded then
    if r.valid then validWedge b r.servo.pes r.arrived s else invalidWedge b s
  else s

/-- The computation of an applied completion, worked out on the state it meets (R68). -/
def resultOf (c : Computation) (s : State) : WedgeResult :=
  compute (s.bay c.bay).servo c (s.bay c.bay).pos.state (s.bay c.bay).pos.target (s.hold (.actuator c.bay))
    (lastTrack c.bay s)

/-- An applied completion (R82). -/
def applyCompletion (c : Computation) (s : State) : State :=
  countWedges c.bay (resultOf c s) (writeResult c.bay (resultOf c s) s)

end Sys2Proof.Machine
end

