-- ==== Sys2Proof/Machine/Monitor.lean ====
section
/-! DEFINITION. The Supply Monitor: the judgement of the six fixed samples, and what each change does to the other blocks (R41, R44, R59,
R60, R136 to R140). -/

namespace Sys2Proof.Machine

/-! ## The supply state becomes FAIL (R20, R44, R60, R110, R154) -/

/-- The spindle of a bay at FAIL (R44). -/
def spindleOnFail (b : Bay) (s : State) : State :=
  match (s.bay b).spin.state with
  | .waitPower => abandonPower b s
  | .aligning | .ramping | .locking => enterBraking b .stop s
  | .locked | .unlocked => brakeOrder b s
  | .braking => mergeStop b s
  | .stopped | .fault => s

/-- One bay at FAIL: its release cycle abandoned, SUPPLY_FAIL raised, its heads retracted, its spindle braked. -/
def supplyFailBay (b : Bay) (s : State) : State :=
  spindleOnFail b (retractOrder b (raiseFatal b .supplyFail (abandonCycle b s)))

/-- The supply state becomes FAIL: the ledger first, then the bays, A first (R138; log entry 5). -/
def supplyFails (s : State) : State :=
  supplyFailBay .B (supplyFailBay .A (s.setLedger s.ledger.failed))

/-- A change of the supply state (R137, R138). -/
def changeSupply (x : SupplyState) (s : State) : State :=
  let s := latchEvent .supply (s.setSupply { s.supply with state := x })
  match x with
  | .fail =>
    supplyFails <| countPart (fun c => { c with failEntries := count c.failEntries }) <|
      s.setSupply { s.supply with goodScans := 0 }
  | .sag =>
    let s := countPart (fun c => { c with sagEntries := count c.sagEntries }) s
    let r := s.ledger.supply .sag
    tellGrants r.2 (s.setLedger r.1)
  | .normal =>
    let r := s.ledger.supply .normal
    tellGrants r.2 (s.setLedger r.1)

/-! ## The two rails (R137) -/

/-- The supply state that a +12 V sample leaves (R137). -/
def after12 (l : Limits) (x : SupplyState) (v : Nat) : SupplyState :=
  if x ≠ .fail && v < l.fail then .fail
  else if x = .normal && v < l.sag then .sag
  else if x = .sag && l.recover < v then .normal
  else x

/-- The +12 V sample: the judgement of the scan is recorded, and the supply state may change (R137). -/
def judge12 (v : Nat) (s : State) : State :=
  let old := s.supply.state
  let goal := after12 s.supply.limits old v
  let s := s.setSupply { s.supply with good12 := s.supply.limits.recover < v }
  if goal = old then s else changeSupply goal s

/-- The +5 V sample (R137). -/
def judge5 (v : Nat) (s : State) : State :=
  let low : Bool := v < s.supply.limits.logicFail
  if s.supply.state = .fail then
    if !low && s.supply.good12 then
      let s' := s.setSupply { s.supply with goodScans := bump 3 s.supply.goodScans }
      if 3 ≤ s.supply.goodScans + 1 then changeSupply .normal s' else s'
    else s.setSupply { s.supply with goodScans := 0 }
  else if low then changeSupply .fail s
  else s

/-! ## The retract reserve (R139) -/

/-- The reserve sample of a bay (R139): qualification may end a load wait (R94), disqualification acts as R106 gives. -/
def judgeReserve (b : Bay) (v : Nat) (s : State) : State :=
  let l := s.supply.limits
  if (s.bay b).mon.qualified then
    if v < l.reserveLow then
      reserveDisqualified b (s.modMon b fun m => { m with qualified := false, reserveCount := 0 })
    else s
  else if l.reserveOk ≤ v then
    if 3 ≤ (s.bay b).mon.reserveCount + 1 then
      tryLoading b (s.modMon b fun m => { m with qualified := true, reserveCount := 3 })
    else s.modMon b fun m => { m with reserveCount := m.reserveCount + 1 }
  else s.modMon b fun m => { m with reserveCount := 0 }

/-! ## Overcurrent (R41, R140) -/

/-- A turning spindle under overcurrent: drive 0, heads retracted, BRAKING with purpose OVERCURRENT (R41). A brake order
that the retract released may have entered BRAKING first. -/
def brakeOvercurrent (b : Bay) (s : State) : State :=
  let s := retractOrder b (s.modSpin b (Spindle.driven 0))
  if (s.bay b).spin.state = .braking then s.modSpin b fun x => { x with purpose := some .overcurrent }
  else enterBraking b .overcurrent s

/-- The overcurrent state of a bay becomes active, at its spindle (R41). OVERCURRENT is raised at once, before the retract
or the brake could end the operation in flight otherwise. -/
def spindleOvercurrent (b : Bay) (s : State) : State :=
  match (s.bay b).spin.state with
  | .aligning | .ramping | .locking | .locked | .unlocked => brakeOvercurrent b (raiseOutcome b .overcurrent s)
  | .waitPower => enterSpinFault b (withdrawRequest (.spindle b) (raiseOutcome b .overcurrent s))
  | .braking => raiseFatal b .overcurrent (s.modSpin b fun x => { x with purpose := some .overcurrent })
  | .stopped | .fault => s

/-- The spindle current sample of a bay (R140). -/
def judgeCurrent (b : Bay) (v : Nat) (s : State) : State :=
  let m := (s.bay b).mon
  let above : Bool := s.supply.limits.overcurrent < v
  if above = m.overcurrent then s.modMon b fun m => { m with overCount := 0 }
  else if m.overCount + 1 < 2 then s.modMon b fun m => { m with overCount := m.overCount + 1 }
  else
    let s := s.modMon b fun m => { m with overcurrent := above, overCount := 0 }
    if above then spindleOvercurrent b (latchEvent (.overcurrent b) s) else s

/-- The sample of a fixed position is handed to the monitor (R126, section 7.4). -/
def judgeSample (position v : Nat) (s : State) : State :=
  match position with
  | 0 => judge12 v s
  | 1 => judge5 v s
  | 2 => judgeReserve .A v s
  | 3 => judgeReserve .B v s
  | 4 => judgeCurrent .A v s
  | 5 => judgeCurrent .B v s
  | _ => s

end Sys2Proof.Machine
end

