-- ==== Sys2Proof/Machine/Sense.lean ====
section
/-! DEFINITION. The Sense Sequencer and the Sample Store: scans, conversions, marks, image and history (R123 to R135). -/

namespace Sys2Proof.Machine

/-! ## The list (R124, R125, R126) -/

/-- The entry of a position: the fixed ones convert their own channel at x1 without marks (R124). -/
def Sense.entry (x : Sense) (position : Nat) : Option SenseEntry :=
  if position < 6 then some (.plain position false) else (x.active.getD (position - 6) none)

/-- The first used position of these entries, numbered from `n`. -/
def firstUsed (n : Nat) : List (Option SenseEntry) → Option Nat
  | [] => none
  | some _ :: _ => some n
  | none :: es => firstUsed (n + 1) es

/-- The first used programmable position at or after `n` (R126). -/
def Sense.usedFrom (x : Sense) (n : Nat) : Option Nat := firstUsed n (x.active.drop (n - 6))

/-- The position a scan converts after `position`; none where it ends (R126, R127). -/
def Sense.after (x : Sense) (position : Nat) (programmable : Bool) (e : SenseEntry) : Option Nat :=
  if position < 5 then some (position + 1)
  else if position = 5 then (if programmable then x.usedFrom 6 else none)
  else if e.endMark || e.haltMark then none
  else x.usedFrom (position + 1)

/-- Whether a change of an entry changes its usedness, channel or gain (R125). -/
def entryChanged : Option SenseEntry → Option SenseEntry → Bool
  | none, none => false
  | some a, some b => a.channel ≠ b.channel || a.gain ≠ b.gain
  | _, _ => true

/-- An image slot is made invalid. -/
def Slot.drop (x : Slot) : Slot := { x with valid := false }

/-- The slots of the changed programmable positions become invalid (R125). -/
def dropChanged : List (Option SenseEntry) → List (Option SenseEntry) → List Slot → List Slot
  | o :: os, n :: ns, x :: xs => (if entryChanged o n then x.drop else x) :: dropChanged os ns xs
  | _, _, xs => xs

/-- Put a programmable part in place: the image slots of changed positions become invalid (R125, R129). -/
def installList (l : List (Option SenseEntry)) (s : State) : State :=
  let s' := s.modStore fun x => { x with image := x.image.take 6 ++ dropChanged s.sense.active l (x.image.drop 6) }
  s'.modSense fun x => { x with active := l, replacement := none }

/-! ## Conversions (R125, R126, R131) -/

/-- The sample of a raw conversion at a gain code (R126). -/
def sampleOf (raw : BitVec 10) (gain : Nat) : Nat := min (raw.toNat * 2 ^ gain) 1023

/-- The idle converter takes the waiting SAMPLE NOW, else the scan's next position, else nothing (R126, R131). -/
def Sense.convert (x : Sense) : Sense :=
  match x.waiting, x.scan with
  | some (channel, gain), _ => { x with waiting := none, conv := .now channel gain }
  | none, some c => { x with conv := .list c.position }
  | none, none => { x with conv := .idle }

/-- Steps 1 to 3 of a scan start (R125). -/
def openScan (s : State) : State :=
  let s := s.modSense fun x => { x with scanCount := (x.scanCount + 1) % 256, scanDue := false }
  let s :=
    match s.sense.replacement with
    | some l => installList l s
    | none => s
  s.modSense fun x => { x with scan := some { position := 0, programmable := !x.halted } }

/-- Step 4 of a scan start: an idle converter begins at once (R125). -/
def beginScan (s : State) : State :=
  (openScan s).modSense fun x => if x.conv = .idle then x.convert else x

/-- The scan goes on at `goal`, or ends there and makes the scan start it owes; then the converter takes up its next
conversion (R125, R126, R131). -/
def goOn (goal : Option Nat) (s : State) : State :=
  let s :=
    match goal with
    | some p => s.modSense fun x => { x with scan := x.scan.map fun c : Scan => { c with position := p } }
    | none =>
      let s := s.modSense fun x => { x with scan := none }
      if s.sense.scanDue then openScan s else s
  s.modSense Sense.convert

/-! ## The Sample Store (R132, R133) -/

/-- A sample is written to its image slot (R132). -/
def storeImage (position channel v : Nat) (s : State) : State :=
  let n := s.sense.scanCount
  s.modStore fun x => { x with image := x.image.set position { channel := channel, value := v, scan := n, valid := true } }

/-- A sample is appended to the history ring (R133). -/
def storeHistory (position channel v : Nat) (s : State) : State :=
  let r : Record := { position := position, channel := channel, value := v, scan := s.sense.scanCount }
  if s.store.ring.length < Const.historySize then s.modStore fun x => { x with ring := x.ring ++ [r] }
  else
    latchEvent .historyOverrun <| countPart (fun c => { c with historyOverwrites := count c.historyOverwrites }) <|
      s.modStore fun x => { x with ring := x.ring.drop (x.ring.length + 1 - Const.historySize) ++ [r] }

/-- A list sample is handed to the store (R132). -/
def storeSample (position channel v : Nat) (s : State) : State :=
  if position < 6 || s.store.mode = .image then storeImage position channel v s else storeHistory position channel v s

/-- The marks of a programmable position act (R127). -/
def actOnMarks (e : SenseEntry) (s : State) : State :=
  let s := if e.notifyMark then latchEvent .senseNote s else s
  if e.haltMark then s.modSense fun x => { x with halted := true } else s

/-- A list conversion completes (R126): stored, judged, marks acted on, the next conversion begun. -/
def listCompletion (position : Nat) (raw : BitVec 10) (s : State) : State :=
  match s.sense.entry position with
  | none => s
  | some e =>
    let v := sampleOf raw e.gain
    let programmable := (s.sense.scan.map Scan.programmable).getD false
    let goal := s.sense.after position programmable e
    goOn goal (actOnMarks e (judgeSample position v (storeSample position e.channel v s)))

/-- SAMPLE NOW is taken: its conversion begins, or it waits for the one in progress (R131). -/
def Sense.ask (x : Sense) (channel gain : Nat) : Sense :=
  if x.conv = .idle then { x with conv := .now channel gain } else { x with waiting := some (channel, gain) }

/-! ## Mode and interval (R135) -/

/-- The sample mode and interval as SET SAMPLE MODE leaves them (R135). -/
def setSampling (m : SampleMode) (interval : Nat) (s : State) : State :=
  let s := s.modSense fun x => { x with interval := interval }
  s.modStore fun x =>
    if m = x.mode then x
    else { mode := m, image := x.image.take 6 ++ (x.image.drop 6).map Slot.drop, ring := [] }

end Sys2Proof.Machine
end

