-- ==== Sys2Proof/Machine/Reset.lean ====
section
/-! DEFINITION. The part reset (R171, and the reset rule of each chapter: R22, R46, R62, R71, R112, R122, R142, R163, R164, R184, R191, R196). -/

namespace Sys2Proof.Machine

/-- The cartridge after a part reset (R22): a cartridge that is present seats again. -/
def Cartridge.afterReset (pres btn : Bool) : Cartridge :=
  { Cartridge.reset with
    state := (if pres then .seating else .empty), debounce := (if pres then some Const.debounce else none),
    seenFalse := !btn }

/-- The positioner after a part reset reads PARK (R112). -/
def Positioner.afterReset (park : Bool) : Positioner :=
  if park then Positioner.reset
  else
    { Positioner.reset with
      state := .retracting, act := Const.retractCode, source := .reserve, retractTimer := some Const.retract }

/-- The gate after a part reset reads WGATE (R122). -/
def Gate.afterReset (wgate : Bool) : Gate := { Gate.reset with held := wgate }

/-- A bay after a part reset, its input lines as they stand. -/
def BayState.afterReset (p : BayPins) : BayState :=
  { BayState.reset with
    pins := p, cart := .afterReset p.pres p.btn, pos := .afterReset p.park, gate := .afterReset p.wgate }

/-- The Link Interface after a part reset, its input lines as they stand; the lockout mark is set if LFRM is asserted
(R164). -/
def Link.afterReset (x : Link) : Link :=
  { Link.reset with lfrm := x.lfrm, ldir := x.ldir, lstb := x.lstb, resetN := x.resetN, lockout := x.lfrm }

/-- The part reset (R171): every block takes its reset state. The queue of commands and the count of free values are the
model's own and stay. -/
def partReset (s : State) : State :=
  { State.reset with
    bayA := .afterReset s.bayA.pins, bayB := .afterReset s.bayB.pins, link := s.link.afterReset,
    pending := s.pending, freeCount := s.freeCount }

end Sys2Proof.Machine
end

