-- ==== Sys2Proof/Machine/Replies.lean ====
section
/-! DEFINITION. What replies carry, byte by byte: named values (R175, R176, R180), records and layouts (R130, R177 to R179, R185, R192 to
R195). Each is read from State at the taking; none changes it. -/

namespace Sys2Proof.Machine

/-! ## Named values (R175, R176, R180) -/

/-- The cartridge state's value, as R1 lists it. -/
def CartState.value : CartState → Nat
  | .empty => 0
  | .seating => 1
  | .seated => 2
  | .releasePending => 3
  | .ejecting => 4
  | .jammed => 5

/-- The media type's value, as R1 lists it. -/
def MediaType.value : MediaType → Nat
  | .S => 0
  | .D => 1
  | .unrecognised => 2

/-- The spindle state's value, as R24 lists it. -/
def SpinState.value : SpinState → Nat
  | .stopped => 0
  | .waitPower => 1
  | .aligning => 2
  | .ramping => 3
  | .locking => 4
  | .locked => 5
  | .unlocked => 6
  | .braking => 7
  | .fault => 8

/-- The positioner state's value, as R88 lists it. -/
def PosState.value : PosState → Nat
  | .parked => 0
  | .loading => 1
  | .acquiring => 2
  | .following => 3
  | .seeking => 4
  | .settling => 5
  | .unloading => 6
  | .retracting => 7
  | .fault => 8

/-- The supply state's value, as R136 lists it. -/
def SupplyState.value : SupplyState → Nat
  | .normal => 0
  | .sag => 1
  | .fail => 2

/-- The scheduler state's value, as R155 lists it. -/
def SchedState.value : SchedState → Nat
  | .running => 0
  | .halting => 1
  | .halted => 2

/-- The halt cause's value, as R155 lists it. -/
def HaltCause.value : HaltCause → Nat
  | .request => 0
  | .step => 1
  | .fault => 2

/-- The sample mode's value (R175, R195). -/
def SampleMode.value : SampleMode → Nat
  | .image => 0
  | .history => 1

/-- A consumer's number in the order of R48: spindle A 0 through latch B 5 (R195). -/
def Consumer.value : Consumer → Nat
  | .spindle .A => 0
  | .spindle .B => 1
  | .actuator .A => 2
  | .actuator .B => 3
  | .latch .A => 4
  | .latch .B => 5

/-- A bay's byte in a frame (R174). -/
def bayByte : Bay → Nat
  | .A => 1
  | .B => 2

/-- An operation's request code (R180). -/
def OpKind.code : OpKind → Nat
  | .spinUp => 1
  | .spinDown => 2
  | .loadHeads => 3
  | .unloadHeads => 4
  | .seek _ _ => 5
  | .openWrite => 6
  | .closeWrite => 7
  | .eject => 8

/-- The value of FAILED with a cause (R176). -/
def Cause.value : Cause → Nat
  | .spinFail => 16
  | .overcurrent => 17
  | .brakeTimeout => 18
  | .speedLost => 19
  | .servoLost => 20
  | .recoveryFail => 21
  | .loadTimeout => 22
  | .reserveLow => 23
  | .unloadTimeout => 24
  | .retractFail => 25
  | .jam => 26
  | .presenceLost => 27
  | .supplyFail => 28
  | .notReady => 32
  | .notTracking => 33
  | .writeProtected => 34
  | .seekTimeout => 35
  | .mediaUnknown => 36
  | .noBudget => 37

/-- The outcome byte (R176). -/
def OpOutcome.value : OpOutcome → Nat
  | .success => 0
  | .cancelled => 1
  | .failed c => c.value

/-- The refusal reason's value (R176). -/
def Reason.value : Reason → Nat
  | .badFrame => 1
  | .badBay => 2
  | .badValue => 3
  | .noCartridge => 4
  | .wrongState => 5
  | .queueFull => 6
  | .busy => 7
  | .prevented => 8
  | .ejectPending => 9
  | .inUse => 10

/-! ## Records -/

/-- A tag that may be absent: 0 meaning none (R175). -/
def tagByte (t : Option Nat) : List Byte := u8 (t.getD 0)

/-- A completion record: 7 bytes (R177). -/
def completionBytes (r : Completion) : List Byte :=
  u8 r.tag ++ u8 (bayByte r.bay) ++ u8 r.op.code ++ u8 r.outcome.value ++ optional 2 u16 r.detail

/-- The reply of READ COMPLETIONS: up to 6 records and the number left (R162, R177). -/
def completionsReply (l : List Completion) : List Byte :=
  u8 (l.take 6).length ++ (l.take 6).flatMap completionBytes ++ u8 (l.drop 6).length

/-- A refusal record in READ REFUSALS (R185). -/
def refusalBytes (r : RefusalRecord) : List Byte := [r.code, r.bay] ++ u8 r.reason.value

/-- The reply of READ REFUSALS: 9 bytes (R185). -/
def refusalsReply (l : RefusalLog) : List Byte :=
  u8 l.count ++ optional 3 refusalBytes l.first ++ optional 3 refusalBytes l.latest

/-- The eight counters of a bay, in the order of R191. -/
def bayCountersBytes (c : BayCounters) : List Byte :=
  u16 c.missedWedges ++ u16 c.recoverySeeks ++ u16 c.seekTimeouts ++ u16 c.writeFaults ++ u16 c.blockedGates ++
    u16 c.spinUpRetries ++ u16 c.ejectRetries ++ u16 c.servoLosses

/-- The reply of READ COUNTERS: 42 bytes (R192). -/
def countersReply (s : State) : List Byte :=
  bayCountersBytes s.bayA.cnt ++ bayCountersBytes s.bayB.cnt ++ u16 s.partCnt.completionOverwrites ++
    u16 s.partCnt.historyOverwrites ++ u16 s.partCnt.sagEntries ++ u16 s.partCnt.failEntries ++
    u16 s.partCnt.refusedRequests

/-- The reply of IDENTIFY: 25 bytes (R193). -/
def identifyReply : List Byte :=
  text "NORDHEM" ++ text "VELSJO 2240" ++ u8 3 ++ u8 2 ++ u8 16 ++ u8 8 ++ u8 96

/-- An event class set: bits 13..15 are 0 in a reply (R179). -/
def classesReply (x : BitVec 16) : List Byte := split16 (x &&& allClasses)

/-! ## Profile, gains, limits (R84, R85, R86, R141) -/

/-- The 16 demand values, 2 bytes each: sixteen fields, not a list with a count byte of R175 (DESIGN CHOICE, log
entry 42). -/
def profileBytes (p : List Nat) : List Byte := p.flatMap u16

/-- The gains as taken: one byte each, by their ranges (log entry 21). -/
def gainsBytes (g : Gains) : List Byte := u8 g.kv ++ u8 g.kp ++ u8 g.kd ++ u8 g.limit

/-- The seven limits, 2 bytes each. -/
def limitsBytes (l : Limits) : List Byte :=
  u16 l.fail ++ u16 l.logicFail ++ u16 l.sag ++ u16 l.recover ++ u16 l.reserveLow ++ u16 l.reserveOk ++ u16 l.overcurrent

/-- The reply of READ PROFILE (R85). -/
def profileReply (a : Addr) (s : State) : List Byte :=
  match a with
  | .part => profileBytes s.profile
  | .bay b => profileBytes s.profile ++ gainsBytes (s.bay b).gains

/-! ## Status (R194, R195) -/

/-- A media record: type, last track (optional), head count, write-protected. -/
def mediaBytes (m : Media) : List Byte := u8 m.kind.value ++ optional 2 u16 m.lastTrack ++ u8 m.heads ++ flag m.writeProtected

/-- A consumer's holding and whether its request waits (R61). -/
def holdingBytes (c : Consumer) (s : State) : List Byte := u16 (s.hold c) ++ flag (s.ledger.waits c)

/-- The status record of a bay: 48 bytes (R194). -/
def bayStatus (b : Bay) (s : State) : List Byte :=
  let x := s.bay b
  u8 x.cart.state.value ++ optional 6 mediaBytes x.cart.media ++ flag x.cart.prevent ++
  u8 x.spin.state.value ++ u8 x.spin.attempt ++ optional 3 u24 x.spin.lastPeriod ++ u8 x.spin.drive ++
  u8 x.pos.state.value ++ u8 x.pos.head ++ u16 x.pos.target ++
  i24 x.servo.P ++ i16 x.servo.v ++ i16 x.servo.pes ++ flag x.servo.pesValid ++
  holdingBytes (.spindle b) s ++ holdingBytes (.actuator b) s ++ holdingBytes (.latch b) s ++
  u8 x.sched.state.value ++ optional 1 (fun c : HaltCause => u8 c.value) x.sched.cause ++
  u8 ((x.sched.lastFault.map Cause.value).getD 0) ++ u8 x.sched.queue.length ++
  tagByte (x.sched.inflight.map Op.tag) ++ u8 ((x.sched.inflight.map fun o : Op => o.kind.code).getD 0) ++
  flag x.gate.window ++ flag x.gate.wperm ++ flag x.mon.qualified ++ flag x.mon.overcurrent

/-- A wait-list entry: 6 bytes (R195). -/
def waitBytes (e : WaitEntry) : List Byte :=
  u8 e.who.value ++
    match e.req with
    | .fixed a => u8 0 ++ u16 a ++ u16 a
    | .ranged least most => u8 1 ++ u16 least ++ u16 most

/-- The pool slots a bay holds: its queue, and its in-flight operation (R143, R148, R194). -/
def slotsHeld (x : Sched) : Nat := x.queue.length + x.inflight.isSome.toNat

/-- The free slots of the pool (R143). -/
def freeSlots (s : State) : Nat := Const.poolSize - (slotsHeld s.bayA.sched + slotsHeld s.bayB.sched)

/-- The status record of the part (R195). -/
def partStatus (s : State) : List Byte :=
  u8 s.supply.state.value ++ u16 s.ledger.capacity ++ u16 s.ledger.effective ++ u16 s.ledger.sum ++
  u8 s.ledger.wait.length ++ s.ledger.wait.flatMap waitBytes ++ u8 (freeSlots s) ++ u8 s.store.mode.value ++
  u8 s.sense.scanCount

/-- The reply of READ STATUS (R194, R195). -/
def statusReply (a : Addr) (s : State) : List Byte :=
  match a with
  | .part => partStatus s
  | .bay b => bayStatus b s

/-! ## Sense list and samples (R129, R130, R134, R178) -/

/-- The marks byte of an entry (R178). -/
def marksByte (e : SenseEntry) : Nat := e.endMark.toNat + 2 * e.haltMark.toNat + 4 * e.notifyMark.toNat

/-- A position of the sense list as a reply carries it: the four bytes of R178, an unused position with its unused mark
alone (log entry 20). -/
def entryBytes (position : Nat) : Option SenseEntry → List Byte
  | some e => u8 position ++ u8 e.channel ++ u8 e.gain ++ u8 (marksByte e)
  | none => u8 position ++ u8 0 ++ u8 0 ++ u8 0x80

/-- The entries from position `n` on. -/
def listBytes (n : Nat) : List (Option SenseEntry) → List Byte
  | [] => []
  | e :: es => entryBytes n e ++ listBytes (n + 1) es

/-- The reply of READ SENSE LIST (R130). -/
def senseListReply (s : State) : List Byte :=
  listBytes 6 (s.sense.replacement.getD s.sense.active) ++ flag s.sense.replacement.isSome ++ flag s.sense.halted ++
    u8 s.sense.interval ++ u8 s.store.mode.value

/-- A slot of an IMAGE reply: valid flag and channel, value, scan count (R178). The fields of an invalid slot are "of no
meaning": free values (R134; log entry 9). -/
def slotBytes (n : Nat) (x : Slot) : List Byte :=
  if x.valid then u8 (128 + x.channel) ++ u16 x.value ++ u8 x.scan
  else
    let w := Config.freeWord n
    u8 (w.extractLsb' 0 4).toNat ++ u16 (w.extractLsb' 4 10).toNat ++ u8 (w.extractLsb' 14 8).toNat

/-- The slots in position order, each invalid one with a free value of its own from the `n`-th on. -/
def slotsBytes (n : Nat) : List Slot → List Byte
  | [] => []
  | x :: xs => slotBytes n x ++ slotsBytes (if x.valid then n else n + 1) xs

/-- The slots an IMAGE read carries: up to 12 from the first position (R134). -/
def slotsRead (first : Nat) (s : State) : List Slot := (s.store.image.drop first).take 12

/-- The reply of READ SAMPLES, IMAGE (R134, R178). -/
def imageReply (first : Nat) (s : State) : List Byte :=
  u8 first ++ u8 (slotsRead first s).length ++ slotsBytes s.freeCount (slotsRead first s)

/-- How many free values an IMAGE read draws. -/
def freeDrawn (first : Nat) (s : State) : Nat := ((slotsRead first s).filter fun x : Slot => !x.valid).length

/-- A history record: position and channel, value, scan count (R178). -/
def recordBytes (r : Record) : List Byte := u8 (16 * r.position + r.channel) ++ u16 r.value ++ u8 r.scan

/-- The reply of READ SAMPLES, HISTORY: up to 12 records and the number left (R134, R178). -/
def historyReply (l : List Record) : List Byte :=
  u8 (l.take 12).length ++ (l.take 12).flatMap recordBytes ++ u8 (l.drop 12).length

end Sys2Proof.Machine
end

