-- ==== Sys2Proof/Machine/Frames.lean ====
section
/-! DEFINITION. Frames of the Drive Command Link: the bytes of a request (R174, R180), and the link checks a to g (R166). -/

namespace Sys2Proof.Machine

/-! ## Bytes of a frame (R174) -/

/-- The sum of bytes, modulo 256. -/
def byteSum : List Byte → Byte
  | [] => 0
  | x :: xs => x + byteSum xs

/-- A request frame: code, bay, length, the check that makes the sum 0, payload (R174). -/
def requestFrame (code bay : Byte) (payload : List Byte) : List Byte :=
  code :: bay :: byteOf payload.length :: -(code + bay + byteOf payload.length + byteSum payload) :: payload

/-- A reply frame (R174). -/
def replyFrame (kind : Nat) (code bay : Byte) (payload : List Byte) : List Byte :=
  byteOf kind :: code :: bay :: byteOf payload.length :: payload

/-- The bay byte that addresses a bay. -/
def toBay : Bay → Byte
  | .A => 1
  | .B => 2

/-- The bay byte of an address (R174). -/
def toAddr : Addr → Byte
  | .part => 0
  | .bay b => toBay b

/-- The bay a bay byte addresses. -/
def bayOf (x : Byte) : Option Bay := if x = 1 then some .A else if x = 2 then some .B else none

/-- What a bay byte addresses. -/
def addrOf (x : Byte) : Option Addr := if x = 0 then some .part else (bayOf x).map .bay

/-- A request that only the part may be addressed with. -/
def partOnly (x : Byte) (i : Instr) : Option Instr := if x = 0 then some i else none

/-- A flag on the link. -/
def flagByte (x : Bool) : Byte := if x then 1 else 0

/-- An entry of WRITE SENSE LIST on the link: 4 bytes (R178). -/
def itemBytes (x : SenseItem) : List Byte := [x.position, x.channel, x.gain, x.marks]

/-- The entries of a payload, 4 bytes each. -/
def itemsOf : List Byte → List SenseItem
  | p :: c :: g :: m :: rest => ⟨p, c, g, m⟩ :: itemsOf rest
  | _ => []

/-- The 16-bit fields of a payload, most significant byte first. -/
def wordsOf : List Byte → List (BitVec 16)
  | h :: l :: rest => (h ++ l) :: wordsOf rest
  | _ => []

/-! ## The frame of a request (R180) -/

/-- The bytes of the frame that carries a request; none for a command that is no request. -/
def frameOf : Instr → List Byte
  | .spinUp b => requestFrame 1 (toBay b) []
  | .spinDown b => requestFrame 2 (toBay b) []
  | .loadHeads b => requestFrame 3 (toBay b) []
  | .unloadHeads b => requestFrame 4 (toBay b) []
  | .seek b track head => requestFrame 5 (toBay b) (split16 track ++ [head])
  | .openWrite b => requestFrame 6 (toBay b) []
  | .closeWrite b => requestFrame 7 (toBay b) []
  | .eject b => requestFrame 8 (toBay b) []
  | .haltBay b => requestFrame 16 (toBay b) []
  | .runBay b => requestFrame 17 (toBay b) []
  | .setStepMode b on => requestFrame 18 (toBay b) [flagByte on]
  | .abortBay b => requestFrame 19 (toBay b) []
  | .bayReset b => requestFrame 20 (toBay b) []
  | .setPrevent b on => requestFrame 21 (toBay b) [flagByte on]
  | .setTrim b trim => requestFrame 22 (toBay b) [trim]
  | .setGains b kv kp kd limit => requestFrame 23 (toBay b) (split16 kv ++ split16 kp ++ split16 kd ++ split16 limit)
  | .setBudget c => requestFrame 32 0 (split16 c)
  | .writeProfile ds => requestFrame 33 0 (ds.flatMap split16)
  | .readProfile a => requestFrame 34 (toAddr a) []
  | .writeSenseList es => requestFrame 35 0 (es.flatMap itemBytes)
  | .readSenseList => requestFrame 36 0 []
  | .resumeSense => requestFrame 37 0 []
  | .sampleNow channel gain => requestFrame 38 0 [channel, gain]
  | .readSamples selector first => requestFrame 39 0 [selector, first]
  | .setSampleMode mode interval => requestFrame 40 0 [mode, interval]
  | .setLimits f l sg rc rl ro oc =>
    requestFrame 41 0
      (split16 f ++ split16 l ++ split16 sg ++ split16 rc ++ split16 rl ++ split16 ro ++ split16 oc)
  | .identify => requestFrame 48 0 []
  | .readStatus a => requestFrame 49 (toAddr a) []
  | .readEvents => requestFrame 50 0 []
  | .clearEvents x => requestFrame 51 0 (split16 x)
  | .setEventMask x => requestFrame 52 0 (split16 x)
  | .readCounters => requestFrame 53 0 []
  | .readRefusals => requestFrame 54 0 []
  | .readCompletions => requestFrame 55 0 []
  | .resetPart => requestFrame 56 0 []
  | .frameRefused bytes => bytes
  | .linkStrobe .. | .strobeNegated | .resetNFall | .resetNRise _ | .powerOn | .presRise _ | .presFall _
  | .debounceExpiry .. | .btnChange .. | .buttonLevelExpiry _ | .longPress _ | .pulseTimerExpiry _
  | .waitTimerExpiry _ | .lampFlashToggle _ | .tachPulse .. | .tachTimerExpiry _ | .stageTimerExpiry _
  | .brakeLimitExpiry _ | .speedLostTimerExpiry _ | .wedgeWindowEnd .. | .sauCompletion | .loadWaitTimerExpiry _
  | .loadTimerExpiry _ | .seekTimerExpiry _ | .unloadTimerExpiry _ | .retractTimerExpiry _ | .parkRise _ | .parkFall _
  | .wgateRise _ | .wgateFall _ | .scanTimerExpiry | .conversionCompletion _ | .sampleNowCompletion _
  | .lfrmRelease => []

/-! ## The link checks (R166) -/

/-- The payload lengths that pass check f; none for a code that fails check e (R180). -/
def payloadLengths (code : Byte) : Option (List Nat) :=
  match code.toNat with
  | 1 | 2 | 3 | 4 | 6 | 7 | 8 | 16 | 17 | 19 | 20 | 34 | 36 | 37 | 48 | 49 | 50 | 53 | 54 | 55 | 56 => some [0]
  | 5 => some [3]
  | 18 | 21 | 22 => some [1]
  | 23 => some [8]
  | 32 | 38 | 39 | 40 | 51 | 52 => some [2]
  | 33 => some [32]
  | 35 => some [0, 4, 8, 12, 16, 20, 24, 28, 32, 36, 40]
  | 41 => some [14]
  | _ => none

/-- The request of a code, a bay byte and a payload of a permitted length; none where the bay byte does not address it as
the code table permits (check g; R180). -/
def requestOf (code bay : Byte) (p : List Byte) : Option Instr :=
  match code.toNat with
  | 1 => (bayOf bay).map .spinUp
  | 2 => (bayOf bay).map .spinDown
  | 3 => (bayOf bay).map .loadHeads
  | 4 => (bayOf bay).map .unloadHeads
  | 5 => (bayOf bay).map fun b => .seek b (field16 p 0) (field8 p 2)
  | 6 => (bayOf bay).map .openWrite
  | 7 => (bayOf bay).map .closeWrite
  | 8 => (bayOf bay).map .eject
  | 16 => (bayOf bay).map .haltBay
  | 17 => (bayOf bay).map .runBay
  | 18 => (bayOf bay).map fun b => .setStepMode b (flagOf (field8 p 0))
  | 19 => (bayOf bay).map .abortBay
  | 20 => (bayOf bay).map .bayReset
  | 21 => (bayOf bay).map fun b => .setPrevent b (flagOf (field8 p 0))
  | 22 => (bayOf bay).map fun b => .setTrim b (field8 p 0)
  | 23 => (bayOf bay).map fun b => .setGains b (field16 p 0) (field16 p 2) (field16 p 4) (field16 p 6)
  | 32 => partOnly bay (.setBudget (field16 p 0))
  | 33 => partOnly bay (.writeProfile (wordsOf p))
  | 34 => (addrOf bay).map .readProfile
  | 35 => partOnly bay (.writeSenseList (itemsOf p))
  | 36 => partOnly bay .readSenseList
  | 37 => partOnly bay .resumeSense
  | 38 => partOnly bay (.sampleNow (field8 p 0) (field8 p 1))
  | 39 => partOnly bay (.readSamples (field8 p 0) (field8 p 1))
  | 40 => partOnly bay (.setSampleMode (field8 p 0) (field8 p 1))
  | 41 =>
    partOnly bay
      (.setLimits (field16 p 0) (field16 p 2) (field16 p 4) (field16 p 6) (field16 p 8) (field16 p 10) (field16 p 12))
  | 48 => partOnly bay .identify
  | 49 => (addrOf bay).map .readStatus
  | 50 => partOnly bay .readEvents
  | 51 => partOnly bay (.clearEvents (field16 p 0))
  | 52 => partOnly bay (.setEventMask (field16 p 0))
  | 53 => partOnly bay .readCounters
  | 54 => partOnly bay .readRefusals
  | 55 => partOnly bay .readCompletions
  | 56 => partOnly bay .resetPart
  | _ => none

/-- What the checks make of a frame: the request, or the reason it is refused. -/
inductive Checked where
  | taken (i : Instr)
  | refused (r : Reason)
  deriving DecidableEq, Repr

/-- Checks e, f and g on the code, the bay byte and the payload (R166). -/
def checkRequest (code bay : Byte) (p : List Byte) : Checked :=
  match payloadLengths code with
  | none => .refused .badFrame
  | some lengths =>
    if lengths.contains p.length then
      match requestOf code bay p with
      | some i => .taken i
      | none => .refused .badBay
    else .refused .badFrame

/-- The link checks a to g, in order, on the buffer and the overflow mark (R166). -/
def checkFrame (buffer : List Byte) (overflow : Bool) : Checked :=
  match buffer with
  | code :: bay :: len :: _ :: p =>
    if overflow || byteSum buffer ≠ 0 || len.toNat ≠ p.length then .refused .badFrame
    else checkRequest code bay p
  | _ => .refused .badFrame

end Sys2Proof.Machine
end

