-- ==== Sys2Proof/Machine/Requests.lean ====
section
/-! DEFINITION. The requests as the link hands them over: acceptance of operations (R144 to R147), the checks and effects of immediate
requests (R182, and the rule of each), and the replies they make ready. -/

namespace Sys2Proof.Machine

/-! ## Replies and refusals (R168, R181, R183, R184) -/

/-- A reply is made ready: HOLDING, LRDY asserted (R166, R168). -/
def reply (kind : Nat) (code bay : Byte) (payload : List Byte) (s : State) : State :=
  s.modLink fun l =>
    { l with phase := .holding, buffer := [], overflow := false, held := replyFrame kind code bay payload, readIndex := 0,
             lrdy := true, resetOnRead := false }

/-- The reply DONE. -/
def done (code bay : Byte) (payload : List Byte) (s : State) : State := reply 1 code bay payload s

/-- The reply QUEUED with a tag. -/
def queued (code bay : Byte) (tag : Nat) (s : State) : State := reply 2 code bay (u8 tag) s

/-- A refusal record is given to the log (R184). -/
def RefusalLog.add (l : RefusalLog) (r : RefusalRecord) : RefusalLog :=
  if l.count = 0 then { count := 1, first := some r, latest := some r }
  else { l with count := bump 255 l.count, latest := some r }

/-- A refusal that echoes this code and bay, with the record it gives the log: the reply, the log, the counter (R183). -/
def refuseRecording (code bay : Byte) (r : RefusalRecord) (s : State) : State :=
  let s := s.setRefusals (s.refusals.add r)
  let s := countPart (fun c => { c with refusedRequests := count c.refusedRequests }) s
  reply 3 code bay (u8 r.reason.value) s

/-- A refusal: what it echoes is what the log records (R183). -/
def refuse (code bay : Byte) (r : Reason) (s : State) : State :=
  refuseRecording code bay { code := code, bay := bay, reason := r } s

/-! ## Operations (R144 to R147) -/

/-- The slots a bay may hold: 8 while the other bay is active, else 12 (R144). -/
def slotLimit (b : Bay) (s : State) : Nat := if 2 ≤ slotsHeld (s.bay b.other).sched then 8 else 12

/-- Check 3: SEEK to a head and a track the media record has (R146). -/
def seekInRange (b : Bay) (k : OpKind) (s : State) : Bool :=
  match k with
  | .seek track head => head ≤ 1 && (lastTrack b s).any fun top => track ≤ top
  | _ => true

/-- Check 4: what the cartridge state refuses (R146, R13). -/
def cartRefusal (c : CartState) (k : OpKind) : Option Reason :=
  match c with
  | .empty | .seating => some .noCartridge
  | .releasePending | .ejecting => some .ejectPending
  | .jammed => if k.isEject then none else some .wrongState
  | .seated => none

/-- Checks 3 to 6, in order (R146). -/
def opRefusal (b : Bay) (k : OpKind) (s : State) : Option Reason :=
  if !seekInRange b k s then some .badValue
  else
    match cartRefusal (s.bay b).cart.state k with
    | some r => some r
    | none =>
      if k.isEject && (s.bay b).cart.prevent then some .prevented
      else if slotLimit b s ≤ slotsHeld (s.bay b).sched || freeSlots s = 0 then some .queueFull
      else none

/-- The tags of a bay's occupied slots. -/
def Sched.tags (x : Sched) : List Nat := x.inflight.toList.map Op.tag ++ x.queue.map Op.tag

/-- The tag after a tag, from 255 to 1 (R145). -/
def tagAfter (t : Nat) : Nat := if t < 255 then t + 1 else 1

/-- The first tag from `t` on that no occupied slot holds, within `n` advances (R145). -/
def freeTag (occupied : List Nat) : Nat → Nat → Nat
  | 0, t => t
  | n + 1, t => if occupied.contains t then freeTag occupied n (tagAfter t) else t

/-- Advance the tag counter past the tag just given (R145). -/
def advanceTag (s : State) : State :=
  s.setNextTag (freeTag (s.bayA.sched.tags ++ s.bayB.sched.tags) 255 (tagAfter s.nextTag))

/-- An accepted operation: a slot at the tail of the bay queue, a tag, QUEUED (R147). -/
def acceptOp (b : Bay) (k : OpKind) (s : State) : State :=
  let tag := s.nextTag
  let s := s.modSched b fun x => { x with queue := x.queue ++ [{ tag := tag, kind := k }] }
  queued (byteOf k.code) (toBay b) tag (advanceTag s)

/-- An operation request (R146, R147); the scheduler may take it at once (R149). -/
def requestOp (b : Bay) (k : OpKind) (s : State) : State :=
  match opRefusal b k s with
  | some r => refuse (byteOf k.code) (toBay b) r s
  | none => settle (acceptOp b k s)

/-! ## Bay control (R156 to R160, R6, R27, R86) -/

/-- HALT BAY at a scheduler (R156). -/
def Sched.halt (x : Sched) : Sched :=
  match x.state with
  | .running =>
    if x.inflight.isSome then { x with state := .halting, cause := some .request }
    else { x with state := .halted, cause := some .request }
  | .halting => { x with cause := some .request }
  | .halted => x

/-- RUN BAY at a scheduler (R157). -/
def Sched.run (x : Sched) : Sched :=
  match x.state with
  | .halted | .halting => { x with state := .running, cause := none }
  | .running => x

/-- HALT BAY (R156). -/
def requestHaltBay (b : Bay) (s : State) : State := done 16 (toBay b) [] (changeSched b Sched.halt s)

/-- RUN BAY (R157): the next taking is judged at once. -/
def requestRunBay (b : Bay) (s : State) : State := settle (done 17 (toBay b) [] (changeSched b Sched.run s))

/-- SET STEP MODE (R158). -/
def requestSetStepMode (b : Bay) (on : Bool) (s : State) : State :=
  done 18 (toBay b) [] (s.modSched b fun x => { x with step := on })

/-- What ABORT BAY and BAY RESET answer: how many queued operations were cancelled, and the tag still in flight (R159,
R160). -/
def abortReply (cancelled : Nat) (x : Sched) : List Byte := u8 cancelled ++ tagByte (x.inflight.map Op.tag)

/-- ABORT BAY (R159). -/
def requestAbortBay (b : Bay) (s : State) : State :=
  let n := (s.bay b).sched.queue.length
  let s := abortBay b s
  settle (done 19 (toBay b) (abortReply n (s.bay b).sched) s)

/-- BAY RESET (R160): the reply is prepared once the queue has been emptied and the in-flight operation stopped. -/
def requestBayReset (b : Bay) (s : State) : State :=
  let n := (s.bay b).sched.queue.length
  let s := stopForReset b s
  let payload := abortReply n (s.bay b).sched
  settle (done 20 (toBay b) payload (resetBlocks b s))

/-- SET PREVENT (R6). -/
def requestSetPrevent (b : Bay) (on : Bool) (s : State) : State :=
  match (s.bay b).cart.state with
  | .empty | .seating => refuse 21 (toBay b) .noCartridge s
  | .seated | .releasePending | .ejecting | .jammed =>
    done 21 (toBay b) [] (s.modCart b fun c => { c with prevent := on })

/-- SET TRIM (R27). -/
def requestSetTrim (b : Bay) (trim : Byte) (s : State) : State :=
  let t := clampInt (-32) 31 trim.toInt
  done 22 (toBay b) (i8 t) (s.modSpin b fun x => { x with trim := t })

/-- The gains of a SET GAINS as taken (R86). -/
def gainsTaken (kv kp kd limit : BitVec 16) : Gains :=
  { kv := clampNat 0 255 kv.toNat, kp := clampNat 0 255 kp.toNat, kd := clampNat 0 255 kd.toNat,
    limit := clampNat 1 48 limit.toNat }

/-- The wedge qualification judged again against a new write limit: a qualification that is set may be withdrawn, none is
given (R116; log entry 18). -/
def requalify (b : Bay) (s : State) : State :=
  let v := (s.bay b).servo
  let limit := (s.bay b).gains.limit
  s.modGate b fun g => { g with qualified := g.qualified && v.pesValid && withinLimit v.pes limit }

/-- SET GAINS (R86, R116, R117). -/
def requestSetGains (b : Bay) (kv kp kd limit : BitVec 16) (s : State) : State :=
  let g := gainsTaken kv kp kd limit
  done 23 (toBay b) (gainsBytes g) (judgeGate b (requalify b (s.modGains b fun _ => g)))

/-! ## Budget and profile (R58, R84, R85) -/

/-- The consumers of removed entries are told NO_BUDGET, in list order (R58). -/
def tellAllNoBudget : List Consumer → State → State
  | [], s => s
  | c :: cs, s => tellAllNoBudget cs (tellNoBudget c s)

/-- A capacity is taken: entries above it fail, the list is re-examined (R58). -/
def takeCapacity (c : Nat) (s : State) : State :=
  let r := s.ledger.take c s.supply.state
  let s := tellAllNoBudget r.2 (s.setLedger r.1)
  let x := s.ledger.reexamine
  tellGrants x.2 (s.setLedger x.1)

/-- SET BUDGET (R58). -/
def requestSetBudget (capacity : BitVec 16) (s : State) : State :=
  let c := clampNat 100 400 capacity.toNat
  if c < s.ledger.sum then refuse 32 0 .inUse s else settle (done 32 0 (u16 c) (takeCapacity c s))

/-- Whether a positioner keeps the profile table busy (R84). -/
def holdsProfile (p : PosState) : Bool := p = .seeking || p = .settling

/-- WRITE PROFILE (R84). A list that is not 16 long is no frame of the code table (check f; log entry 40). -/
def requestWriteProfile (demands : List (BitVec 16)) (s : State) : State :=
  if demands.length ≠ 16 then refuse 33 0 .badFrame s
  else if holdsProfile s.bayA.pos.state || holdsProfile s.bayB.pos.state then refuse 33 0 .busy s
  else
    let p := demands.map fun d => clampNat 0 1023 d.toNat
    done 33 0 (profileBytes p) (s.setProfile p)

/-- READ PROFILE (R85). -/
def requestReadProfile (a : Addr) (s : State) : State := done 34 (toAddr a) (profileReply a s) s

/-! ## Sensing (R128 to R135, R141) -/

/-- Whether an entry is the unused one (R178). -/
def itemUnused (x : SenseItem) : Bool := x.marks.getLsbD 7

/-- The items without the unused mark, the ones that are read. Of one with it the other three bytes are not read (R178): it names no
position to the part, and what it leaves unnamed becomes unused (R129; log entry 37). -/
def itemsRead (items : List SenseItem) : List SenseItem := items.filter fun x => !itemUnused x

/-- The entry an item writes, clamped (R124, R129, R178). -/
def itemTaken (x : SenseItem) : SenseEntry :=
  { channel := min x.channel.toNat 11, gain := min x.gain.toNat 3, endMark := x.marks.getLsbD 0,
    haltMark := x.marks.getLsbD 1, notifyMark := x.marks.getLsbD 2 }

/-- Whether a list of positions names one outside 6..15, or one twice (R129). -/
def badPositions : List Nat → Bool
  | [] => false
  | p :: ps => p < 6 || 15 < p || ps.contains p || badPositions ps

/-- Whether a request is BAD_VALUE: of the positions that its items name, one is bad or named twice (R129, R182). The position byte
of an unused item is not read (R178), so it is not judged (log entry 37). -/
def badItems (items : List SenseItem) : Bool := badPositions ((itemsRead items).map fun x => x.position.toNat)

/-- The entry these items write at a position; unused where none names it (R129). -/
def itemAt (position : Nat) : List SenseItem → Option SenseEntry
  | [] => none
  | x :: xs => if x.position.toNat = position then some (itemTaken x) else itemAt position xs

/-- The programmable part formed from the items (R129). -/
def listTaken (items : List SenseItem) : List (Option SenseEntry) :=
  [6, 7, 8, 9, 10, 11, 12, 13, 14, 15].map fun p => itemAt p (itemsRead items)

/-- The new programmable part takes effect at once, or waits for the next scan start (R129). -/
def writeList (l : List (Option SenseEntry)) (s : State) : State :=
  if s.sense.scan.isSome then s.modSense fun x => { x with replacement := some l } else installList l s

/-- WRITE SENSE LIST (R129). More than ten entries are no frame of the code table (check f; log entry 40). -/
def requestWriteSenseList (items : List SenseItem) (s : State) : State :=
  if 10 < items.length then refuse 35 0 .badFrame s
  else if badItems items then refuse 35 0 .badValue s
  else done 35 0 (listBytes 6 (listTaken items)) (writeList (listTaken items) s)

/-- READ SENSE LIST (R130). -/
def requestReadSenseList (s : State) : State := done 36 0 (senseListReply s) s

/-- RESUME SENSE (R128). -/
def requestResumeSense (s : State) : State := done 37 0 [] (s.modSense fun x => { x with halted := false })

/-- SAMPLE NOW (R131): its reply is ready at the completion of its conversion; until then the phase is PREPARING (R166). -/
def requestSampleNow (channel gain : Byte) (s : State) : State :=
  let s := s.modSense fun x => x.ask (min channel.toNat 11) (min gain.toNat 3)
  s.modLink fun l =>
    { l with phase := .preparing, buffer := [], overflow := false, held := [], readIndex := 0, lrdy := false,
             resetOnRead := false }

/-- READ SAMPLES (R134). -/
def requestReadSamples (selector first : Byte) (s : State) : State :=
  if selector = 0 then
    let p := min first.toNat 15
    done 39 0 (imageReply p s) (s.setFreeCount (s.freeCount + freeDrawn p s))
  else if selector = 1 then done 39 0 (historyReply s.store.ring) (s.modStore fun x => { x with ring := x.ring.drop 12 })
  else refuse 39 0 .badValue s

/-- The sample mode of a mode byte (R175). -/
def modeOf (x : Byte) : Option SampleMode := if x = 0 then some .image else if x = 1 then some .history else none

/-- SET SAMPLE MODE (R135). -/
def requestSetSampleMode (mode interval : Byte) (s : State) : State :=
  match modeOf mode with
  | none => refuse 40 0 .badValue s
  | some m =>
    let n := clampNat 1 20 interval.toNat
    done 40 0 (u8 m.value ++ u8 n) (setSampling m n s)

/-- A limit as taken (R141). -/
def limitTaken (x : BitVec 16) : Nat := clampNat 0 1023 x.toNat

/-- Whether the limits are in order (R141). -/
def Limits.ordered (l : Limits) : Bool := l.fail < l.sag && l.sag < l.recover && l.reserveLow < l.reserveOk

/-- SET LIMITS (R141). -/
def requestSetLimits (l : Limits) (s : State) : State :=
  if l.ordered then done 41 0 (limitsBytes l) (s.setSupply { s.supply with limits := l }) else refuse 41 0 .badValue s

/-! ## Reporting and reset (R162, R172, R184 to R195) -/

/-- IDENTIFY (R193). -/
def requestIdentify (s : State) : State := done 48 0 identifyReply s

/-- READ STATUS (R194, R195). -/
def requestReadStatus (a : Addr) (s : State) : State := done 49 (toAddr a) (statusReply a s) s

/-- READ EVENTS (R189). -/
def requestReadEvents (s : State) : State := done 50 0 (classesReply (pendingSet s)) s

/-- Clear the latched classes that a set names (R190). -/
def clearClasses (x : BitVec 16) (s : State) : State :=
  refreshAttn (s.setEvents { s.events with latched := s.events.latched &&& ~~~(x &&& latchedClasses) })

/-- CLEAR EVENTS (R190). -/
def requestClearEvents (x : BitVec 16) (s : State) : State :=
  let s := clearClasses x s
  done 51 0 (classesReply (pendingSet s)) s

/-- SET EVENT MASK (R188). -/
def requestSetEventMask (x : BitVec 16) (s : State) : State :=
  let m := x &&& allClasses
  done 52 0 (classesReply m) (refreshAttn (s.setEvents { s.events with mask := m }))

/-- READ COUNTERS (R192): every counter becomes 0. -/
def requestReadCounters (s : State) : State :=
  let r := countersReply s
  let s := countBay .B (fun _ => .reset) (countBay .A (fun _ => .reset) s)
  done 53 0 r (countPart (fun _ => .reset) s)

/-- READ REFUSALS (R185): the log is emptied. -/
def requestReadRefusals (s : State) : State := done 54 0 (refusalsReply s.refusals) (s.setRefusals .reset)

/-- READ COMPLETIONS (R162): the records carried are removed. -/
def requestReadCompletions (s : State) : State :=
  done 55 0 (completionsReply s.completions) (refreshAttn (s.setCompletions (s.completions.drop 6)))

/-- RESET PART (R172): the reply is held, and the reset waits for it to be read. -/
def requestResetPart (s : State) : State := (done 56 0 [] s).modLink fun l => { l with resetOnRead := true }

end Sys2Proof.Machine
end

