-- ==== Sys2Proof/Machine/Link.lean ====
section
/-! DEFINITION. The Link Interface: the end of a frame (R166), strobes (R165, R167 to R170, R172), and how a request row of the command table
reaches its request. -/

namespace Sys2Proof.Machine

/-! ## The end of a frame (R166) -/

/-- A checked request is handed to its owning block (R166). Only requests come of a frame. -/
def takeRequest (i : Instr) (s : State) : State :=
  match i with
  | .spinUp b => requestOp b .spinUp s
  | .spinDown b => requestOp b .spinDown s
  | .loadHeads b => requestOp b .loadHeads s
  | .unloadHeads b => requestOp b .unloadHeads s
  | .seek b track head => requestOp b (.seek track.toNat head.toNat) s
  | .openWrite b => requestOp b .openWrite s
  | .closeWrite b => requestOp b .closeWrite s
  | .eject b => requestOp b .eject s
  | .haltBay b => requestHaltBay b s
  | .runBay b => requestRunBay b s
  | .setStepMode b on => requestSetStepMode b on s
  | .abortBay b => requestAbortBay b s
  | .bayReset b => requestBayReset b s
  | .setPrevent b on => requestSetPrevent b on s
  | .setTrim b trim => requestSetTrim b trim s
  | .setGains b kv kp kd limit => requestSetGains b kv kp kd limit s
  | .setBudget c => requestSetBudget c s
  | .writeProfile ds => requestWriteProfile ds s
  | .readProfile a => requestReadProfile a s
  | .writeSenseList es => requestWriteSenseList es s
  | .readSenseList => requestReadSenseList s
  | .resumeSense => requestResumeSense s
  | .sampleNow channel gain => requestSampleNow channel gain s
  | .readSamples selector first => requestReadSamples selector first s
  | .setSampleMode mode interval => requestSetSampleMode mode interval s
  | .setLimits f l sg rc rl ro oc =>
    requestSetLimits ⟨limitTaken f, limitTaken l, limitTaken sg, limitTaken rc, limitTaken rl, limitTaken ro, limitTaken oc⟩ s
  | .identify => requestIdentify s
  | .readStatus a => requestReadStatus a s
  | .readEvents => requestReadEvents s
  | .clearEvents x => requestClearEvents x s
  | .setEventMask x => requestSetEventMask x s
  | .readCounters => requestReadCounters s
  | .readRefusals => requestReadRefusals s
  | .readCompletions => requestReadCompletions s
  | .resetPart => requestResetPart s
  | .frameRefused _ | .linkStrobe .. | .strobeNegated | .resetNFall | .resetNRise _ | .powerOn | .presRise _ | .presFall _
  | .debounceExpiry .. | .btnChange .. | .buttonLevelExpiry _ | .longPress _ | .pulseTimerExpiry _
  | .waitTimerExpiry _ | .lampFlashToggle _ | .tachPulse .. | .tachTimerExpiry _ | .stageTimerExpiry _
  | .brakeLimitExpiry _ | .speedLostTimerExpiry _ | .wedgeWindowEnd .. | .sauCompletion | .loadWaitTimerExpiry _
  | .loadTimerExpiry _ | .seekTimerExpiry _ | .unloadTimerExpiry _ | .retractTimerExpiry _ | .parkRise _ | .parkFall _
  | .wgateRise _ | .wgateFall _ | .scanTimerExpiry | .conversionCompletion _ | .sampleNowCompletion _
  | .lfrmRelease => s

/-- LFRM is released: the lockout mark goes (R165). -/
def releaseFrame (s : State) : State := s.modLink fun l => { l with lfrm := false, lockout := false }

/-- The frame in the buffer ends: it is checked, and taken or refused (R166). A byte that did not arrive is echoed and
logged as 0, and of a frame of one byte the log records code 0 (R166, R183; log entry 19). -/
def endFrame (s : State) : State :=
  match checkFrame s.link.buffer s.link.overflow with
  | .taken i => takeRequest i s
  | .refused r =>
    let l := s.link.buffer
    refuseRecording (l.getD 0 0) (l.getD 1 0)
      { code := if l.length < 2 then 0 else l.getD 0 0, bay := l.getD 1 0, reason := r } s

/-- The release of LFRM (R166, R171). -/
def lfrmReleased (s : State) : State :=
  if !s.link.resetN then s
  else if s.link.phase = .receiving then endFrame (releaseFrame s)
  else releaseFrame s

/-! ## A whole frame at once (log entry 3) -/

/-- The strobes of a frame from here to its end have been answered: the held reply is discarded (R169), the lines are at
rest, LFRM is released. -/
def Link.framed (l : Link) : Link :=
  { l with held := [], readIndex := 0, withheld := none, lockout := false, resetOnRead := false, lack := false, lrdy := false,
           ld := none, lfrm := false, ldir := false, lstb := false }

/-- Whether a frame may be what the interface is receiving: none has begun, or its first bytes stand in the buffer. -/
def Link.mayCarry (l : Link) (frame : List Byte) : Bool := l.phase ≠ .receiving || (!l.overflow && l.buffer.isPrefixOf frame)

/-- A command that is the end of the frame with these bytes: the strobes that are still to come, then the release of
LFRM (R165, R166; log entries 3, 4, 26). -/
def deliver (frame : List Byte) (take : State → State) (s : State) : State :=
  if !s.link.resetN then s
  else if s.link.phase = .preparing || s.link.lockout then releaseFrame s
  else if s.link.phase = .holding && s.link.resetOnRead then releaseFrame (partReset s)
  else if s.link.mayCarry frame then take (s.modLink Link.framed)
  else endFrame (releaseFrame s)

/-- A frame that fails the checks, as a command (R166, R167). -/
def refusedFrame (bytes : List Byte) (s : State) : State :=
  endFrame (s.modLink fun l =>
    { l with phase := .receiving, buffer := bytes.take Const.frameSize, overflow := Const.frameSize < bytes.length })

/-! ## Strobes (R165) -/

/-- The first byte of a frame is taken: a held reply is discarded, the phase is RECEIVING (R165, R169). -/
def Link.beginFrame (data : Byte) (l : Link) : Link :=
  { l with phase := .receiving, buffer := [data], overflow := false, held := [], readIndex := 0, withheld := none,
           lack := true, lrdy := false, resetOnRead := false }

/-- A further byte of a frame; the 65th sets the overflow mark (R167). -/
def Link.takeByte (data : Byte) (l : Link) : Link :=
  if l.buffer.length < Const.frameSize then { l with buffer := l.buffer ++ [data], lack := true }
  else { l with overflow := true, lack := true }

/-- One reply byte is read out (R168). -/
def Link.readByte (l : Link) : Link := { l with ld := l.held[l.readIndex]?, readIndex := l.readIndex + 1, lack := true }

/-- The reply is consumed (R168). -/
def Link.consume (l : Link) : Link := { l with phase := .idle, held := [], readIndex := 0, lrdy := false }

/-- A strobe with LDIR high: a reply byte in HOLDING, else ignored (R165, R168, R172). -/
def readStrobe (s : State) : State :=
  if s.link.phase = .holding then
    let s := s.modLink Link.readByte
    if s.link.held.length ≤ s.link.readIndex then
      if s.link.resetOnRead then partReset s else s.modLink Link.consume
    else s
  else s

/-- A strobe with LDIR low and LFRM asserted (R165, R170, R172). -/
def writeStrobe (data : Byte) (s : State) : State :=
  if s.link.lockout then s
  else
    match s.link.phase with
    | .receiving => s.modLink (Link.takeByte data)
    | .idle => s.modLink (Link.beginFrame data)
    | .holding => if s.link.resetOnRead then partReset s else s.modLink (Link.beginFrame data)
    | .preparing => s.modLink fun l => { l with withheld := some data }

/-- A strobe (R165, R171): while LDIR is low the part drives no data line. While LDIR is high it drives them, and R165 does
not say with what where no reply byte has been placed: `ld` then stays as it was, absent or the byte last read (DESIGN
CHOICE, log entry 44). -/
def strobe (ldir lfrm : Bool) (data : Byte) (s : State) : State :=
  if !s.link.resetN then s
  else
    let s := s.modLink fun l => { l with ldir := ldir, lfrm := lfrm, lstb := true, ld := if ldir then l.ld else none }
    if ldir then readStrobe s
    else if lfrm then writeStrobe data s
    else s

/-- LSTB is negated: the acknowledge goes, a withheld strobe ends with no byte taken (R165, R170). -/
def strobeEnd (s : State) : State :=
  if !s.link.resetN then s else s.modLink fun l => { l with lstb := false, lack := false, withheld := none }

/-- The withheld strobe is judged when the reply is ready (R170). One whose LSTB is still asserted, but whose LFRM has been released
meanwhile, is dropped as a strobe with LFRM released, without acknowledge: R170 takes a strobe "still asserted" and R165 ignores one
with LFRM released, and the spec does not say which holds (DESIGN CHOICE, log entry 46). -/
def judgeWithheld (s : State) : State :=
  match s.link.withheld with
  | none => s
  | some data =>
    let s := s.modLink fun l => { l with withheld := none }
    if s.link.lfrm then writeStrobe data s else s

/-! ## SAMPLE NOW completes (R131) -/

/-- The SAMPLE NOW conversion completes: the reply is ready, and the scan resumes or the owed one starts (R131, R170). -/
def nowCompletion (channel gain : Nat) (raw : BitVec 10) (s : State) : State :=
  let s := s.modSense fun x => Sense.convert x
  judgeWithheld (done 38 0 (u8 channel ++ u8 gain ++ u16 (sampleOf raw gain)) s)

end Sys2Proof.Machine
end

