-- ==== Sys2Proof/Machine/CartridgeEvents.lean ====
section
/-! DEFINITION. Cartridge, button and lamp events (R2, R3, R7 to R9, R15, R17 to R19, R21). -/

namespace Sys2Proof.Machine

/-- PRES becomes true (R2). -/
def execPresRise (b : Bay) (s : State) : Host.Outcome State Fault Refusal :=
  let s := s.modPins b fun p => { p with pres := true }
  .next <|
    if (s.bay b).cart.state = .empty then
      changeCart b (fun c => { c with state := .seating, debounce := some Const.debounce }) s
    else s

/-- What a fall of PRES is to the cartridge state (R2, R17, R19). -/
def presenceFall (b : Bay) (s : State) : State :=
  match (s.bay b).cart.state with
  | .empty => s
  | .seating => changeCart b (fun c => { c with state := .empty, debounce := none }) s
  | .seated | .jammed => presenceLoss b s
  | .releasePending => if (s.bay b).cart.pulseCount = 0 then presenceLoss b s else cartridgeLeaves b s
  | .ejecting => cartridgeLeaves b s

/-- PRES becomes false (R2, R17, R19). -/
def execPresFall (b : Bay) (s : State) : Host.Outcome State Fault Refusal :=
  .next (settle (presenceFall b (s.modPins b fun p => { p with pres := false })))

/-- The cartridge is seated with a media record (R3, R4). -/
def seatCartridge (b : Bay) (m : Media) (s : State) : State :=
  latchEvent (.presence b)
    (changeCart b (fun c => { c with state := .seated, media := some m, pulseCount := 0, debounce := none }) s)

/-- The debounce timer expires (R3). -/
def execDebounceExpiry (b : Bay) (med1 med0 wprot : Bool) (s : State) : Host.Outcome State Fault Refusal :=
  .next <|
    if (s.bay b).cart.debounce.isSome && (s.bay b).cart.state = .seating then
      settle (seatCartridge b (mediaRecord med1 med0 wprot) s)
    else s

/-- BTN at a new level: the level timer runs while the level is not the debounced one; a press can begin only after BTN
has been seen false (R7; log entry 12). -/
def Cartridge.buttonLevel (level : Bool) (c : Cartridge) : Cartridge :=
  let seen := c.seenFalse || !level
  { c with seenFalse := seen, levelTimer := if level ≠ c.pressed && seen then some Const.buttonLevel else none }

/-- BTN changes (R7). -/
def execBtnChange (b : Bay) (level : Bool) (s : State) : Host.Outcome State Fault Refusal :=
  .next ((s.modPins b fun p => { p with btn := level }).modCart b (Cartridge.buttonLevel level))

/-- BTN has been stable for 50 ms: a press begins, or ends, as a short press if its timer still runs (R7, R8). -/
def buttonStable (b : Bay) (s : State) : State :=
  if (s.bay b).cart.pressed then
    let short := (s.bay b).cart.pressTimer.isSome
    let s := s.modCart b fun c => { c with levelTimer := none, pressed := false, pressTimer := none }
    if short then shortPress b s else s
  else s.modCart b fun c => { c with levelTimer := none, pressed := true, pressTimer := some Const.press }

/-- The 50 ms of a button level expire (R7, R8). -/
def execButtonLevelExpiry (b : Bay) (s : State) : Host.Outcome State Fault Refusal :=
  .next (if (s.bay b).cart.levelTimer.isSome then settle (buttonStable b s) else s)

/-- The press timer expires: a long press (R7, R9). -/
def execLongPress (b : Bay) (s : State) : Host.Outcome State Fault Refusal :=
  .next <|
    if (s.bay b).cart.pressTimer.isSome then settle (longPressAction b (s.modCart b fun c => { c with pressTimer := none }))
    else s

/-- The pulse timer expires (R15). -/
def execPulseTimerExpiry (b : Bay) (s : State) : Host.Outcome State Fault Refusal :=
  .next <|
    if (s.bay b).cart.pulseTimer.isSome && (s.bay b).cart.state = .ejecting && (s.bay b).cart.phase = some .pulse then
      settle (endPulse b s)
    else s

/-- The wait timer expires with the cartridge still in (R18). -/
def execWaitTimerExpiry (b : Bay) (s : State) : Host.Outcome State Fault Refusal :=
  .next <|
    if (s.bay b).cart.waitTimer.isSome && (s.bay b).cart.state = .ejecting && (s.bay b).cart.phase = some .wait then
      settle (waitOver b s)
    else s

/-- A flashing lamp toggles, every 250 ms (R21). -/
def execLampFlashToggle (b : Bay) (s : State) : Host.Outcome State Fault Refusal :=
  .next <|
    if (s.bay b).cart.flashTimer.isSome then s.modCart b fun c => { c with lamp := !c.lamp, flashTimer := some Const.flash }
    else s

end Sys2Proof.Machine
end

