-- ==== Sys2Proof/Machine/ControlRequests.lean ====
section
/-! DEFINITION. Bay control and configuration requests as commands: the end of a frame that carries one (R166, section 10.1). -/

namespace Sys2Proof.Machine

/-- HALT BAY (R156). -/
def execHaltBay (b : Bay) (s : State) : Host.Outcome State Fault Refusal :=
  .next (deliver (frameOf (.haltBay b)) (requestHaltBay b) s)

/-- RUN BAY (R157). -/
def execRunBay (b : Bay) (s : State) : Host.Outcome State Fault Refusal :=
  .next (deliver (frameOf (.runBay b)) (requestRunBay b) s)

/-- SET STEP MODE (R158). -/
def execSetStepMode (b : Bay) (on : Bool) (s : State) : Host.Outcome State Fault Refusal :=
  .next (deliver (frameOf (.setStepMode b on)) (requestSetStepMode b on) s)

/-- ABORT BAY (R159). -/
def execAbortBay (b : Bay) (s : State) : Host.Outcome State Fault Refusal :=
  .next (deliver (frameOf (.abortBay b)) (requestAbortBay b) s)

/-- BAY RESET (R160). -/
def execBayReset (b : Bay) (s : State) : Host.Outcome State Fault Refusal :=
  .next (deliver (frameOf (.bayReset b)) (requestBayReset b) s)

/-- SET PREVENT (R6). -/
def execSetPrevent (b : Bay) (on : Bool) (s : State) : Host.Outcome State Fault Refusal :=
  .next (deliver (frameOf (.setPrevent b on)) (requestSetPrevent b on) s)

/-- SET TRIM (R27). -/
def execSetTrim (b : Bay) (trim : Byte) (s : State) : Host.Outcome State Fault Refusal :=
  .next (deliver (frameOf (.setTrim b trim)) (requestSetTrim b trim) s)

/-- SET GAINS (R86, R116, R117). -/
def execSetGains (b : Bay) (kv kp kd limit : BitVec 16) (s : State) : Host.Outcome State Fault Refusal :=
  .next (deliver (frameOf (.setGains b kv kp kd limit)) (requestSetGains b kv kp kd limit) s)

/-- SET BUDGET (R58). -/
def execSetBudget (capacity : BitVec 16) (s : State) : Host.Outcome State Fault Refusal :=
  .next (deliver (frameOf (.setBudget capacity)) (requestSetBudget capacity) s)

/-- WRITE PROFILE (R84). -/
def execWriteProfile (demands : List (BitVec 16)) (s : State) : Host.Outcome State Fault Refusal :=
  .next (deliver (frameOf (.writeProfile demands)) (requestWriteProfile demands) s)

/-- READ PROFILE (R85). -/
def execReadProfile (a : Addr) (s : State) : Host.Outcome State Fault Refusal :=
  .next (deliver (frameOf (.readProfile a)) (requestReadProfile a) s)

end Sys2Proof.Machine
end

