-- ==== Sys2Proof/Machine/GateEvents.lean ====
section
/-! DEFINITION. Write gate events (R120, R121). -/

namespace Sys2Proof.Machine

/-- WGATE rises: without permit it is a blocked gate (R120, R121). -/
def gateRises (b : Bay) (s : State) : State :=
  if (s.bay b).gate.wperm then s
  else
    countBay b (fun c => { c with blockedGates := count c.blockedGates }) (s.modGate b fun g => { g with held := true })

/-- WGATE rises (R120, R121). -/
def execWgateRise (b : Bay) (s : State) : Host.Outcome State Fault Refusal :=
  .next (judgeGate b (gateRises b (s.modPins b fun p => { p with wgate := true })))

/-- WGATE falls: the gate-held mark is cleared, and permit may return (R120, R121). -/
def execWgateFall (b : Bay) (s : State) : Host.Outcome State Fault Refusal :=
  .next (judgeGate b ((s.modPins b fun p => { p with wgate := false }).modGate b fun g => { g with held := false }))

end Sys2Proof.Machine
end

