-- ==== Sys2Proof/Machine/LinkEvents.lean ====
section
/-! DEFINITION. Link events: strobes, the ends of frames, the reset line (R165 to R172). -/

namespace Sys2Proof.Machine

/-- The end of a frame with these bytes that fails a link check (R166); no byte makes no frame. -/
def execFrameRefused (bytes : List Byte) (s : State) : Host.Outcome State Fault Refusal :=
  .next (if bytes = [] then lfrmReleased s else deliver bytes (refusedFrame bytes) s)

/-- An assertion of LSTB (R165). -/
def execLinkStrobe (ldir lfrm : Bool) (data : Byte) (s : State) : Host.Outcome State Fault Refusal :=
  .next (strobe ldir lfrm data s)

/-- LSTB is negated (R165, R170). -/
def execStrobeNegated (s : State) : Host.Outcome State Fault Refusal :=
  .next (strobeEnd s)

/-- A fall of RESET_N: the part reset, and the link inactive while the line stays low (R171). -/
def execResetNFall (s : State) : Host.Outcome State Fault Refusal :=
  .next ((partReset s).modLink fun l => { l with resetN := false, lockout := false })

/-- A rise of RESET_N: the link takes strobes again, locked out if LFRM is asserted (R171). Without a line that was low
there is no rise. -/
def execResetNRise (lfrm : Bool) (s : State) : Host.Outcome State Fault Refusal :=
  .next <|
    if s.link.resetN then s
    else refreshAttn (s.modLink fun l => { l with resetN := true, lfrm := lfrm, lockout := lfrm })

/-- The reset at power-on is the same as a fall of RESET_N (R171; log entry 35). -/
def execPowerOn (s : State) : Host.Outcome State Fault Refusal :=
  .next ((partReset s).modLink fun l => { l with resetN := false, lockout := false })

/-- The release of LFRM (R166). -/
def execLfrmRelease (s : State) : Host.Outcome State Fault Refusal :=
  .next (lfrmReleased s)

end Sys2Proof.Machine
end

