-- ==== Sys2Proof/Machine/OperationRequests.lean ====
section
/-! DEFINITION. The eight operation requests as commands: the end of a frame that carries one (R146, R166, R180). -/

namespace Sys2Proof.Machine

/-- SPIN UP (R146, R30): judged, and queued with a tag or refused; the scheduler may take it at once. -/
def execSpinUp (b : Bay) (s : State) : Host.Outcome State Fault Refusal :=
  .next (deliver (frameOf (.spinUp b)) (requestOp b .spinUp) s)

/-- SPIN DOWN (R146, R42): judged, and queued with a tag or refused; the scheduler may take it at once. -/
def execSpinDown (b : Bay) (s : State) : Host.Outcome State Fault Refusal :=
  .next (deliver (frameOf (.spinDown b)) (requestOp b .spinDown) s)

/-- LOAD HEADS (R146, R93): judged, and queued with a tag or refused; the scheduler may take it at once. -/
def execLoadHeads (b : Bay) (s : State) : Host.Outcome State Fault Refusal :=
  .next (deliver (frameOf (.loadHeads b)) (requestOp b .loadHeads) s)

/-- UNLOAD HEADS (R146, R105): judged, and queued with a tag or refused; the scheduler may take it at once. -/
def execUnloadHeads (b : Bay) (s : State) : Host.Outcome State Fault Refusal :=
  .next (deliver (frameOf (.unloadHeads b)) (requestOp b .unloadHeads) s)

/-- OPEN WRITE (R146, R118): judged, and queued with a tag or refused; the scheduler may take it at once. -/
def execOpenWrite (b : Bay) (s : State) : Host.Outcome State Fault Refusal :=
  .next (deliver (frameOf (.openWrite b)) (requestOp b .openWrite) s)

/-- CLOSE WRITE (R146, R118): judged, and queued with a tag or refused; the scheduler may take it at once. -/
def execCloseWrite (b : Bay) (s : State) : Host.Outcome State Fault Refusal :=
  .next (deliver (frameOf (.closeWrite b)) (requestOp b .closeWrite) s)

/-- EJECT (R146, R10, R18): judged, and queued with a tag or refused; the scheduler may take it at once. -/
def execEject (b : Bay) (s : State) : Host.Outcome State Fault Refusal :=
  .next (deliver (frameOf (.eject b)) (requestOp b .eject) s)

/-- SEEK (R146, R97): judged against the media record, and queued with a tag or refused. -/
def execSeek (b : Bay) (track : BitVec 16) (head : Byte) (s : State) : Host.Outcome State Fault Refusal :=
  .next (deliver (frameOf (.seek b track head)) (requestOp b (.seek track.toNat head.toNat)) s)

end Sys2Proof.Machine
end

