-- ==== Sys2Proof/Machine/PositionerEvents.lean ====
section
/-! DEFINITION. Positioner events: its timers and the PARK switch (R94, R95, R100, R104, R107). -/

namespace Sys2Proof.Machine

/-- The load wait timer expires: without a qualified reserve the load fails (R94). With one the wait goes on, also where the
30 are held and only the spindle's return to LOCKED is missing (DESIGN CHOICE, log entry 43). -/
def loadWaitOver (b : Bay) (s : State) : State :=
  let s := s.modPos b fun p => { p with loadWait := none }
  if (s.bay b).mon.qualified then s else failLoadWait b .reserveLow s

/-- The load wait timer expires (R94). -/
def execLoadWaitTimerExpiry (b : Bay) (s : State) : Host.Outcome State Fault Refusal :=
  .next (if (s.bay b).pos.loadWait.isSome && loadWaiting b s then settle (loadWaitOver b s) else s)

/-- The load timer expires in LOADING: LOAD_TIMEOUT, and the heads are unloaded (R95). -/
def execLoadTimerExpiry (b : Bay) (s : State) : Host.Outcome State Fault Refusal :=
  .next <|
    if (s.bay b).pos.loadTimer.isSome && (s.bay b).pos.state = .loading then
      settle (faultAndUnload b .loadTimeout (s.modPos b fun p => { p with loadTimer := none }))
    else s

/-- A seek is under way: SEEKING or SETTLING (R98, R99). -/
def seekRunning (b : Bay) (s : State) : Bool := (s.bay b).pos.state = .seeking || (s.bay b).pos.state = .settling

/-- The seek timer expires: settle on the nearest track, and the SEEK fails (R100). -/
def seekTimedOut (b : Bay) (s : State) : State :=
  let owner := (s.bay b).pos.owner
  let s := countBay b (fun c => { c with seekTimeouts := count c.seekTimeouts }) s
  let s := (setTarget b (nearestTrack b s) s).modPos b fun p =>
    { p with state := .settling, settle := 0, seekTimer := none, owner := .none }
  if owner = .operation then completeIf b OpKind.isSeek (.failed .seekTimeout) s else s

/-- The seek timer expires (R100). -/
def execSeekTimerExpiry (b : Bay) (s : State) : Host.Outcome State Fault Refusal :=
  .next (if (s.bay b).pos.seekTimer.isSome && seekRunning b s then settle (seekTimedOut b s) else s)

/-- The unload timer expires with PARK false: UNLOAD_TIMEOUT, FAULT (R104). -/
def execUnloadTimerExpiry (b : Bay) (s : State) : Host.Outcome State Fault Refusal :=
  .next <|
    if (s.bay b).pos.unloadTimer.isSome && (s.bay b).pos.state = .unloading then
      settle (enterPosFault b (raiseFatal b .unloadTimeout s))
    else s

/-- The retract timer expires with PARK false: RETRACT_FAIL, FAULT (R107). -/
def execRetractTimerExpiry (b : Bay) (s : State) : Host.Outcome State Fault Refusal :=
  .next <|
    if (s.bay b).pos.retractTimer.isSome && (s.bay b).pos.state = .retracting then
      settle (enterPosFault b (raiseFatal b .retractFail s))
    else s

/-- PARK is true: the unload or the retract ends (R104, R107). -/
def parkReached (b : Bay) (s : State) : State :=
  match (s.bay b).pos.state with
  | .unloading | .retracting => enterParked b s
  | .parked | .loading | .acquiring | .following | .seeking | .settling | .fault => s

/-- PARK becomes true (R104, R107). -/
def execParkRise (b : Bay) (s : State) : Host.Outcome State Fault Refusal :=
  .next (settle (parkReached b (s.modPins b fun p => { p with park := true })))

/-- PARK is false: a PARKED positioner retracts itself; a load wait it finds fails NOT_READY (R107). -/
def parkLost (b : Bay) (s : State) : State :=
  if (s.bay b).pos.state = .parked then enterRetracting b (failLoadWait b .notReady s) else s

/-- PARK becomes false (R107). -/
def execParkFall (b : Bay) (s : State) : Host.Outcome State Fault Refusal :=
  .next (settle (parkLost b (s.modPins b fun p => { p with park := false })))

end Sys2Proof.Machine
end

