-- ==== Sys2Proof/Machine/ReportRequests.lean ====
section
/-! DEFINITION. Reporting and reset requests as commands: the end of a frame that carries one (R166, section 10.1). -/

namespace Sys2Proof.Machine

/-- IDENTIFY (R193). -/
def execIdentify (s : State) : Host.Outcome State Fault Refusal :=
  .next (deliver (frameOf (.identify)) (requestIdentify) s)

/-- READ STATUS (R194, R195). -/
def execReadStatus (a : Addr) (s : State) : Host.Outcome State Fault Refusal :=
  .next (deliver (frameOf (.readStatus a)) (requestReadStatus a) s)

/-- READ EVENTS (R189). -/
def execReadEvents (s : State) : Host.Outcome State Fault Refusal :=
  .next (deliver (frameOf (.readEvents)) (requestReadEvents) s)

/-- CLEAR EVENTS (R190). -/
def execClearEvents (classes : BitVec 16) (s : State) : Host.Outcome State Fault Refusal :=
  .next (deliver (frameOf (.clearEvents classes)) (requestClearEvents classes) s)

/-- SET EVENT MASK (R188). -/
def execSetEventMask (classes : BitVec 16) (s : State) : Host.Outcome State Fault Refusal :=
  .next (deliver (frameOf (.setEventMask classes)) (requestSetEventMask classes) s)

/-- READ COUNTERS (R192). -/
def execReadCounters (s : State) : Host.Outcome State Fault Refusal :=
  .next (deliver (frameOf (.readCounters)) (requestReadCounters) s)

/-- READ REFUSALS (R185). -/
def execReadRefusals (s : State) : Host.Outcome State Fault Refusal :=
  .next (deliver (frameOf (.readRefusals)) (requestReadRefusals) s)

/-- READ COMPLETIONS (R162). -/
def execReadCompletions (s : State) : Host.Outcome State Fault Refusal :=
  .next (deliver (frameOf (.readCompletions)) (requestReadCompletions) s)

/-- RESET PART (R172). -/
def execResetPart (s : State) : Host.Outcome State Fault Refusal :=
  .next (deliver (frameOf (.resetPart)) (requestResetPart) s)

end Sys2Proof.Machine
end

