-- ==== Sys2Proof/Machine/SenseEvents.lean ====
section
/-! DEFINITION. Sense events: the scan timer and the converter (R125, R126, R131). -/

namespace Sys2Proof.Machine

/-- The scan timer is started again, and a scan starts, or is owed to the end of the one in progress (R125). -/
def scanDueNow (s : State) : State :=
  let s := s.modSense fun x => { x with scanTimer := some (1000 * x.interval) }
  if s.sense.scan.isSome then s.modSense fun x => { x with scanDue := true } else beginScan s

/-- The scan timer expires (R125). -/
def execScanTimerExpiry (s : State) : Host.Outcome State Fault Refusal :=
  .next (if s.sense.scanTimer.isSome then scanDueNow s else s)

/-- The list conversion in progress completes (R126). -/
def execConversionCompletion (raw : BitVec 10) (s : State) : Host.Outcome State Fault Refusal :=
  .next <|
    match s.sense.conv with
    | .list position => settle (listCompletion position raw s)
    | .idle | .now _ _ => s

/-- The SAMPLE NOW conversion completes (R131). -/
def execSampleNowCompletion (raw : BitVec 10) (s : State) : Host.Outcome State Fault Refusal :=
  .next <|
    match s.sense.conv with
    | .now channel gain => nowCompletion channel gain raw s
    | .idle | .list _ => s

end Sys2Proof.Machine
end

