-- ==== Sys2Proof/Machine/SensingRequests.lean ====
section
/-! DEFINITION. Sensing requests as commands: the end of a frame that carries one (R166, section 10.1). -/

namespace Sys2Proof.Machine

/-- WRITE SENSE LIST (R129). -/
def execWriteSenseList (entries : List SenseItem) (s : State) : Host.Outcome State Fault Refusal :=
  .next (deliver (frameOf (.writeSenseList entries)) (requestWriteSenseList entries) s)

/-- READ SENSE LIST (R130). -/
def execReadSenseList (s : State) : Host.Outcome State Fault Refusal :=
  .next (deliver (frameOf (.readSenseList)) (requestReadSenseList) s)

/-- RESUME SENSE (R128). -/
def execResumeSense (s : State) : Host.Outcome State Fault Refusal :=
  .next (deliver (frameOf (.resumeSense)) (requestResumeSense) s)

/-- SAMPLE NOW (R131). -/
def execSampleNow (channel gain : Byte) (s : State) : Host.Outcome State Fault Refusal :=
  .next (deliver (frameOf (.sampleNow channel gain)) (requestSampleNow channel gain) s)

/-- READ SAMPLES (R134). -/
def execReadSamples (selector first : Byte) (s : State) : Host.Outcome State Fault Refusal :=
  .next (deliver (frameOf (.readSamples selector first)) (requestReadSamples selector first) s)

/-- SET SAMPLE MODE (R135). -/
def execSetSampleMode (mode interval : Byte) (s : State) : Host.Outcome State Fault Refusal :=
  .next (deliver (frameOf (.setSampleMode mode interval)) (requestSetSampleMode mode interval) s)

/-- SET LIMITS (R141). -/
def execSetLimits (fail logicFail sag recover reserveLow reserveOk overcurrent : BitVec 16) (s : State) :
    Host.Outcome State Fault Refusal :=
  .next (deliver (frameOf (.setLimits fail logicFail sag recover reserveLow reserveOk overcurrent))
    (requestSetLimits ⟨limitTaken fail, limitTaken logicFail, limitTaken sag, limitTaken recover, limitTaken reserveLow,
      limitTaken reserveOk, limitTaken overcurrent⟩) s)

end Sys2Proof.Machine
end

