-- ==== Sys2Proof/Machine/ServoEvents.lean ====
section
/-! DEFINITION. Servo events: the end of a wedge window, the completion of a computation (R64 to R71, R82). -/

namespace Sys2Proof.Machine

/-- The wedge window of a bay ends: in a reporting state its report goes to the SAU (R64, R65). -/
def windowEnds (b : Bay) (n : Nat) (track : Option Nat) (burstA burstB : Nat) (s : State) : State :=
  let s := s.modDemod b fun d => { d with window := nextWindow n }
  if (s.bay b).pos.state.loaded then
    reportArrives b { number := n, track := track, burstA := burstA, burstB := burstB } s
  else s

/-- The open wedge window ends (R64, R65); without an open window nothing ends (log entry 23). -/
def execWedgeWindowEnd (b : Bay) (code : BitVec 10) (parityOk : Bool) (ampA ampB : Nat) (s : State) : Host.Outcome State Fault Refusal :=
  .next <|
    match (s.bay b).demod.window with
    | some n => windowEnds b n (if parityOk then some (grayValue code) else none) (amplitude ampA) (amplitude ampB) s
    | none => s

/-- The computation in progress completes: applied or not, the SAU then chooses its next (R70, R71, R82). -/
def execSauCompletion (s : State) : Host.Outcome State Fault Refusal :=
  .next <|
    match s.sau with
    | some c => settle (chooseNext c.bay (if applied c s then applyCompletion c s else s))
    | none => s

end Sys2Proof.Machine
end

