-- ==== Sys2Proof/Machine/SpindleEvents.lean ====
section
/-! DEFINITION. Spindle events (R26, R32 to R36, R39, R40). -/

namespace Sys2Proof.Machine

/-- A TACH pulse at the Spindle Controller: the revolution is measured and judged, the tach timer restarts (R26). -/
def pulse (b : Bay) (elapsed : Nat) (s : State) : State :=
  let m := measured (s.bay b).spin.tachRef elapsed
  let s := s.modSpin b fun x => { x with lastPeriod := m, tachRef := true, tachTimer := some Const.tach }
  match m with
  | some period => judgeRevolution b period s
  | none => s

/-- A TACH pulse (R26), which also begins a revolution of wedge windows (R64). -/
def execTachPulse (b : Bay) (elapsed : Nat) (s : State) : Host.Outcome State Fault Refusal :=
  .next (settle (beginWindows b (pulse b elapsed s)))

/-- No pulse for 500 ms: the reference goes; the stop of a braking platter, or a revolution outside the window (R26). -/
def tachExpired (b : Bay) (s : State) : State :=
  let s := s.modSpin b fun x => { x with tachRef := false, lastPeriod := none, tachTimer := none }
  match (s.bay b).spin.state with
  | .braking => platterStop b s
  | .locking | .locked | .unlocked => missedRevolution b s
  | .stopped | .waitPower | .aligning | .ramping | .fault => s

/-- The tach timer expires (R26). -/
def execTachTimerExpiry (b : Bay) (s : State) : Host.Outcome State Fault Refusal :=
  .next (if (s.bay b).spin.tachTimer.isSome then settle (tachExpired b s) else s)

/-- Entry to RAMPING (R33). -/
def enterRamping (b : Bay) (s : State) : State :=
  spindleChanged b <| s.modSpin b fun x =>
    Spindle.driven Const.spinUpUnits { x with state := .ramping, stageTimer := some Const.stageRamp }

/-- The stage timer expires: ALIGNING is over, or the attempt has failed (R32, R33, R34, R40). -/
def stageOver (b : Bay) (s : State) : State :=
  match (s.bay b).spin.state with
  | .aligning => enterRamping b s
  | .ramping | .locking => failAttempt b s
  | .stopped | .waitPower | .locked | .unlocked | .braking | .fault => s

/-- The stage timer expires (R32, R40). -/
def execStageTimerExpiry (b : Bay) (s : State) : Host.Outcome State Fault Refusal :=
  .next (if (s.bay b).spin.stageTimer.isSome then settle (stageOver b s) else s)

/-- The brake limit timer expires while BRAKING: FAULT, BRAKE_TIMEOUT (R39). -/
def execBrakeLimitExpiry (b : Bay) (s : State) : Host.Outcome State Fault Refusal :=
  .next <|
    if (s.bay b).spin.brakeLimit.isSome && (s.bay b).spin.state = .braking then
      settle (raiseFatal b .brakeTimeout (enterSpinFault b s))
    else s

/-- The speed-lost timer expires: SPEED_LOST, and the heads are unloaded (R36). -/
def execSpeedLostTimerExpiry (b : Bay) (s : State) : Host.Outcome State Fault Refusal :=
  .next <|
    if (s.bay b).spin.speedLost.isSome then
      settle (faultAndUnload b .speedLost (s.modSpin b fun x => { x with speedLost := none }))
    else s

end Sys2Proof.Machine
end

