-- ==== Sys2Proof/Machine/Dispatch.lean ====
section
/-! DEFINITION. What each command does: one arm per row of spec/opcode_table.json. -/

namespace Sys2Proof.Machine

def exec (i : Instr) (s : State) : Host.Outcome State Fault Refusal :=
  match i with
  | .spinUp b => Sys2Proof.Machine.execSpinUp b s
  | .spinDown b => Sys2Proof.Machine.execSpinDown b s
  | .loadHeads b => Sys2Proof.Machine.execLoadHeads b s
  | .unloadHeads b => Sys2Proof.Machine.execUnloadHeads b s
  | .seek b track head => Sys2Proof.Machine.execSeek b track head s
  | .openWrite b => Sys2Proof.Machine.execOpenWrite b s
  | .closeWrite b => Sys2Proof.Machine.execCloseWrite b s
  | .eject b => Sys2Proof.Machine.execEject b s
  | .haltBay b => Sys2Proof.Machine.execHaltBay b s
  | .runBay b => Sys2Proof.Machine.execRunBay b s
  | .setStepMode b on => Sys2Proof.Machine.execSetStepMode b on s
  | .abortBay b => Sys2Proof.Machine.execAbortBay b s
  | .bayReset b => Sys2Proof.Machine.execBayReset b s
  | .setPrevent b on => Sys2Proof.Machine.execSetPrevent b on s
  | .setTrim b trim => Sys2Proof.Machine.execSetTrim b trim s
  | .setGains b kv kp kd limit => Sys2Proof.Machine.execSetGains b kv kp kd limit s
  | .setBudget capacity => Sys2Proof.Machine.execSetBudget capacity s
  | .writeProfile demands => Sys2Proof.Machine.execWriteProfile demands s
  | .readProfile a => Sys2Proof.Machine.execReadProfile a s
  | .writeSenseList entries => Sys2Proof.Machine.execWriteSenseList entries s
  | .readSenseList => Sys2Proof.Machine.execReadSenseList s
  | .resumeSense => Sys2Proof.Machine.execResumeSense s
  | .sampleNow channel gain => Sys2Proof.Machine.execSampleNow channel gain s
  | .readSamples selector first => Sys2Proof.Machine.execReadSamples selector first s
  | .setSampleMode mode interval => Sys2Proof.Machine.execSetSampleMode mode interval s
  | .setLimits fail logicFail sag recover reserveLow reserveOk overcurrent => Sys2Proof.Machine.execSetLimits fail logicFail sag recover reserveLow reserveOk overcurrent s
  | .identify => Sys2Proof.Machine.execIdentify s
  | .readStatus a => Sys2Proof.Machine.execReadStatus a s
  | .readEvents => Sys2Proof.Machine.execReadEvents s
  | .clearEvents classes => Sys2Proof.Machine.execClearEvents classes s
  | .setEventMask classes => Sys2Proof.Machine.execSetEventMask classes s
  | .readCounters => Sys2Proof.Machine.execReadCounters s
  | .readRefusals => Sys2Proof.Machine.execReadRefusals s
  | .readCompletions => Sys2Proof.Machine.execReadCompletions s
  | .resetPart => Sys2Proof.Machine.execResetPart s
  | .frameRefused bytes => Sys2Proof.Machine.execFrameRefused bytes s
  | .linkStrobe ldir lfrm data => Sys2Proof.Machine.execLinkStrobe ldir lfrm data s
  | .strobeNegated => Sys2Proof.Machine.execStrobeNegated s
  | .resetNFall => Sys2Proof.Machine.execResetNFall s
  | .resetNRise lfrm => Sys2Proof.Machine.execResetNRise lfrm s
  | .powerOn => Sys2Proof.Machine.execPowerOn s
  | .presRise b => Sys2Proof.Machine.execPresRise b s
  | .presFall b => Sys2Proof.Machine.execPresFall b s
  | .debounceExpiry b med1 med0 wprot => Sys2Proof.Machine.execDebounceExpiry b med1 med0 wprot s
  | .btnChange b level => Sys2Proof.Machine.execBtnChange b level s
  | .buttonLevelExpiry b => Sys2Proof.Machine.execButtonLevelExpiry b s
  | .longPress b => Sys2Proof.Machine.execLongPress b s
  | .pulseTimerExpiry b => Sys2Proof.Machine.execPulseTimerExpiry b s
  | .waitTimerExpiry b => Sys2Proof.Machine.execWaitTimerExpiry b s
  | .lampFlashToggle b => Sys2Proof.Machine.execLampFlashToggle b s
  | .tachPulse b elapsed => Sys2Proof.Machine.execTachPulse b elapsed s
  | .tachTimerExpiry b => Sys2Proof.Machine.execTachTimerExpiry b s
  | .stageTimerExpiry b => Sys2Proof.Machine.execStageTimerExpiry b s
  | .brakeLimitExpiry b => Sys2Proof.Machine.execBrakeLimitExpiry b s
  | .speedLostTimerExpiry b => Sys2Proof.Machine.execSpeedLostTimerExpiry b s
  | .wedgeWindowEnd b code parityOk ampA ampB => Sys2Proof.Machine.execWedgeWindowEnd b code parityOk ampA ampB s
  | .sauCompletion => Sys2Proof.Machine.execSauCompletion s
  | .loadWaitTimerExpiry b => Sys2Proof.Machine.execLoadWaitTimerExpiry b s
  | .loadTimerExpiry b => Sys2Proof.Machine.execLoadTimerExpiry b s
  | .seekTimerExpiry b => Sys2Proof.Machine.execSeekTimerExpiry b s
  | .unloadTimerExpiry b => Sys2Proof.Machine.execUnloadTimerExpiry b s
  | .retractTimerExpiry b => Sys2Proof.Machine.execRetractTimerExpiry b s
  | .parkRise b => Sys2Proof.Machine.execParkRise b s
  | .parkFall b => Sys2Proof.Machine.execParkFall b s
  | .wgateRise b => Sys2Proof.Machine.execWgateRise b s
  | .wgateFall b => Sys2Proof.Machine.execWgateFall b s
  | .scanTimerExpiry => Sys2Proof.Machine.execScanTimerExpiry s
  | .conversionCompletion raw => Sys2Proof.Machine.execConversionCompletion raw s
  | .sampleNowCompletion raw => Sys2Proof.Machine.execSampleNowCompletion raw s
  | .lfrmRelease => Sys2Proof.Machine.execLfrmRelease s

end Sys2Proof.Machine
end

