-- ==== Sys2Proof/Safety.lean ====
section
/-! DEFINITION. What counts as a safe state: the laws the spec gives over every step, each in the terms the statements use. -/

namespace Sys2Proof.Machine

/-- The ledger is sound: the sum of the reservations does not exceed C (R50), and E is what C and the supply state give
(R59, R60). -/
def LedgerSound (s : State) : Prop :=
  s.ledger.sum ≤ s.ledger.capacity ∧ s.ledger.effective = effectiveOf s.ledger.capacity s.supply.state

/-- The stores are bounded: at most 8 completion records, at most 96 history records, every stored value in 0..1023
(R132). -/
def StoresBounded (s : State) : Prop :=
  s.completions.length ≤ Const.completionSize ∧ s.store.ring.length ≤ Const.historySize ∧
    (∀ r ∈ s.store.ring, r.value ≤ 1023) ∧ ∀ x ∈ s.store.image, x.value ≤ 1023

/-- ATTN is asserted exactly when a class is both pending and enabled (R187), and RESET_N is not low (R173). -/
def AttnExact (s : State) : Prop := s.link.attn = attnDue s

/-- A bay scheduler in HALTED holds no in-flight operation (R155). -/
def HaltedIdle (s : State) : Prop := ∀ b, (s.bay b).sched.state = .halted → (s.bay b).sched.inflight = none

/-- The heads of a bay are under rail power only over a regulated platter (R90). -/
def HeadsRegulated (s : State) : Prop :=
  ∀ b, (s.bay b).pos.state.defersBrake = true → (s.bay b).spin.state.regulated = true

/-- Whether SBRK is on in a spindle state (R25). -/
def SpinState.brakes : SpinState → Bool
  | .braking | .fault => true
  | .stopped | .waitPower | .aligning | .ramping | .locking | .locked | .unlocked => false

/-- SBRK, the phase drives and the drive code of each bay follow the spindle state; with drive code 0 the phase drives are off
(R25). -/
def SpindleOutputs (s : State) : Prop :=
  ∀ b, (s.bay b).spin.sbrk = (s.bay b).spin.state.brakes ∧ (s.bay b).spin.phases = (s.bay b).spin.state.phasesAt (s.bay b).spin.drive ∧
    ((s.bay b).spin.state.phases = .off → (s.bay b).spin.drive = 0)

/-- At most one entry of the wait list per consumer (R48). -/
def WaitDistinct (s : State) : Prop := (s.ledger.wait.map WaitEntry.who).Nodup

/-- LATCH is energised only with the mechanisms at rest and 120 units held (R16), in the pulse of EJECTING (R15), when the
request it served no longer waits. -/
def LatchSafe (s : State) : Prop :=
  ∀ b, (s.bay b).cart.latch = true →
    atRest b s = true ∧ s.hold (.latch b) = Const.latchUnits ∧ (s.bay b).cart.state = .ejecting ∧
      (s.bay b).cart.phase = some .pulse ∧ s.ledger.waits (.latch b) = false

/-- WPERM is asserted exactly while every condition of the permit holds (R115). -/
def PermitExact (s : State) : Prop := ∀ b, (s.bay b).gate.wperm = permitDue (s.bay b) s.supply.state

/-- The pool is within its bounds (R144). -/
def PoolBounded (s : State) : Prop :=
  slotsHeld s.bayA.sched + slotsHeld s.bayB.sched ≤ Const.poolSize ∧ ∀ b, slotsHeld (s.bay b).sched ≤ 12

/-- The operation records that occupy slots, both bays. -/
def acceptedOps (s : State) : List Op :=
  s.bayA.sched.inflight.toList ++ s.bayA.sched.queue ++ s.bayB.sched.inflight.toList ++ s.bayB.sched.queue

/-- The tags of the occupied slots are all different, and the tag counter holds one that no occupied slot holds (R145). -/
def TagsDistinct (s : State) : Prop :=
  ((acceptedOps s).map Op.tag).Nodup ∧ s.nextTag ∉ (acceptedOps s).map Op.tag

/-- The operations that occupy slots, each with its bay (R148). -/
def heldOps (s : State) : List (Bay × Op) :=
  (s.bayA.sched.inflight.toList ++ s.bayA.sched.queue).map (Prod.mk Bay.A) ++
    (s.bayB.sched.inflight.toList ++ s.bayB.sched.queue).map (Prod.mk Bay.B)

/-- The command may perform a part reset, which discards every operation without a record (R148, R171, R172): power-on, a fall of
RESET_N, a strobe or a frame while the reply of RESET PART stands. -/
def ResetsPart (c : Instr) (s : State) : Prop :=
  c = .powerOn ∨ c = .resetNFall ∨
    s.link.phase = .holding ∧ s.link.resetOnRead = true ∧ (frameOf c ≠ [] ∨ ∃ ldir lfrm data, c = .linkStrobe ldir lfrm data)

/-- A bay being released has an empty queue and a closed window (R13). -/
def ReleaseQuiet (s : State) : Prop :=
  ∀ b, (s.bay b).cart.state = .releasePending ∨ (s.bay b).cart.state = .ejecting →
    (s.bay b).sched.queue = [] ∧ (s.bay b).gate.window = false

/-- Whether a spindle under an active overcurrent may be in this state with this brake purpose: it is stopped, faulted, or
braking towards neither a retry nor a power request (R30, R38, R41). -/
def offUnderOvercurrent (x : Spindle) : Bool :=
  match x.state with
  | .stopped | .fault => true
  | .braking => x.purpose ≠ some .retry
  | .waitPower | .aligning | .ramping | .locking | .locked | .unlocked => false

/-- The drive code is zero while the overcurrent state is active (R41), because the spindle is not being driven. -/
def OvercurrentOff (s : State) : Prop :=
  ∀ b, (s.bay b).mon.overcurrent = true → (s.bay b).spin.drive = 0 ∧ offUnderOvercurrent (s.bay b).spin = true

/-- The actuators are sound: ACT drawn from the rail stays within the holding (R81); with the heads under rail power the holding is at
least 30 (R81, R95), in UNLOADING ACT is -25, in RETRACTING -60 from the reserve, in PARKED and FAULT 0 from nothing (R104, R107); and
an actuator waits for its fixed 30 or its ranged 60 to 100 alone (R49), none with the heads on their way to the ramp or in FAULT. -/
def ActuatorsSound (s : State) : Prop :=
  ∀ b, ((s.bay b).pos.source = .rail → (s.bay b).pos.act.natAbs ≤ s.hold (.actuator b)) ∧
    (match (s.bay b).pos.state with
    | .parked | .fault => (s.bay b).pos.act = 0 ∧ (s.bay b).pos.source = .none
    | .retracting => (s.bay b).pos.act = -60 ∧ (s.bay b).pos.source = .reserve
    | .unloading => (s.bay b).pos.act = -25 ∧ (s.bay b).pos.source = .rail ∧ 30 ≤ s.hold (.actuator b)
    | .loading | .acquiring | .following | .seeking | .settling =>
      (s.bay b).pos.source = .rail ∧ 30 ≤ s.hold (.actuator b)) ∧
    ∀ e ∈ s.ledger.wait, e.who = .actuator b →
      (e.req = .fixed 30 ∨ e.req = .ranged 60 100) ∧ ((s.bay b).pos.state = .parked ∨ (s.bay b).pos.state.loaded = true)

/-- The lamp is in the mode that the cartridge and the scheduler give (R21). -/
def LampExact (s : State) : Prop := ∀ b, (s.bay b).cart.lampMode = lampModeOf (s.bay b).cart (s.bay b).sched

/-- No taking is due: a scheduler that is RUNNING with nothing in flight has an empty queue (R149). -/
def TakingsDone (s : State) : Prop := ∀ b, mayTake (s.bay b).sched = true → (s.bay b).sched.queue = []

/-- LRDY is asserted exactly in HOLDING, and the buffer holds at most 64 bytes (R164, R168). -/
def LinkSound (s : State) : Prop :=
  (s.link.lrdy = true ↔ s.link.phase = .holding) ∧ s.link.buffer.length ≤ Const.frameSize

/-- A state at the end of an event: every output and every taking that is worked out at the event has been (R21, R117, R149,
R187). -/
def Settled (s : State) : Prop := AttnExact s ∧ LampExact s ∧ PermitExact s ∧ TakingsDone s

/-! ## The terms of the statements -/

/-- The command completes, and its next state is one of these. -/
def After (o : Host.Outcome State Fault Refusal) (P : State → Prop) : Prop := ∃ t, o = .next t ∧ P t

/-- Commands taken one after another. -/
def runAll : List Instr → State → Host.Outcome State Fault Refusal
  | [], s => .next s
  | c :: cs, s =>
    match exec c s with
    | .next t => runAll cs t
    | o => o

/-- The strobes that carry these bytes, each with its negation (R165). -/
def strobesOf (bytes : List Byte) : List Instr := bytes.flatMap fun x => [.linkStrobe false true x, .strobeNegated]

/-- The link can take the whole frame with these bytes: RESET_N is high, no reply is being prepared, no lockout stands, no part
reset waits for the next frame, and what the buffer holds of a frame begun is the beginning of this one (R165, R170 to R172). -/
def LinkTakes (frame : List Byte) (s : State) : Prop :=
  s.link.resetN = true ∧ s.link.phase ≠ .preparing ∧ s.link.lockout = false ∧
    ¬(s.link.phase = .holding ∧ s.link.resetOnRead = true) ∧
    (s.link.phase = .receiving → s.link.overflow = false ∧ s.link.buffer <+: frame)

/-- The Link Interface with a reply of these bytes ready and unread, the lines at rest after the frame (R166, R168). -/
def Link.answered (bytes : List Byte) (attn : Bool) : Link :=
  { phase := .holding, buffer := [], overflow := false, held := bytes, readIndex := 0, withheld := none, lockout := false,
    resetOnRead := false, lack := false, lrdy := true, attn := attn, ld := none, lfrm := false, ldir := false, lstb := false,
    resetN := true }

/-- This state with a reply of these bytes ready, ATTN as the state gives it (R187). -/
def State.answer (bytes : List Byte) (s : State) : State := { s with link := .answered bytes (attnDue s) }

/-- A refusal that echoes this code and bay, with the record it gives the log, and nothing else (R183, R184): the reply, the
log, the counter. -/
def State.refusedWith (code bay : Byte) (x : RefusalRecord) (s : State) : State :=
  State.answer [3, code, bay, 1, byteOf x.reason.value]
    { s with
      refusals :=
        if s.refusals.count = 0 then { count := 1, first := some x, latest := some x }
        else { count := bump 255 s.refusals.count, first := s.refusals.first, latest := some x }
      partCnt := { s.partCnt with refusedRequests := bump 65535 s.partCnt.refusedRequests } }

/-- A refusal and nothing else, whose log record is what the reply echoes (R183). -/
def State.refusedAs (code bay : Byte) (r : Reason) (s : State) : State := s.refusedWith code bay ⟨code, bay, r⟩

/-- The record of a refused frame: a byte that did not arrive is 0, and of fewer than two bytes the code is recorded as 0
(R166, R183). -/
def frameRecord (bytes : List Byte) (r : Reason) : RefusalRecord :=
  ⟨if bytes.length < 2 then 0 else bytes.getD 0 0, bytes.getD 1 0, r⟩

/-- The bay and the operation of an operation request; none for the other commands. -/
def operationOf : Instr → Option (Bay × OpKind)
  | .spinUp b => some (b, .spinUp)
  | .spinDown b => some (b, .spinDown)
  | .loadHeads b => some (b, .loadHeads)
  | .unloadHeads b => some (b, .unloadHeads)
  | .seek b track head => some (b, .seek track.toNat head.toNat)
  | .openWrite b => some (b, .openWrite)
  | .closeWrite b => some (b, .closeWrite)
  | .eject b => some (b, .eject)
  | _ => none

/-- Check 3 of R146: a SEEK names a head 0 or 1 and a track the media record has. -/
def SeekFits (b : Bay) (k : OpKind) (s : State) : Prop :=
  ∀ track head, k = .seek track head →
    head ≤ 1 ∧ ((s.bay b).cart.media.bind Media.lastTrack).any (fun top => track ≤ top) = true

/-- Checks 3 to 6 of R146 pass: the seek is in range, the cartridge state permits the operation, an EJECT is not prevented,
the bay is below its limit and a slot is free (R144). -/
def OpAccepted (b : Bay) (k : OpKind) (s : State) : Prop :=
  SeekFits b k s ∧ ((s.bay b).cart.state = .seated ∨ (s.bay b).cart.state = .jammed ∧ k = .eject) ∧
    (k = .eject → (s.bay b).cart.prevent = false) ∧
    slotsHeld (s.bay b).sched < (if 2 ≤ slotsHeld (s.bay b.other).sched then 8 else 12) ∧
    slotsHeld s.bayA.sched + slotsHeld s.bayB.sched < 16

/-- A scheduler that is RUNNING with nothing in flight and nothing queued: an operation accepted for it is taken at once. -/
def SchedFree (x : Sched) : Prop := x.state = .running ∧ x.inflight = none ∧ x.queue = []

/-- The completion list with one more record: of a full list the oldest goes (R161). -/
def recorded (l : List Completion) (r : Completion) : List Completion := (l ++ [r]).drop (l.length + 1 - 8)

/-- The completion list with more records, one after another. -/
def recordedAll (l : List Completion) : List Completion → List Completion
  | [] => l
  | r :: rs => recordedAll (recorded l r) rs

/-- How the tag counter goes on: from 255 to 1 (R145). -/
def tagStep (t : Nat) : Nat := if t < 255 then t + 1 else 1

/-- The `n`-th tag after a tag. -/
def tagSteps : Nat → Nat → Nat
  | 0, t => t
  | n + 1, t => tagSteps n (tagStep t)

/-- The tags that the occupied slots hold. -/
def heldTags (s : State) : List Nat := (acceptedOps s).map Op.tag

/-- The scheduler right behind the taking of its only operation (R149, R158). -/
def Sched.holding (x : Sched) (op : Op) : Sched :=
  if x.step then { x with queue := [], inflight := some op, state := .halting, cause := some .step }
  else { x with queue := [], inflight := some op }

/-- The scheduler behind an operation that completed at its taking (R151, R158). -/
def Sched.through (x : Sched) : Sched :=
  if x.step then { x with queue := [], inflight := none, state := .halted, cause := some .step }
  else { x with queue := [], inflight := none }

/-- The outcome of an operation that completes at its taking without a fault, by the state of its bay: the tables of R30, R42, R93,
R97, R105 and R118; none where it stays in flight, faults, or begins something. -/
def atTaking (k : OpKind) (x : BayState) : Option OpOutcome :=
  match k with
  | .spinUp =>
    if x.cart.media.any (fun m => m.kind = .unrecognised) then some (.failed .mediaUnknown)
    else if x.spin.state = .locked ∨ x.spin.state = .unlocked then some .success
    else none
  | .spinDown =>
    if x.spin.state = .stopped then some .success
    else if x.spin.state = .fault then some (.failed .notReady)
    else none
  | .loadHeads =>
    if x.pos.state = .parked then (if x.spin.state = .locked then none else some (.failed .notReady))
    else if x.pos.state = .unloading ∨ x.pos.state = .retracting ∨ x.pos.state = .fault then some (.failed .notReady)
    else some .success
  | .unloadHeads =>
    if x.pos.state = .parked then some .success
    else if x.pos.state = .fault then some (.failed .notReady)
    else none
  | .seek track head =>
    if x.pos.state = .following then (if track = x.pos.target ∧ head = x.pos.head then some .success else none)
    else if x.pos.state = .settling then none
    else some (.failed .notTracking)
  | .openWrite =>
    if x.cart.media.any (fun m => m.writeProtected) then some (.failed .writeProtected)
    else if x.pos.state = .following ∧ x.spin.state = .locked then some .success
    else some (.failed .notTracking)
  | .closeWrite => some .success
  | .eject => none

/-- Whether the stop that BAY RESET gives an operation in flight ends it at once (R43, R109): a SPIN UP that waits for power, a LOAD
HEADS in its load wait, heads unloaded onto a ramp whose PARK is true already. -/
def endsAtReset (k : OpKind) (x : BayState) : Bool :=
  match k with
  | .spinUp => x.spin.state = .waitPower
  | .loadHeads =>
    x.pos.state = .parked && x.pos.pending = .load ||
      (x.pos.state = .loading || x.pos.state = .acquiring) && x.pins.park
  | .seek .. => x.pos.state.loaded && x.pins.park
  | .spinDown | .unloadHeads | .openWrite | .closeWrite | .eject => false

/-- A spindle that a brake order takes into BRAKING (R37). -/
def SpinState.turning : SpinState → Bool
  | .aligning | .ramping | .locking | .locked | .unlocked => true
  | .stopped | .waitPower | .braking | .fault => false

/-- A brake order waits for the positioner of the bay: its mark is set, or a release is pending over a turning spindle (R12, R37). -/
def BrakeWaits (b : Bay) (s : State) : Prop :=
  (s.bay b).spin.state.turning = true ∧ ((s.bay b).spin.brakeMark = true ∨ (s.bay b).cart.state = .releasePending)

/-- The spindle `y` is `x` at entry to BRAKING under a plain brake order (R38), but for the lock counts, which BRAKING does not
keep. -/
def Braked (x y : Spindle) : Prop :=
  y = { x with state := .braking, drive := 0, phases := .off, sbrk := true, purpose := some .stop, brakeMark := false,
               stageTimer := none, speedLost := none, tachTimer := some 500000, brakeLimit := some 10000000,
               inside := y.inside, outside := y.outside }

/-- The latch of a RELEASE_PENDING bay has asked this ledger for its 120, after `n` pulses, with this answer (R14, R15, R52, R53). -/
def LatchAsked (b : Bay) (l : Ledger) (n : Nat) (t : State) : Prop :=
  if l.capacity < 120 then t.ledger = l ∧ (t.bay b).cart.state = .seated ∧ (t.bay b).cart.pulseCount = 0
  else if l.wait = [] ∧ l.sum - l.hold (.latch b) + 120 ≤ l.effective then
    t.ledger = l.setHold (.latch b) 120 ∧ (t.bay b).cart.state = .ejecting ∧ (t.bay b).cart.phase = some .pulse ∧
      (t.bay b).cart.latch = true ∧ (t.bay b).cart.pulseCount = min 3 (n + 1) ∧ (t.bay b).cart.pulseTimer = some 80000
  else
    t.ledger = { l with wait := l.wait ++ [⟨.latch b, .fixed 120⟩] } ∧ (t.bay b).cart.state = .releasePending ∧
      (t.bay b).cart.pulseCount = n

/-- The records a cancelled queue adds, oldest first (R11, R19, R152, R159). -/
def cancelRecords (b : Bay) (x : BayState) : List Completion :=
  x.sched.queue.map fun op =>
    { tag := op.tag, bay := b, op := op.kind, outcome := .cancelled,
      detail := if op.kind = .spinUp then some x.spin.attempt else none }

/-! ### The converter at the completion of a list conversion -/

/-- What the converter takes up: a SAMPLE NOW that waits, before what the scan gives (R131). -/
def convertsNext (s : State) (c : Converter) : Converter :=
  match s.sense.waiting with
  | some (channel, gain) => .now channel gain
  | none => c

/-- The scan ends, and the scan start it owes, if it owes one, is made at once (R125, R126, R131). -/
def ScanEnds (s t : State) : Prop :=
  t.sense.waiting = none ∧ t.sense.scanDue = false ∧
    (if s.sense.scanDue then
      t.sense.scan = some { position := 0, programmable := !t.sense.halted } ∧ t.sense.conv = convertsNext s (.list 0) ∧
        t.sense.scanCount = (s.sense.scanCount + 1) % 256 ∧ t.sense.active = s.sense.replacement.getD s.sense.active ∧
        t.sense.replacement = none
    else t.sense.scan = none ∧ t.sense.conv = convertsNext s .idle)

/-! ### A wedge at its completion -/

/-- The SAU computes `c` and applies it at its completion, over a positioner in this state, with no gap before its wedge (R71,
R72). -/
def Computing (c : Computation) (st : PosState) (s : State) : Prop :=
  s.sau = some c ∧ c.discard = false ∧ (s.bay c.bay).pos.state = st ∧ c.report.number < 48 ∧
    ((s.bay c.bay).servo.lastNum = none ∨ (s.bay c.bay).servo.lastNum = some ((c.report.number + 47) % 48))

/-- The track of a report's wedge, if the wedge is valid at its completion: track field present, burst sum 64 or more, track not
above the last track (R73). -/
def validAt (c : Computation) (s : State) : Option Nat :=
  c.report.track.filter fun track =>
    64 ≤ c.report.burstA + c.report.burstB && ((s.bay c.bay).cart.media.bind Media.lastTrack).any fun top => track ≤ top

/-- The position of a valid wedge on this track (R74, R75). -/
def measuredAt (c : Computation) (track : Nat) : Int :=
  64 * track + nearest (32 * ((c.report.burstA : Int) - c.report.burstB)) (c.report.burstA + c.report.burstB)

/-- The servo record `y` is `x` behind a valid wedge `n` at position `P`, but for I and the PES (R75, R76, R82). -/
def Measured (x y : Servo) (P : Int) (n : Nat) : Prop :=
  y = { x with P := P, v := y.v, fresh := false, lastValid := some P, k := 0, lastNum := some n, lastOk := true, pes := y.pes,
               pesValid := y.pesValid, I := y.I } ∧
    (x.fresh = true ∨ 8 ≤ x.k → y.v = 0) ∧
    ∀ last, x.lastValid = some last → x.fresh = false ∧ x.k < 8 →
      y.v = max (-1023) (min 1023 (Int.tdiv (P - last) (x.k + 1)))

/-- The servo record `y` is `x` behind an invalid wedge `n`, but for I and the PES (R75, R76, R82). -/
def Reckoned (x y : Servo) (n : Nat) : Prop :=
  y = { x with P := clampInt (-32) 65504 (x.P + x.v), k := bump 255 x.k, lastNum := some n, lastOk := false, pes := y.pes,
               pesValid := y.pesValid, I := y.I }

/-- The PES is worked out from the record's own P, with this validity (R77). -/
def PesWorked (y : Servo) (target : Nat) (valid : Bool) : Prop :=
  y.pes = max (-2048) (min 2047 (y.P - 64 * target)) ∧ y.pesValid = valid

/-- The PES of the last wedge that had one is kept (R77). -/
def PesKept (x y : Servo) : Prop := y.pes = x.pes ∧ y.pesValid = x.pesValid

/-- A code within the actuator holding and -127..+127 (R81). -/
def withinHolding (held : Nat) (code : Int) : Int := max (-127) (min 127 (clampInt (-held) held code))

/-- The gap of a report behind the last wedge computed (R72). -/
def gapBehind (last n : Nat) : Nat := (n + 47 - last) % 48

/-- The servo record behind the `g` implied wedges before wedge `n` (R72). -/
def Servo.skipped (x : Servo) (g n : Nat) : Servo :=
  { x with P := clampInt (-32) 65504 (x.P + g * x.v), k := min 255 (x.k + g), lastNum := some ((n + 47) % 48) }

/-- The counts of a positioner behind `g` implied wedges, 1 or more, that bring the servo-lost count to no mark (R91). -/
def Positioner.skipped (p : Positioner) (g : Nat) : Positioner :=
  match p.state with
  | .acquiring => { p with acquire := 0, servoLost := p.servoLost + g }
  | .following => { p with offTrack := 0, clean := 0, servoLost := p.servoLost + g }
  | .seeking => { p with servoLost := p.servoLost + g }
  | .settling => { p with settle := 0, servoLost := p.servoLost + g }
  | .loading | .parked | .unloading | .retracting | .fault => p

/-- The tracks remaining of each profile bin (R83). -/
def profileBins : List (Nat × Nat) :=
  [(0, 0), (1, 1), (2, 2), (3, 3), (4, 5), (6, 7), (8, 11), (12, 15), (16, 23), (24, 31), (32, 47), (48, 63), (64, 127),
   (128, 255), (256, 511), (512, 1023)]

/-- Two Cartridge Controllers that differ in the lamp alone. -/
def Cartridge.sameButLamp (c d : Cartridge) : Prop :=
  { c with lampMode := d.lampMode, lamp := d.lamp, flashTimer := d.flashTimer } = d

/-- The scheduler of a fault-halted bay: nothing in flight, HALTED by FAULT, the cause the last fault (R153). -/
def Sched.faulted (x : Sched) (c : Cause) : Sched :=
  { x with inflight := none, state := .halted, cause := some .fault, lastFault := some c }

/-- The records a fatal outcome adds: one for the operation in flight, if there is one (R153). -/
def faultRecords (b : Bay) (x : BayState) (c : Cause) : List Completion :=
  match x.sched.inflight with
  | some op =>
    [{ tag := op.tag, bay := b, op := op.kind, outcome := .failed c,
       detail := if op.kind = .spinUp then some x.spin.attempt else none }]
  | none => []

/-- The bay's own state right after a part reset, its lines as they stand (R22, R46, R64, R66, R71, R86, R112, R122, R142, R163, R191). -/
def bayAtReset (p : BayPins) : BayState :=
  { pins := p
    cart :=
      { state := if p.pres then .seating else .empty, media := none, prevent := false, pulseCount := 0, phase := none,
        debounce := if p.pres then some 100000 else none, pulseTimer := none, waitTimer := none, pressed := false,
        seenFalse := !p.btn, levelTimer := none, pressTimer := none, latch := false, lampMode := .off, lamp := false,
        flashTimer := none }
    spin := State.reset.bayA.spin
    demod := State.reset.bayA.demod
    pos :=
      { state := if p.park then .parked else .retracting, head := 0, hsel := 0, target := 0, pending := .none, owner := .none,
        acquire := 0, settle := 0, offTrack := 0, clean := 0, servoLost := 0, recovery := 0, loadWait := none, loadTimer := none,
        seekTimer := none, unloadTimer := none, retractTimer := if p.park then none else some 500000,
        act := if p.park then 0 else -60, source := if p.park then .none else .reserve }
    servo := State.reset.bayA.servo
    gate := { window := false, wperm := false, qualified := false, held := p.wgate }
    sched := State.reset.bayA.sched
    gains := State.reset.bayA.gains
    slot := none
    mon := State.reset.bayA.mon
    cnt := State.reset.bayA.cnt }

/-- The part right after a part reset (R171): every block at its reset state, the input lines as they stand, the link with this
level of RESET_N and this lockout mark (R164). -/
def State.atReset (s : State) (resetN lockout : Bool) : State :=
  { State.reset with
    bayA := bayAtReset s.bayA.pins
    bayB := bayAtReset s.bayB.pins
    link :=
      { State.reset.link with
        lfrm := s.link.lfrm, ldir := s.link.ldir, lstb := s.link.lstb, resetN := resetN, lockout := lockout }
    pending := s.pending
    freeCount := s.freeCount }

/-- Which bay bytes a request may carry (R180). -/
inductive Addressing where
  | part
  | bay
  | either
  deriving DecidableEq, Repr

/-- Whether a bay byte is one of them. -/
def Addressing.permits : Addressing → Byte → Bool
  | .part, x => x = 0
  | .bay, x => x = 1 || x = 2
  | .either, x => x = 0 || x = 1 || x = 2

/-- A row of the code table: code, addressing, payload lengths (R180). -/
structure CodeRow where
  code : Nat
  addressing : Addressing
  lengths : List Nat
  deriving DecidableEq, Repr

/-- The code table (R180). -/
def codeTable : List CodeRow :=
  [⟨1, .bay, [0]⟩, ⟨2, .bay, [0]⟩, ⟨3, .bay, [0]⟩, ⟨4, .bay, [0]⟩, ⟨5, .bay, [3]⟩, ⟨6, .bay, [0]⟩, ⟨7, .bay, [0]⟩, ⟨8, .bay, [0]⟩] ++
  [⟨16, .bay, [0]⟩, ⟨17, .bay, [0]⟩, ⟨18, .bay, [1]⟩, ⟨19, .bay, [0]⟩, ⟨20, .bay, [0]⟩, ⟨21, .bay, [1]⟩, ⟨22, .bay, [1]⟩,
   ⟨23, .bay, [8]⟩] ++
  [⟨32, .part, [2]⟩, ⟨33, .part, [32]⟩, ⟨34, .either, [0]⟩, ⟨35, .part, [0, 4, 8, 12, 16, 20, 24, 28, 32, 36, 40]⟩,
   ⟨36, .part, [0]⟩, ⟨37, .part, [0]⟩, ⟨38, .part, [2]⟩, ⟨39, .part, [2]⟩, ⟨40, .part, [2]⟩, ⟨41, .part, [14]⟩] ++
  [⟨48, .part, [0]⟩, ⟨49, .either, [0]⟩, ⟨50, .part, [0]⟩, ⟨51, .part, [2]⟩, ⟨52, .part, [2]⟩, ⟨53, .part, [0]⟩, ⟨54, .part, [0]⟩,
   ⟨55, .part, [0]⟩, ⟨56, .part, [0]⟩]

end Sys2Proof.Machine
end

