-- ==== Sys2Proof/WellFormed.lean ====
section
/-! DEFINITION. The well-formed commands: those the tables of the spec can send (R166, R175, R180; log entries 22, 40). -/

namespace Sys2Proof

/-- Whether a command is one the link or the part's surroundings can make. WRITE PROFILE carries sixteen values, WRITE SENSE
LIST at most ten entries, a refused frame is a frame with at least one byte that fails a check (a frame beyond 64 bytes has set the
overflow mark), a TACH pulse follows its predecessor by a measurable period. -/
def Instr.wf : Instr → Bool
  | .writeProfile demands => demands.length = 16
  | .writeSenseList entries => entries.length ≤ 10
  | .frameRefused bytes =>
    match Machine.checkFrame (bytes.take Machine.Const.frameSize) (Machine.Const.frameSize < bytes.length) with
    | .taken _ => false
    | .refused _ => bytes ≠ []
  | .tachPulse _ elapsed => 1 ≤ elapsed && elapsed ≤ Machine.Const.longestPeriod
  | .spinUp _ | .spinDown _ | .loadHeads _ | .unloadHeads _ | .seek .. | .openWrite _ | .closeWrite _ | .eject _
  | .haltBay _ | .runBay _ | .setStepMode .. | .abortBay _ | .bayReset _ | .setPrevent .. | .setTrim .. | .setGains ..
  | .setBudget _ | .readProfile _ | .readSenseList | .resumeSense | .sampleNow .. | .readSamples ..
  | .setSampleMode .. | .setLimits .. | .identify | .readStatus _ | .readEvents | .clearEvents _ | .setEventMask _
  | .readCounters | .readRefusals | .readCompletions | .resetPart | .linkStrobe .. | .strobeNegated | .resetNFall
  | .resetNRise _ | .powerOn | .presRise _ | .presFall _ | .debounceExpiry .. | .btnChange .. | .buttonLevelExpiry _
  | .longPress _ | .pulseTimerExpiry _ | .waitTimerExpiry _ | .lampFlashToggle _ | .tachTimerExpiry _
  | .stageTimerExpiry _ | .brakeLimitExpiry _ | .speedLostTimerExpiry _ | .wedgeWindowEnd .. | .sauCompletion
  | .loadWaitTimerExpiry _ | .loadTimerExpiry _ | .seekTimerExpiry _ | .unloadTimerExpiry _ | .retractTimerExpiry _
  | .parkRise _ | .parkFall _ | .wgateRise _ | .wgateFall _ | .scanTimerExpiry | .conversionCompletion _
  | .sampleNowCompletion _ | .lfrmRelease => true

/-- The requests: the 35 rows that a frame of the link carries (R180). -/
def Instr.isRequest : Instr → Bool
  | .spinUp _ | .spinDown _ | .loadHeads _ | .unloadHeads _ | .seek .. | .openWrite _ | .closeWrite _ | .eject _
  | .haltBay _ | .runBay _ | .setStepMode .. | .abortBay _ | .bayReset _ | .setPrevent .. | .setTrim .. | .setGains ..
  | .setBudget _ | .writeProfile _ | .readProfile _ | .writeSenseList _ | .readSenseList | .resumeSense | .sampleNow ..
  | .readSamples .. | .setSampleMode .. | .setLimits .. | .identify | .readStatus _ | .readEvents | .clearEvents _
  | .setEventMask _ | .readCounters | .readRefusals | .readCompletions | .resetPart => true
  | .frameRefused _ | .linkStrobe .. | .strobeNegated | .resetNFall | .resetNRise _ | .powerOn | .presRise _
  | .presFall _ | .debounceExpiry .. | .btnChange .. | .buttonLevelExpiry _ | .longPress _ | .pulseTimerExpiry _
  | .waitTimerExpiry _ | .lampFlashToggle _ | .tachPulse .. | .tachTimerExpiry _ | .stageTimerExpiry _
  | .brakeLimitExpiry _ | .speedLostTimerExpiry _ | .wedgeWindowEnd .. | .sauCompletion | .loadWaitTimerExpiry _
  | .loadTimerExpiry _ | .seekTimerExpiry _ | .unloadTimerExpiry _ | .retractTimerExpiry _ | .parkRise _
  | .parkFall _ | .wgateRise _ | .wgateFall _ | .scanTimerExpiry | .conversionCompletion _ | .sampleNowCompletion _
  | .lfrmRelease => false

end Sys2Proof
end

