-- ==== Sys2Proof/Certificates/Slice0/Obligations.lean ====
section
/-! DEFINITION. The statements for the provers, from the numbered rules of the spec. `After o P` says that a command completes, in a
state of which P holds. `State.answer`, `State.refusedAs`, `recorded` and the rest of the vocabulary stand in Safety.lean. -/

open Sys2Proof Sys2Proof.Machine

/-! ## The step, the reset state -/

/-- A step takes the command at the front of the queue, with the rest of the queue, and on an empty queue the block idles.
The queue and the idle step are the model's own: log entry 1. -/
def Obligations.StepTakesFrontCommand : Prop :=
  (∀ (c : Instr) (rest : List Instr) (s : State), step (s.setPending (c :: rest)) = exec c (s.setPending rest)) ∧
    ∀ s : State, s.pending = [] → step s = .next s

/-- What the spec gives for the state after a part reset. -/
def Obligations.ResetLeavesTheSpecsValues : Prop :=
  State.reset.ledger = { capacity := 300, effective := 300, holdA := ⟨0, 0, 0⟩, holdB := ⟨0, 0, 0⟩, wait := [] } ∧
  State.reset.supply =
    { state := .normal, good12 := false, goodScans := 0, limits := ⟨680, 700, 740, 770, 540, 600, 900⟩ } ∧
  State.reset.profile = [16, 40, 56, 68, 80, 96, 112, 132, 152, 176, 200, 220, 256, 320, 384, 384] ∧
  State.reset.sau = none ∧ State.reset.nextTag = 1 ∧ State.reset.completions = [] ∧
  State.reset.refusals = { count := 0, first := none, latest := none } ∧ State.reset.events = { latched := 0, mask := 0 } ∧
  State.reset.partCnt = ⟨0, 0, 0, 0, 0⟩ ∧
  State.reset.sense.active =
    [some ⟨6, 0, false, false, false⟩, some ⟨7, 0, false, false, false⟩, some ⟨8, 0, false, false, false⟩,
     some ⟨9, 0, false, false, false⟩, some ⟨10, 0, false, false, false⟩, some ⟨11, 0, true, false, false⟩, none, none, none,
     none] ∧
  State.reset.sense.replacement = none ∧ State.reset.sense.halted = false ∧ State.reset.sense.interval = 2 ∧
  State.reset.sense.scanTimer = some 2000 ∧ State.reset.sense.scanCount = 0 ∧ State.reset.sense.conv = .idle ∧
  State.reset.sense.waiting = none ∧ State.reset.store.mode = .image ∧ State.reset.store.ring = [] ∧
  State.reset.store.image.map Slot.valid = List.replicate 16 false ∧
  State.reset.link.phase = .idle ∧ State.reset.link.buffer = [] ∧ State.reset.link.overflow = false ∧
  State.reset.link.held = [] ∧ State.reset.link.withheld = none ∧ State.reset.link.resetOnRead = false ∧
  State.reset.link.lack = false ∧ State.reset.link.lrdy = false ∧ State.reset.link.attn = false ∧ State.reset.link.ld = none ∧
  ∀ b : Bay,
    (State.reset.bay b).gains = ⟨24, 12, 40, 12⟩ ∧ (State.reset.bay b).slot = none ∧
    (State.reset.bay b).mon = ⟨false, 0, false, 0⟩ ∧ (State.reset.bay b).cnt = ⟨0, 0, 0, 0, 0, 0, 0, 0⟩ ∧
    (State.reset.bay b).sched =
      { queue := [], inflight := none, state := .running, cause := none, step := false, lastFault := none } ∧
    (State.reset.bay b).servo =
      { P := -32, v := 0, fresh := true, lastValid := none, k := 0, lastNum := none, lastOk := false, pes := 0, pesValid := false,
        I := 0 } ∧
    (State.reset.bay b).gate.window = false ∧ (State.reset.bay b).gate.wperm = false ∧
    (State.reset.bay b).gate.qualified = false ∧ (State.reset.bay b).demod.window = none ∧
    (State.reset.bay b).spin.state = .braking ∧ (State.reset.bay b).spin.purpose = some .stop ∧
    (State.reset.bay b).spin.drive = 0 ∧ (State.reset.bay b).spin.sbrk = true ∧ (State.reset.bay b).spin.tachRef = false ∧
    (State.reset.bay b).spin.lastPeriod = none ∧ (State.reset.bay b).spin.tachTimer = some 500000 ∧
    (State.reset.bay b).spin.brakeLimit = some 10000000 ∧ (State.reset.bay b).spin.attempt = 0 ∧
    (State.reset.bay b).spin.trim = 0 ∧ (State.reset.bay b).spin.startMark = false ∧
    (State.reset.bay b).spin.brakeMark = false ∧ (State.reset.bay b).spin.speedLost = none ∧
    (State.reset.bay b).pos.head = 0 ∧ (State.reset.bay b).pos.hsel = 0 ∧ (State.reset.bay b).pos.target = 0 ∧
    (State.reset.bay b).pos.pending = .none ∧ (State.reset.bay b).cart.latch = false ∧
    (State.reset.bay b).cart.prevent = false ∧ (State.reset.bay b).cart.pulseCount = 0 ∧
    (State.reset.bay b).cart.media = none ∧ (State.reset.bay b).cart.pressed = false

/-- The laws that the statements below show every step to keep hold of the state after reset. -/
def Obligations.LawsHoldAtReset : Prop :=
  LedgerSound State.reset ∧ ActuatorsSound State.reset ∧ WaitDistinct State.reset ∧ StoresBounded State.reset ∧ AttnExact State.reset ∧
  HaltedIdle State.reset ∧ HeadsRegulated State.reset ∧ SpindleOutputs State.reset ∧ OvercurrentOff State.reset ∧
  LatchSafe State.reset ∧ PermitExact State.reset ∧ PoolBounded State.reset ∧ TagsDistinct State.reset ∧
  ReleaseQuiet State.reset ∧ LampExact State.reset ∧ TakingsDone State.reset ∧ LinkSound State.reset

/-! ## Laws that every step keeps -/

/-- The reservation sum never exceeds the capacity, and E is what C and the supply state give. -/
def Obligations.StepKeepsLedgerSound : Prop :=
  ∀ s t : State, LedgerSound s → step s = .next t → LedgerSound t

/-- Every step keeps ACT within the actuator holding while the rail gives it, and each positioner state's code, source and holding: at
least 30 held under loaded heads, -25 in UNLOADING, -60 from the reserve in RETRACTING, 0 in PARKED and FAULT. No actuator
waits for anything but its 30 or its 60 to 100. -/
def Obligations.StepKeepsActuatorsSound : Prop :=
  ∀ s t : State, ActuatorsSound s → step s = .next t → ActuatorsSound t

/-- The completion list, the history ring and the stored values keep their bounds. -/
def Obligations.StepKeepsStoresBounded : Prop :=
  ∀ s t : State, StoresBounded s → step s = .next t → StoresBounded t

/-- ATTN stays exactly the presence of a class both pending and enabled. -/
def Obligations.StepKeepsAttnExact : Prop :=
  ∀ s t : State, AttnExact s → step s = .next t → AttnExact t

/-- Every step keeps the schedulers quiet: none that is HALTED holds an operation in flight, none that may take leaves work in its queue,
and none of a bay being released has a queue or an open window. -/
def Obligations.StepKeepsSchedulersQuiet : Prop :=
  (∀ s t : State, HaltedIdle s → step s = .next t → HaltedIdle t) ∧
  (∀ s t : State, TakingsDone s → step s = .next t → TakingsDone t) ∧
  (∀ s t : State, ReleaseQuiet s → step s = .next t → ReleaseQuiet t)

/-- The heads are under rail power only over a regulated platter. -/
def Obligations.StepKeepsHeadsRegulated : Prop :=
  ∀ s t : State, HeadsRegulated s → step s = .next t → HeadsRegulated t

/-- The brake, the phase drives and a drive code of 0 follow the spindle state, and a bay under overcurrent drives nothing. -/
def Obligations.StepKeepsSpindleOutputs : Prop :=
  ∀ s t : State, SpindleOutputs s → OvercurrentOff s → step s = .next t → SpindleOutputs t ∧ OvercurrentOff t

/-- LATCH is energised only at rest and under 120 units; a consumer waits once at most.
With it, that the request a pulse served no longer waits, which is the model's inference. -/
def Obligations.StepKeepsLatchSafe : Prop :=
  ∀ s t : State, LatchSafe s → WaitDistinct s → step s = .next t → LatchSafe t ∧ WaitDistinct t

/-- WPERM stays exactly the conjunction of the permit conditions. -/
def Obligations.StepKeepsPermitExact : Prop :=
  ∀ s t : State, PermitExact s → step s = .next t → PermitExact t

/-- Every step keeps the pool within its bounds, sixteen slots and twelve for a bay, and the tags of the occupied slots different, the
counter at a free one. -/
def Obligations.StepKeepsPoolAndTags : Prop :=
  (∀ s t : State, PoolBounded s → step s = .next t → PoolBounded t) ∧
  (∀ s t : State, PoolBounded s → TagsDistinct s → step s = .next t → TagsDistinct t)

/-- Every step that performs no part reset accounts for every operation that occupies a slot: it still occupies one of its bay, queued
or in flight, or the step writes exactly one record for it. The step writes no other record, takes records away only to carry them in
a READ COMPLETIONS reply, and lets in at most one operation, under the next tag, answered QUEUED. -/
def Obligations.StepAccountsForOperations : Prop :=
  ∀ s t : State, (∀ c, s.pending.head? = some c → ¬ResetsPart c s) → step s = .next t →
    ∃ (n : Nat) (new : List (Bay × Op)) (records : List Completion),
      (n = 0 ∨ n ≤ 6 ∧ t.link.held.take 2 = [1, 55]) ∧
      (new = [] ∨ ∃ b k, new = [(b, ⟨s.nextTag, k⟩)] ∧ t.link.held.head? = some 2) ∧
      t.completions = recordedAll (s.completions.drop n) records ∧
      (heldOps s ++ new).Perm (heldOps t ++ records.map fun r => (r.bay, ⟨r.tag, r.op⟩))

/-- The lamp keeps the mode that the cartridge and the scheduler give. -/
def Obligations.StepKeepsLampExact : Prop :=
  ∀ s t : State, LampExact s → step s = .next t → LampExact t

/-- LRDY stays asserted exactly in HOLDING, the buffer within 64 bytes. -/
def Obligations.StepKeepsLinkSound : Prop :=
  ∀ s t : State, LinkSound s → step s = .next t → LinkSound t

/-! ## Frames -/

/-- The frame of every well-formed request passes the link checks and is taken as that request, operands and all. -/
def Obligations.FramesCarryTheirRequests : Prop :=
  ∀ i : Instr, i.isRequest = true → i.wf = true → (frameOf i).length ≤ 64 ∧ checkFrame (frameOf i) false = .taken i

/-- The checks a to g refuse by the code table: BAD_FRAME for a to f, BAD_BAY for g, nothing else. -/
def Obligations.LinkChecksFollowTheCodeTable : Prop :=
  ∀ (buffer : List Byte) (overflow : Bool),
    (checkFrame buffer overflow = .refused .badFrame ↔
      buffer.length < 4 ∨ overflow = true ∨ byteSum buffer ≠ 0 ∨ (buffer.getD 2 0).toNat ≠ buffer.length - 4 ∨
        ¬∃ row ∈ codeTable, row.code = (buffer.getD 0 0).toNat ∧ buffer.length - 4 ∈ row.lengths) ∧
    (checkFrame buffer overflow = .refused .badBay ↔
      4 ≤ buffer.length ∧ overflow = false ∧ byteSum buffer = 0 ∧ (buffer.getD 2 0).toNat = buffer.length - 4 ∧
        ∃ row ∈ codeTable, row.code = (buffer.getD 0 0).toNat ∧ buffer.length - 4 ∈ row.lengths ∧
          row.addressing.permits (buffer.getD 1 0) = false) ∧
    ∀ r : Reason, checkFrame buffer overflow = .refused r → r = .badFrame ∨ r = .badBay

/-- A frame strobed in byte by byte and ended by the release of LFRM has the effect of its request's command.
That a request row stands for its whole frame is the model's choice: log entry 3. -/
def Obligations.StrobedFrameActsAsItsRequest : Prop :=
  ∀ (i : Instr) (s : State), i.isRequest = true → i.wf = true → s.link.resetN = true → s.link.lockout = false →
    (s.link.phase = .idle ∨ s.link.phase = .holding ∧ s.link.resetOnRead = false) →
    runAll (strobesOf (frameOf i) ++ [.lfrmRelease]) s = exec i s

/-- A frame that fails a check is refused, and nothing else happens: as the end of a frame in the buffer, and as a whole frame.
That a frame of two bytes is logged under the code that arrived is the model's choice: log entry 19. -/
def Obligations.BadFramesAreRefused : Prop :=
  ∀ (s : State) (bytes : List Byte) (r : Reason), AttnExact s →
    (s.link.resetN = true → s.link.phase = .receiving → checkFrame s.link.buffer s.link.overflow = .refused r →
      After (exec .lfrmRelease s) fun t =>
        t = { s.refusedWith (s.link.buffer.getD 0 0) (s.link.buffer.getD 1 0) (frameRecord s.link.buffer r) with link := t.link } ∧
        t.link =
          { s.link with
            phase := .holding, buffer := [], overflow := false, readIndex := 0, lrdy := true, lockout := false, lfrm := false,
            resetOnRead := false,
            held := [3, s.link.buffer.getD 0 0, s.link.buffer.getD 1 0, 1, byteOf r.value] }) ∧
    (bytes ≠ [] → LinkTakes bytes s → checkFrame (bytes.take 64) (64 < bytes.length) = .refused r →
      exec (.frameRefused bytes) s = .next (s.refusedWith (bytes.getD 0 0) (bytes.getD 1 0) (frameRecord bytes r)))

/-- What a strobe does, by LDIR, LFRM and the state of the interface; its negation; a release of LFRM that ends no frame; a whole frame
sent to a link that cannot take it.
The lines as seen with each strobe, the release after a strobe of its own, a request row as a whole frame, also with RESET_N low, and
the byte LD keeps while LDIR is high outside HOLDING are the model's: log entries 26, 27, 33, 3, 44. -/
def Obligations.StrobesFollowTheTable : Prop :=
  (∀ (s : State) (lfrm : Bool) (x : Byte),
      (s.link.resetN = false → exec (.linkStrobe false lfrm x) s = .next s ∧ exec (.linkStrobe true lfrm x) s = .next s) ∧
      (s.link.resetN = true →
        (exec (.linkStrobe false false x) s =
          .next { s with link := { s.link with ldir := false, lfrm := false, lstb := true, ld := none } }) ∧
        (s.link.lockout = true →
          exec (.linkStrobe false true x) s =
            .next { s with link := { s.link with ldir := false, lfrm := true, lstb := true, ld := none } }) ∧
        (s.link.lockout = false → s.link.phase = .receiving →
          exec (.linkStrobe false true x) s =
            .next { s with
              link :=
                { s.link with
                  ldir := false, lfrm := true, lstb := true, ld := none, lack := true
                  buffer := if s.link.buffer.length < 64 then s.link.buffer ++ [x] else s.link.buffer
                  overflow := s.link.overflow || !(s.link.buffer.length < 64 : Bool) } }) ∧
        (s.link.lockout = false → (s.link.phase = .idle ∨ s.link.phase = .holding ∧ s.link.resetOnRead = false) →
          exec (.linkStrobe false true x) s =
            .next { s with
              link :=
                { s.link with
                  ldir := false, lfrm := true, lstb := true, ld := none, lack := true, phase := .receiving, buffer := [x],
                  overflow := false, held := [], readIndex := 0, lrdy := false, withheld := none, resetOnRead := false } }) ∧
        (s.link.lockout = false → s.link.phase = .preparing →
          exec (.linkStrobe false true x) s =
            .next { s with
              link := { s.link with ldir := false, lfrm := true, lstb := true, ld := none, withheld := some x } }) ∧
        (s.link.phase ≠ .holding →
          exec (.linkStrobe true lfrm x) s =
            .next { s with link := { s.link with ldir := true, lfrm := lfrm, lstb := true } }) ∧
        (s.link.phase = .holding → s.link.readIndex + 1 < s.link.held.length →
          exec (.linkStrobe true lfrm x) s =
            .next { s with
              link :=
                { s.link with
                  ldir := true, lfrm := lfrm, lstb := true, lack := true, ld := s.link.held[s.link.readIndex]?
                  readIndex := s.link.readIndex + 1 } }) ∧
        (s.link.phase = .holding → s.link.readIndex + 1 = s.link.held.length → s.link.resetOnRead = false →
          exec (.linkStrobe true lfrm x) s =
            .next { s with
              link :=
                { s.link with
                  ldir := true, lfrm := lfrm, lstb := true, lack := true, ld := s.link.held[s.link.readIndex]?, phase := .idle
                  held := [], readIndex := 0, lrdy := false } }))) ∧
  (∀ s : State,
      (s.link.resetN = false → exec .strobeNegated s = .next s ∧ exec .lfrmRelease s = .next s) ∧
      (s.link.resetN = true →
        exec .strobeNegated s = .next { s with link := { s.link with lstb := false, lack := false, withheld := none } } ∧
        (s.link.phase ≠ .receiving →
          exec .lfrmRelease s = .next { s with link := { s.link with lfrm := false, lockout := false } }))) ∧
  (∀ (i : Instr) (s : State), i.isRequest = true →
      (s.link.resetN = false → exec i s = .next s) ∧
      (s.link.resetN = true → s.link.phase = .preparing ∨ s.link.lockout = true →
        exec i s = .next { s with link := { s.link with lfrm := false, lockout := false } }))

/-- RESET PART answers DONE and every block runs on. The part reset comes at the read of its last byte, at a new frame before that, at a
fall of RESET_N, at power-on. A rise of RESET_N lets the link take strobes again.
POWER_ON as a fall of RESET_N that keeps the lines and the queue is the model's choice: log entries 7, 35. So are the fields of a bay
without a stated reset value, the button seen false and its stopped level timer, log entries 8, 12, 13, and the lines behind the strobe
that performs the reset, LACK negated and LD empty, log entry 39. -/
def Obligations.PartResetResetsEveryBlock : Prop :=
  (∀ s : State, LinkTakes (frameOf .resetPart) s → AttnExact s →
      exec .resetPart s =
        .next { s with link := { Link.answered [1, 56, 0, 0] s.link.attn with resetOnRead := true } }) ∧
  (∀ (s : State) (lfrm : Bool) (x : Byte),
      exec .resetNFall s = .next (s.atReset false false) ∧ exec .powerOn s = .next (s.atReset false false) ∧
      (s.link.resetN = true → s.link.phase = .holding → s.link.resetOnRead = true → s.link.lockout = false →
        (s.link.readIndex + 1 = s.link.held.length →
          exec (.linkStrobe true lfrm x) s =
            .next (State.atReset { s with link := { s.link with ldir := true, lfrm := lfrm, lstb := true } } true lfrm)) ∧
        exec (.linkStrobe false true x) s =
          .next (State.atReset { s with link := { s.link with ldir := false, lfrm := true, lstb := true } } true true)) ∧
      (s.link.resetN = false →
        After (exec (.resetNRise lfrm) s) fun t =>
          t = { s with link := { s.link with resetN := true, lfrm := lfrm, lockout := lfrm, attn := attnDue t } }))

/-! ## Operation requests -/

/-- An accepted operation behind a busy or halted scheduler stands at the tail of its bay's queue under the counter's tag, the reply is
QUEUED with that tag, the counter goes on to the next tag that no occupied slot holds, and nothing else changes. -/
def Obligations.AcceptedOperationIsQueued : Prop :=
  ∀ (c : Instr) (b : Bay) (k : OpKind) (s : State), operationOf c = some (b, k) → LinkTakes (frameOf c) s → Settled s →
    PoolBounded s → OpAccepted b k s → mayTake (s.bay b).sched = false →
    After (exec c s) fun t =>
      t = State.answer [2, byteOf k.code, toBay b, 1, byteOf s.nextTag]
        ((s.modSched b fun x => { x with queue := x.queue ++ [⟨s.nextTag, k⟩] }).setNextTag t.nextTag) ∧
      ∃ n, t.nextTag = tagSteps (n + 1) s.nextTag ∧ t.nextTag ∉ heldTags t ∧ ∀ i < n, tagSteps (i + 1) s.nextTag ∈ heldTags t

/-- An operation request that fails one of the checks 3 to 6 is refused with the reason of the first that fails, and nothing else
happens. -/
def Obligations.UnacceptableOperationIsRefused : Prop :=
  ∀ (c : Instr) (b : Bay) (k : OpKind) (s : State), operationOf c = some (b, k) → LinkTakes (frameOf c) s → AttnExact s →
    (¬SeekFits b k s → exec c s = .next (s.refusedAs (byteOf k.code) (toBay b) .badValue)) ∧
    (SeekFits b k s →
      ((s.bay b).cart.state = .empty ∨ (s.bay b).cart.state = .seating →
        exec c s = .next (s.refusedAs (byteOf k.code) (toBay b) .noCartridge)) ∧
      ((s.bay b).cart.state = .releasePending ∨ (s.bay b).cart.state = .ejecting →
        exec c s = .next (s.refusedAs (byteOf k.code) (toBay b) .ejectPending)) ∧
      ((s.bay b).cart.state = .jammed → k ≠ .eject → exec c s = .next (s.refusedAs (byteOf k.code) (toBay b) .wrongState)) ∧
      ((s.bay b).cart.state = .seated ∨ (s.bay b).cart.state = .jammed → k = .eject → (s.bay b).cart.prevent = true →
        exec c s = .next (s.refusedAs (byteOf k.code) (toBay b) .prevented)) ∧
      ((s.bay b).cart.state = .seated ∨ (s.bay b).cart.state = .jammed ∧ k = .eject →
        (k = .eject → (s.bay b).cart.prevent = false) →
        (if 2 ≤ slotsHeld (s.bay b.other).sched then 8 else 12) ≤ slotsHeld (s.bay b).sched ∨
          16 ≤ slotsHeld s.bayA.sched + slotsHeld s.bayB.sched →
        exec c s = .next (s.refusedAs (byteOf k.code) (toBay b) .queueFull)))

/-- The operations that complete at their taking, by the state of the bay: record, scheduler, window, reply, and nothing moved. -/
def Obligations.OperationsThatCompleteAtTheirTaking : Prop :=
  ∀ (c : Instr) (b : Bay) (k : OpKind) (o : OpOutcome) (s : State), operationOf c = some (b, k) → LinkTakes (frameOf c) s →
    Settled s → OpAccepted b k s → SchedFree (s.bay b).sched → (s.bay b).pins.wgate = false → atTaking k (s.bay b) = some o →
    After (exec c s) fun t =>
      t = { s with bayA := t.bayA, bayB := t.bayB, completions := t.completions, nextTag := t.nextTag, link := t.link,
                   partCnt := t.partCnt } ∧
      t.bay b.other = s.bay b.other ∧
      t.bay b = { s.bay b with cart := (t.bay b).cart, gate := (t.bay b).gate, sched := (s.bay b).sched.through } ∧
      (s.bay b).cart.sameButLamp (t.bay b).cart ∧
      (t.bay b).gate.window = (match k with
        | .openWrite => (s.bay b).gate.window || o = .success
        | .closeWrite | .spinDown | .unloadHeads | .seek .. => false
        | _ => (s.bay b).gate.window) ∧
      (t.bay b).gate.qualified = (s.bay b).gate.qualified ∧ (t.bay b).gate.held = (s.bay b).gate.held ∧
      t.completions = recorded s.completions
        { tag := s.nextTag, bay := b, op := k, outcome := o,
          detail := match k, o with
            | .spinUp, _ => some (s.bay b).spin.attempt
            | .loadHeads, .success => some (s.bay b).pos.target
            | .seek track _, .success => some track
            | _, _ => none } ∧
      t.link = Link.answered [2, byteOf k.code, toBay b, 1, byteOf s.nextTag] (attnDue t)

/-- A SPIN UP taken in STOPPED asks for 180 as attempt 1: it aligns at a grant, waits for it, or fails NO_BUDGET. In BRAKING it waits
under the start mark. In FAULT, or in STOPPED under overcurrent, it fault-halts the bay. -/
def Obligations.SpinUpByTheSpindleState : Prop :=
  (∀ (b : Bay) (s : State), LinkTakes (frameOf (.spinUp b)) s → Settled s → OpAccepted b .spinUp s → SchedFree (s.bay b).sched →
      (s.bay b).spin.state = .stopped → (s.bay b).mon.overcurrent = false →
      ((s.bay b).cart.media.any fun m => m.kind = .unrecognised) = false → s.ledger.waits (.spindle b) = false →
      (s.bay b).pos.pending ≠ .load →
      After (exec (.spinUp b) s) fun t =>
        t = { s with bayA := t.bayA, bayB := t.bayB, completions := t.completions, ledger := t.ledger, nextTag := t.nextTag,
                     link := t.link, partCnt := t.partCnt } ∧
        t.bay b.other = s.bay b.other ∧
        t.bay b = { s.bay b with cart := (t.bay b).cart, spin := (t.bay b).spin, sched := (t.bay b).sched } ∧
        (s.bay b).cart.sameButLamp (t.bay b).cart ∧ (t.bay b).spin.attempt = 1 ∧
        t.link.held = [2, 1, toBay b, 1, byteOf s.nextTag] ∧
        (if s.ledger.capacity < 180 then
          (t.bay b).spin.state = .stopped ∧ t.ledger = s.ledger ∧ (t.bay b).sched = (s.bay b).sched.through ∧
            t.completions = recorded s.completions ⟨s.nextTag, b, .spinUp, .failed .noBudget, some 1⟩
        else
          t.completions = s.completions ∧ (t.bay b).sched = (s.bay b).sched.holding ⟨s.nextTag, .spinUp⟩ ∧
          (if s.ledger.wait = [] ∧ s.ledger.sum - s.hold (.spindle b) + 180 ≤ s.ledger.effective then
            t.ledger = s.ledger.setHold (.spindle b) 180 ∧ (t.bay b).spin.state = .aligning ∧ (t.bay b).spin.drive = 60 ∧
              (t.bay b).spin.phases = .fixed ∧ (t.bay b).spin.stageTimer = some 500000
          else
            t.ledger = { s.ledger with wait := s.ledger.wait ++ [⟨.spindle b, .fixed 180⟩] } ∧
              (t.bay b).spin.state = .waitPower ∧ (t.bay b).spin.drive = 0))) ∧
  (∀ (b : Bay) (s : State), LinkTakes (frameOf (.spinUp b)) s → Settled s → OpAccepted b .spinUp s → SchedFree (s.bay b).sched →
      ((s.bay b).cart.media.any fun m => m.kind = .unrecognised) = false → s.ledger.waits (.spindle b) = false →
        (s.bay b).pos.pending ≠ .load →
      After (exec (.spinUp b) s) fun t =>
        ((s.bay b).spin.state = .braking →
          (t.bay b).spin = { (s.bay b).spin with startMark := true } ∧ t.completions = s.completions ∧ t.ledger = s.ledger ∧
            (t.bay b).sched = (s.bay b).sched.holding ⟨s.nextTag, .spinUp⟩ ∧ (t.bay b).gate = (s.bay b).gate) ∧
        ((s.bay b).spin.state = .fault →
          (t.bay b).spin = (s.bay b).spin ∧ t.ledger = s.ledger ∧ (t.bay b).sched = (s.bay b).sched.faulted .spinFail ∧
            t.completions =
              recorded s.completions ⟨s.nextTag, b, .spinUp, .failed .spinFail, some (s.bay b).spin.attempt⟩ ∧
            (t.bay b).gate.window = false) ∧
        ((s.bay b).spin.state = .stopped → (s.bay b).mon.overcurrent = true →
          (t.bay b).spin.state = .fault ∧ (t.bay b).spin.sbrk = true ∧ t.ledger = s.ledger ∧
            (t.bay b).sched = (s.bay b).sched.faulted .overcurrent ∧
            t.completions =
              recorded s.completions ⟨s.nextTag, b, .spinUp, .failed .overcurrent, some (s.bay b).spin.attempt⟩ ∧
            (t.bay b).gate.window = false) ∧
        (t.bay b).pos = (s.bay b).pos ∧ t.bay b.other = s.bay b.other ∧
        t.link.held = [2, 1, toBay b, 1, byteOf s.nextTag])

/-- A SPIN DOWN taken over a turning spindle closes the window and gives the brake order: with the heads off it brakes at once and
releases its reservation, with the heads loaded they are unloaded first and the order waits. -/
def Obligations.SpinDownBrakes : Prop :=
  ∀ (b : Bay) (s : State), LinkTakes (frameOf (.spinDown b)) s → Settled s → OpAccepted b .spinDown s → SchedFree (s.bay b).sched →
    (s.bay b).spin.state.regulated = true → (s.bay b).pins.park = false ∨ (s.bay b).pos.state.loaded = false → s.ledger.wait = [] →
    (s.bay b).pos.pending = .none →
    After (exec (.spinDown b) s) fun t =>
      (t.bay b).sched = (s.bay b).sched.holding ⟨s.nextTag, .spinDown⟩ ∧ (t.bay b).gate.window = false ∧
      t.completions = s.completions ∧ t.bay b.other = s.bay b.other ∧
      t.link.held = [2, 2, toBay b, 1, byteOf s.nextTag] ∧
      (if (s.bay b).pos.state.defersBrake then
        (t.bay b).spin = { (s.bay b).spin with brakeMark := true, speedLost := (t.bay b).spin.speedLost } ∧
          (t.bay b).pos.state = .unloading ∧ t.hold (.spindle b) = s.hold (.spindle b)
      else
        (t.bay b).spin.state = .braking ∧ (t.bay b).spin.purpose = some .stop ∧ (t.bay b).spin.drive = 0 ∧
          (t.bay b).spin.phases = .off ∧ (t.bay b).spin.sbrk = true ∧ (t.bay b).spin.brakeLimit = some 10000000 ∧
          (t.bay b).spin.tachTimer = some 500000 ∧ t.ledger = s.ledger.setHold (.spindle b) 0 ∧ (t.bay b).pos = (s.bay b).pos)

/-- A LOAD HEADS taken in PARKED over a LOCKED spindle begins a load wait with a request for 30; with the 30 granted and the reserve
qualified LOADING is entered at once. -/
def Obligations.LoadHeadsFromParked : Prop :=
  ∀ (b : Bay) (s : State), LinkTakes (frameOf (.loadHeads b)) s → Settled s → OpAccepted b .loadHeads s →
    SchedFree (s.bay b).sched → (s.bay b).pos.state = .parked → (s.bay b).spin.state = .locked → s.ledger.wait = [] →
    30 ≤ s.ledger.capacity → s.hold (.actuator b) = 0 →
    After (exec (.loadHeads b) s) fun t =>
      t = { s with bayA := t.bayA, bayB := t.bayB, sau := t.sau, ledger := t.ledger, nextTag := t.nextTag, link := t.link } ∧
      t.bay b.other = s.bay b.other ∧ (t.bay b).sched = (s.bay b).sched.holding ⟨s.nextTag, .loadHeads⟩ ∧
      t.link.held = [2, 3, toBay b, 1, byteOf s.nextTag] ∧
      (if s.ledger.effective < s.ledger.sum + 30 then
        (t.bay b).pos = { (s.bay b).pos with pending := .load, loadWait := some 2000000 } ∧
          t.ledger = { s.ledger with wait := [⟨.actuator b, .fixed 30⟩] }
      else
        t.ledger = s.ledger.setHold (.actuator b) 30 ∧
        (if (s.bay b).mon.qualified then
          (t.bay b).pos.state = .loading ∧ (t.bay b).pos.act = 25 ∧ (t.bay b).pos.source = .rail ∧ (t.bay b).pos.head = 0 ∧
            (t.bay b).pos.hsel = 0 ∧ (t.bay b).pos.servoLost = 0 ∧ (t.bay b).pos.recovery = 0 ∧
            (t.bay b).pos.loadTimer = some 300000 ∧ (t.bay b).pos.loadWait = none ∧ (t.bay b).pos.pending = .none ∧
            (t.bay b).servo =
              { (s.bay b).servo with v := 0, fresh := true, lastValid := none, lastNum := none, k := 0, lastOk := false } ∧
            (t.bay b).slot = none
        else
          (t.bay b).pos =
            { (s.bay b).pos with
              pending := .load, loadWait := some 2000000, act := clampInt (-30) 30 (s.bay b).pos.act }))

/-- A SEEK taken in FOLLOWING on another track or head, or in SETTLING, asks for 60 to 100 units: at the grant it seeks, else it is pending
in its state. One taken in SETTLING on its own track and head restarts the seek timer and owns the settle. One taken while a recovery
request waits takes its place in the list.
The owner of a settle whose own track and head a SEEK names is the model's inference: log entry 15. -/
def Obligations.SeekFromFollowing : Prop :=
  (∀ (b : Bay) (track : BitVec 16) (head : Byte) (s : State), LinkTakes (frameOf (.seek b track head)) s → Settled s →
      OpAccepted b (.seek track.toNat head.toNat) s → SchedFree (s.bay b).sched → (s.bay b).pos.state = .following →
      track.toNat ≠ (s.bay b).pos.target ∨ head.toNat ≠ (s.bay b).pos.head → s.ledger.wait = [] → 60 ≤ s.ledger.capacity →
      After (exec (.seek b track head) s) fun t =>
        (t.bay b).sched = (s.bay b).sched.holding ⟨s.nextTag, .seek track.toNat head.toNat⟩ ∧ (t.bay b).gate.window = false ∧
        (t.bay b).spin = (s.bay b).spin ∧ t.bay b.other = s.bay b.other ∧ t.completions = s.completions ∧
        t.link.held = [2, 5, toBay b, 1, byteOf s.nextTag] ∧
        (if s.ledger.sum - s.hold (.actuator b) + 60 ≤ s.ledger.effective then
          t.ledger =
            s.ledger.setHold (.actuator b) (min 100 (s.ledger.effective + s.hold (.actuator b) - s.ledger.sum)) ∧
          (t.bay b).pos.state = .seeking ∧ (t.bay b).pos.target = track.toNat ∧ (t.bay b).pos.head = head.toNat ∧
          (t.bay b).pos.owner = .operation ∧ (t.bay b).pos.pending = .none ∧ (t.bay b).pos.seekTimer = some 150000 ∧
          (t.bay b).pos.settle = 0 ∧ (t.bay b).pos.offTrack = 0 ∧ (t.bay b).pos.clean = 0 ∧
          (t.bay b).pos.recovery = (s.bay b).pos.recovery ∧ (t.bay b).gate.qualified = false ∧
          (t.bay b).servo =
            (if head.toNat = (s.bay b).pos.head then (s.bay b).servo
            else { (s.bay b).servo with v := 0, fresh := true, lastValid := none, lastNum := none, k := 0, lastOk := false })
        else
          t.ledger = { s.ledger with wait := [⟨.actuator b, .ranged 60 100⟩] } ∧ (t.bay b).servo = (s.bay b).servo ∧
          (t.bay b).pos =
            { (s.bay b).pos with pending := .seek track.toNat head.toNat, offTrack := 0, clean := 0 })) ∧
  (∀ (b : Bay) (track : BitVec 16) (head : Byte) (s : State), LinkTakes (frameOf (.seek b track head)) s → Settled s → HeadsRegulated s →
      OpAccepted b (.seek track.toNat head.toNat) s → SchedFree (s.bay b).sched → (s.bay b).pos.state = .settling →
      After (exec (.seek b track head) s) fun t =>
        (t.bay b).sched = (s.bay b).sched.holding ⟨s.nextTag, .seek track.toNat head.toNat⟩ ∧ (t.bay b).gate.window = false ∧
        (t.bay b).spin = (s.bay b).spin ∧ t.completions = s.completions ∧ t.link.held = [2, 5, toBay b, 1, byteOf s.nextTag] ∧
        (track.toNat = (s.bay b).pos.target → head.toNat = (s.bay b).pos.head →
          (t.bay b).pos = { (s.bay b).pos with seekTimer := some 150000, owner := .operation } ∧ t.ledger = s.ledger ∧
          t.bay b.other = s.bay b.other ∧ (t.bay b).servo = (s.bay b).servo) ∧
        (track.toNat ≠ (s.bay b).pos.target ∨ head.toNat ≠ (s.bay b).pos.head → s.ledger.wait = [] → 60 ≤ s.ledger.capacity →
          t.bay b.other = s.bay b.other ∧
          (if s.ledger.sum - s.hold (.actuator b) + 60 ≤ s.ledger.effective then
            t.ledger =
              s.ledger.setHold (.actuator b) (min 100 (s.ledger.effective + s.hold (.actuator b) - s.ledger.sum)) ∧
            (t.bay b).pos.state = .seeking ∧ (t.bay b).pos.target = track.toNat ∧ (t.bay b).pos.head = head.toNat ∧
            (t.bay b).pos.owner = .operation ∧ (t.bay b).pos.pending = .none ∧ (t.bay b).pos.seekTimer = some 150000
          else
            t.ledger = { s.ledger with wait := [⟨.actuator b, .ranged 60 100⟩] } ∧
            (t.bay b).pos = { (s.bay b).pos with pending := .seek track.toNat head.toNat, offTrack := 0, clean := 0 }))) ∧
  (∀ (b : Bay) (track : BitVec 16) (head : Byte) (s : State), LinkTakes (frameOf (.seek b track head)) s → Settled s →
      WaitDistinct s → OpAccepted b (.seek track.toNat head.toNat) s → SchedFree (s.bay b).sched →
      (s.bay b).pos.state = .following → (s.bay b).pos.pending = .recovery →
      track.toNat ≠ (s.bay b).pos.target ∨ head.toNat ≠ (s.bay b).pos.head → 60 ≤ s.ledger.capacity →
      (⟨.actuator b, .ranged 60 100⟩ : WaitEntry) ∈ s.ledger.wait →
      (∀ e, s.ledger.wait.head? = some e → s.ledger.effective < s.ledger.sum - s.hold e.who + e.req.need) →
      After (exec (.seek b track head) s) fun t =>
        t.ledger = s.ledger ∧ (t.bay b).sched = (s.bay b).sched.holding ⟨s.nextTag, .seek track.toNat head.toNat⟩ ∧
        (t.bay b).pos = { (s.bay b).pos with pending := .seek track.toNat head.toNat, offTrack := 0, clean := 0 } ∧
        (t.bay b).gate.window = false ∧ t.completions = s.completions ∧ t.bay b.other = s.bay b.other)

/-- An UNLOAD HEADS taken with the heads loaded, PARK being false: the window closes and the positioner is UNLOADING at -25 on at most
60 units, the SAU's work of the bay dropped. -/
def Obligations.UnloadHeadsFromLoaded : Prop :=
  ∀ (b : Bay) (s : State), LinkTakes (frameOf (.unloadHeads b)) s → Settled s → OpAccepted b .unloadHeads s →
    SchedFree (s.bay b).sched → (s.bay b).pos.state.loaded = true → (s.bay b).pins.park = false → s.ledger.wait = [] →
    (s.bay b).spin.brakeMark = false → (s.bay b).spin.state.regulated = true →
    After (exec (.unloadHeads b) s) fun t =>
      (t.bay b).pos =
        { (s.bay b).pos with
          state := .unloading, act := -25, source := .rail, owner := .none, pending := .none, loadWait := none, loadTimer := none,
          seekTimer := none, unloadTimer := some 500000 } ∧
      t.ledger = (if 60 < s.hold (.actuator b) then s.ledger.setHold (.actuator b) 60 else s.ledger) ∧
      (t.bay b).sched = (s.bay b).sched.holding ⟨s.nextTag, .unloadHeads⟩ ∧ (t.bay b).gate.window = false ∧
      (t.bay b).gate.qualified = false ∧ (t.bay b).slot = none ∧ (t.bay b).servo = (s.bay b).servo ∧
      (∀ x : Computation, t.sau = some x → x.bay = b → x.discard = true) ∧
      (t.bay b).spin = { (s.bay b).spin with speedLost := none } ∧ t.bay b.other = s.bay b.other ∧
      t.completions = s.completions ∧ t.link.held = [2, 4, toBay b, 1, byteOf s.nextTag]

/-- An EJECT with the mechanisms at rest asks for 120: the pulse starts at the grant, or the release waits, or it is abandoned NO_BUDGET.
With loaded heads it unloads them and waits; with the heads off it brakes a turning spindle and waits. -/
def Obligations.EjectAtRest : Prop :=
  (∀ (b : Bay) (s : State), LinkTakes (frameOf (.eject b)) s → Settled s → OpAccepted b .eject s → SchedFree (s.bay b).sched →
      atRest b s = true → s.ledger.waits (.latch b) = false → (s.bay b).pins.wgate = false →
      After (exec (.eject b) s) fun t =>
        t.bay b.other = s.bay b.other ∧ (t.bay b).spin = (s.bay b).spin ∧ (t.bay b).pos = (s.bay b).pos ∧
        (t.bay b).cart.media = (s.bay b).cart.media ∧ (t.bay b).gate.window = false ∧
        t.link.held = [2, 8, toBay b, 1, byteOf s.nextTag] ∧
        (if s.ledger.capacity < 120 then
          (t.bay b).cart.state = .seated ∧ (t.bay b).cart.pulseCount = 0 ∧ t.ledger = s.ledger ∧
            t.completions = recorded s.completions ⟨s.nextTag, b, .eject, .failed .noBudget, none⟩ ∧
            (t.bay b).sched = (s.bay b).sched.through
        else
          t.completions = s.completions ∧ (t.bay b).sched = (s.bay b).sched.holding ⟨s.nextTag, .eject⟩ ∧
          (t.bay b).cart.lampMode = .steady ∧
          (if s.ledger.wait = [] ∧ s.ledger.sum - s.hold (.latch b) + 120 ≤ s.ledger.effective then
            t.ledger = s.ledger.setHold (.latch b) 120 ∧ (t.bay b).cart.state = .ejecting ∧
              (t.bay b).cart.phase = some .pulse ∧ (t.bay b).cart.latch = true ∧ (t.bay b).cart.pulseCount = 1 ∧
              (t.bay b).cart.pulseTimer = some 80000
          else
            t.ledger = { s.ledger with wait := s.ledger.wait ++ [⟨.latch b, .fixed 120⟩] } ∧
              (t.bay b).cart.state = .releasePending ∧ (t.bay b).cart.pulseCount = 0))) ∧
  (∀ (b : Bay) (s : State), LinkTakes (frameOf (.eject b)) s → Settled s → OpAccepted b .eject s → SchedFree (s.bay b).sched →
      (s.bay b).pos.state.defersBrake = true → (s.bay b).spin.state.regulated = true → (s.bay b).pins.park = false →
      s.ledger.wait = [] → (s.bay b).pins.wgate = false →
      After (exec (.eject b) s) fun t =>
        (t.bay b).cart.state = .releasePending ∧ (t.bay b).cart.pulseCount = 0 ∧ (t.bay b).cart.lampMode = .steady ∧
        (t.bay b).cart.media = (s.bay b).cart.media ∧ (t.bay b).gate.window = false ∧ t.completions = s.completions ∧
        (t.bay b).sched = (s.bay b).sched.holding ⟨s.nextTag, .eject⟩ ∧ t.bay b.other = s.bay b.other ∧
        t.link.held = [2, 8, toBay b, 1, byteOf s.nextTag] ∧
        ((s.bay b).pos.state.loaded = true → (s.bay b).spin.brakeMark = false →
          (t.bay b).pos =
            { (s.bay b).pos with
              state := .unloading, act := -25, source := .rail, owner := .none, pending := .none, loadWait := none,
              loadTimer := none, seekTimer := none, unloadTimer := some 500000 } ∧
          (t.bay b).spin = { (s.bay b).spin with speedLost := none } ∧
          t.ledger = (if 60 < s.hold (.actuator b) then s.ledger.setHold (.actuator b) 60 else s.ledger)) ∧
        ((s.bay b).pos.state.loaded = false →
          (t.bay b).pos = (s.bay b).pos ∧ (t.bay b).spin = (s.bay b).spin ∧ t.ledger = s.ledger)) ∧
  (∀ (b : Bay) (s : State), LinkTakes (frameOf (.eject b)) s → Settled s → OpAccepted b .eject s → SchedFree (s.bay b).sched →
      atRest b s = false → s.ledger.wait = [] → (s.bay b).pins.wgate = false → (s.bay b).spin.state ≠ .waitPower →
      (s.bay b).pos.pending ≠ .load → (s.bay b).pos.state.defersBrake = false →
      After (exec (.eject b) s) fun t =>
        (t.bay b).cart.state = .releasePending ∧ (t.bay b).cart.pulseCount = 0 ∧ (t.bay b).cart.lampMode = .steady ∧
        (t.bay b).cart.media = (s.bay b).cart.media ∧ (t.bay b).gate.window = false ∧ t.completions = s.completions ∧
        (t.bay b).sched = (s.bay b).sched.holding ⟨s.nextTag, .eject⟩ ∧ t.bay b.other = s.bay b.other ∧
        (t.bay b).pos = (s.bay b).pos ∧ t.link.held = [2, 8, toBay b, 1, byteOf s.nextTag] ∧
        ((s.bay b).spin.state.turning = true →
          Braked (s.bay b).spin (t.bay b).spin ∧ t.ledger = s.ledger.setHold (.spindle b) 0) ∧
        ((s.bay b).spin.state.turning = false → (t.bay b).spin = (s.bay b).spin ∧ t.ledger = s.ledger))

/-! ## Bay control and configuration -/

/-- HALT BAY, RUN BAY and SET STEP MODE, by the scheduler state. RUN BAY from HALTED judges the next taking at once: with a queued operation
that completes at its taking it is recorded, with a SPIN UP the spindle starts on it; step mode halts the scheduler behind it. -/
def Obligations.HaltRunAndStepMode : Prop :=
  (∀ (b : Bay) (on : Bool) (s : State), Settled s →
      (LinkTakes (frameOf (.haltBay b)) s →
        exec (.haltBay b) s = .next (State.answer [1, 16, toBay b, 0] (s.modSched b fun x =>
          match x.state with
          | .running =>
            { x with state := if x.inflight.isSome then .halting else .halted, cause := some .request }
          | .halting => { x with cause := some .request }
          | .halted => x))) ∧
      (LinkTakes (frameOf (.runBay b)) s → (s.bay b).sched.queue = [] ∨ (s.bay b).sched.inflight.isSome = true →
        After (exec (.runBay b) s) fun t =>
          t = State.answer [1, 17, toBay b, 0] (s.setBay b
            { s.bay b with
              cart := (t.bay b).cart
              sched := { (s.bay b).sched with
                state := .running, cause := if (s.bay b).sched.state = .running then (s.bay b).sched.cause else none } }) ∧
          (s.bay b).cart.sameButLamp (t.bay b).cart) ∧
      (LinkTakes (frameOf (.setStepMode b on)) s →
        exec (.setStepMode b on) s = .next (State.answer [1, 18, toBay b, 0] (s.modSched b fun x => { x with step := on })))) ∧
  (∀ (b : Bay) (op : Op) (rest : List Op) (s : State), LinkTakes (frameOf (.runBay b)) s → Settled s →
      (s.bay b).sched.state = .halted → (s.bay b).sched.inflight = none → (s.bay b).sched.queue = op :: rest →
      (∀ o, atTaking op.kind (s.bay b) = some o → (s.bay b).sched.step = true ∨ rest = [] → (s.bay b).pins.wgate = false →
        After (exec (.runBay b) s) fun t =>
          t.bay b.other = s.bay b.other ∧ t.ledger = s.ledger ∧ t.link.held = [1, 17, toBay b, 0] ∧
          t.bay b =
            { s.bay b with
              cart := (t.bay b).cart, gate := (t.bay b).gate
              sched :=
                { (s.bay b).sched with
                  queue := rest, state := if (s.bay b).sched.step then .halted else .running
                  cause := if (s.bay b).sched.step then some .step else none } } ∧
          (s.bay b).cart.sameButLamp (t.bay b).cart ∧
          (t.bay b).gate.window =
            (match op.kind with
            | .openWrite => (s.bay b).gate.window || o = .success
            | .closeWrite | .spinDown | .unloadHeads | .seek .. => false
            | _ => (s.bay b).gate.window) ∧
          t.completions = recorded s.completions
            { tag := op.tag, bay := b, op := op.kind, outcome := o,
              detail := match op.kind, o with
                | .spinUp, _ => some (s.bay b).spin.attempt
                | .loadHeads, .success => some (s.bay b).pos.target
                | .seek track _, .success => some track
                | _, _ => none }) ∧
      (op.kind = .spinUp → ((s.bay b).cart.media.any fun m => m.kind = .unrecognised) = false →
        s.ledger.waits (.spindle b) = false → (s.bay b).pos.pending ≠ .load → (s.bay b).cart.state = .seated →
        (s.bay b).spin.state = .braking ∨
          (s.bay b).spin.state = .stopped ∧ (s.bay b).mon.overcurrent = false ∧ 180 ≤ s.ledger.capacity →
        After (exec (.runBay b) s) fun t =>
          t.bay b.other = s.bay b.other ∧ t.completions = s.completions ∧ t.link.held = [1, 17, toBay b, 0] ∧
          (t.bay b).sched =
            { (s.bay b).sched with
              queue := rest, inflight := some op, state := if (s.bay b).sched.step then .halting else .running
              cause := if (s.bay b).sched.step then some .step else none } ∧
          (if (s.bay b).spin.state = .braking then
            (t.bay b).spin = { (s.bay b).spin with startMark := true } ∧ t.ledger = s.ledger
          else if s.ledger.wait = [] ∧ s.ledger.sum - s.hold (.spindle b) + 180 ≤ s.ledger.effective then
            (t.bay b).spin.state = .aligning ∧ (t.bay b).spin.attempt = 1 ∧ t.ledger = s.ledger.setHold (.spindle b) 180
          else
            (t.bay b).spin.state = .waitPower ∧ (t.bay b).spin.attempt = 1 ∧
              t.ledger = { s.ledger with wait := s.ledger.wait ++ [⟨.spindle b, .fixed 180⟩] })))

/-- ABORT BAY cancels the queue, oldest first, counts it in the reply and names the tag still in flight. With no SPIN UP, LOAD HEADS or
SEEK in flight nothing else changes; a SEEK that seeks or settles goes on to the nearest track, as ABORTED, one
whose request waits ends at once; a load wait ends at once, LOADING and ACQUIRING unload; a SPIN UP waiting for power ends at once, one
being driven brakes, one in BRAKING loses its start mark.
The clamp to 611 without a last track is the model's choice: log entry 17. -/
def Obligations.AbortBayCancelsAndStops : Prop :=
  (∀ (b : Bay) (s : State), LinkTakes (frameOf (.abortBay b)) s → Settled s →
      (∀ op, (s.bay b).sched.inflight = some op → op.kind = .spinDown ∨ op.kind = .unloadHeads ∨ op.kind = .eject) →
      After (exec (.abortBay b) s) fun t =>
        t = { s with bayA := t.bayA, bayB := t.bayB, completions := t.completions, link := t.link,
                     partCnt := { s.partCnt with completionOverwrites := t.partCnt.completionOverwrites } } ∧
        t.bay b.other = s.bay b.other ∧ t.bay b = { s.bay b with sched := { (s.bay b).sched with queue := [] } } ∧
        t.completions = recordedAll s.completions ((s.bay b).sched.queue.map fun op =>
          { tag := op.tag, bay := b, op := op.kind, outcome := .cancelled,
            detail := if op.kind = .spinUp then some (s.bay b).spin.attempt else none }) ∧
        t.link = Link.answered
          [1, 19, toBay b, 2, byteOf (s.bay b).sched.queue.length, byteOf (((s.bay b).sched.inflight.map Op.tag).getD 0)]
          (attnDue t)) ∧
  (∀ (b : Bay) (s : State) (op : Op), LinkTakes (frameOf (.abortBay b)) s → Settled s → (s.bay b).sched.inflight = some op →
      After (exec (.abortBay b) s) fun t =>
        ((s.bay b).pos.state = .seeking → (s.bay b).pos.pending = .none → op.kind.isSeek = true →
          (t.bay b).pos =
            { (s.bay b).pos with
              state := .settling, seekTimer := none, settle := 0, owner := .aborted,
              target := (clampInt 0 ((((s.bay b).cart.media.bind Media.lastTrack).getD 611 : Nat) : Int)
                (nearest (s.bay b).servo.P 64)).toNat } ∧
          t.ledger = s.ledger ∧ (t.bay b).sched.inflight = some op ∧ (t.bay b).sched.queue = []) ∧
        (((s.bay b).spin.state = .aligning ∨ (s.bay b).spin.state = .ramping ∨ (s.bay b).spin.state = .locking) →
          op.kind = .spinUp → (s.bay b).pos.pending ≠ .load → (s.bay b).cart.phase ≠ some .pulse →
          (t.bay b).spin.state = .braking ∧ (t.bay b).spin.purpose = some .stop ∧ (t.bay b).spin.drive = 0 ∧
            (t.bay b).spin.sbrk = true ∧ (t.bay b).spin.stageTimer = none ∧ (t.bay b).sched.inflight = some op ∧
            (t.bay b).sched.queue = [] ∧ (s.ledger.wait = [] → t.ledger = s.ledger.setHold (.spindle b) 0))) ∧
  (∀ (b : Bay) (s : State) (op : Op), LinkTakes (frameOf (.abortBay b)) s → Settled s → (s.bay b).cart.state = .seated →
      (s.bay b).sched.inflight = some op →
      After (exec (.abortBay b) s) fun t =>
        (t.bay b).sched.queue = [] ∧
        t.link.held =
          [1, 19, toBay b, 2, byteOf (s.bay b).sched.queue.length, byteOf (((t.bay b).sched.inflight.map Op.tag).getD 0)] ∧
        (op.kind = .loadHeads → (s.bay b).pos.state = .parked → (s.bay b).pos.pending = .load →
          (t.bay b).pos = { (s.bay b).pos with pending := .none, loadWait := none } ∧ t.hold (.actuator b) = 0 ∧
          t.ledger.waits (.actuator b) = false ∧ (t.bay b).sched.inflight = none ∧
          t.completions =
            recordedAll s.completions (cancelRecords b (s.bay b) ++ [⟨op.tag, b, .loadHeads, .cancelled, none⟩])) ∧
        (op.kind = .loadHeads → (s.bay b).pos.state = .loading ∨ (s.bay b).pos.state = .acquiring → (s.bay b).pins.park = false →
          (t.bay b).pos =
            { (s.bay b).pos with
              state := .unloading, act := -25, source := .rail, owner := .none, pending := .none, loadWait := none, loadTimer := none,
              seekTimer := none, unloadTimer := some 500000 } ∧
          (t.bay b).sched.inflight = some op ∧ t.completions = recordedAll s.completions (cancelRecords b (s.bay b))) ∧
        (∀ track head, (s.bay b).pos.pending = .seek track head → op.kind.isSeek = true →
          (s.bay b).pos.state = .following ∨ (s.bay b).pos.state = .settling →
          (t.bay b).pos = { (s.bay b).pos with pending := .none } ∧ t.ledger.waits (.actuator b) = false ∧
          t.hold (.actuator b) = s.hold (.actuator b) ∧ (t.bay b).sched.inflight = none ∧
          t.completions = recordedAll s.completions (cancelRecords b (s.bay b) ++ [⟨op.tag, b, op.kind, .cancelled, none⟩])) ∧
        (op.kind.isSeek = true → (s.bay b).pos.state = .settling → (s.bay b).pos.pending = .none →
          (t.bay b).pos =
            { (s.bay b).pos with
              seekTimer := none, owner := .aborted, target := (t.bay b).pos.target
              settle := if (t.bay b).pos.target = (s.bay b).pos.target then (s.bay b).pos.settle else 0 } ∧
          (t.bay b).pos.target =
            (clampInt 0 ((((s.bay b).cart.media.bind Media.lastTrack).getD 611 : Nat) : Int) (nearest (s.bay b).servo.P 64)).toNat ∧
          t.ledger = s.ledger ∧ (t.bay b).sched.inflight = some op ∧
          t.completions = recordedAll s.completions (cancelRecords b (s.bay b))) ∧
        (op.kind = .spinUp → (s.bay b).spin.state = .waitPower → (s.bay b).pos.pending ≠ .load →
          (t.bay b).spin.state = .stopped ∧ (t.bay b).spin.drive = 0 ∧ (t.bay b).spin.sbrk = false ∧
          (t.bay b).spin.startMark = false ∧ t.ledger.waits (.spindle b) = false ∧ (t.bay b).sched.inflight = none ∧
          t.completions =
            recordedAll s.completions
              (cancelRecords b (s.bay b) ++ [⟨op.tag, b, .spinUp, .cancelled, some (s.bay b).spin.attempt⟩])) ∧
        (op.kind = .spinUp → (s.bay b).spin.state = .braking →
          (t.bay b).spin =
            { (s.bay b).spin with
              purpose := if (s.bay b).spin.purpose = some .overcurrent then some .overcurrent else some .stop, startMark := false } ∧
          t.ledger = s.ledger ∧ (t.bay b).sched.inflight = some op ∧
          t.completions = recordedAll s.completions (cancelRecords b (s.bay b))))

/-- BAY RESET, whatever the state of the bay: the scheduler RUNNING without halt, step mode or queue, the window closed, prevent off, no
jam, heads off the platter, counts cleared, the brake purpose STOP; the settings, counts of attempts, tags and the other bay's
scheduler kept.
The order of its parts within the event is the model's choice: log entry 6. -/
def Obligations.BayResetMakesTheBaySafe : Prop :=
  ∀ (b : Bay) (s : State), LinkTakes (frameOf (.bayReset b)) s → Settled s → HeadsRegulated s →
    After (exec (.bayReset b) s) fun t =>
      (t.bay b).sched.state = .running ∧ (t.bay b).sched.cause = none ∧ (t.bay b).sched.step = false ∧
      (t.bay b).sched.queue = [] ∧ (t.bay b).sched.lastFault = (s.bay b).sched.lastFault ∧
      (t.bay b).gate.window = false ∧ (t.bay b).gate.held = (s.bay b).gate.held ∧
      (t.bay b).cart.prevent = false ∧
      (t.bay b).cart.media = (s.bay b).cart.media ∧ ((s.bay b).cart.state = .jammed → (t.bay b).cart.state = .seated) ∧
      (t.bay b).pos.state.loaded = false ∧ (t.bay b).pos.state ≠ .fault ∧ (t.bay b).pos.recovery = 0 ∧
      (t.bay b).pos.acquire = 0 ∧ (t.bay b).pos.settle = 0 ∧ (t.bay b).pos.offTrack = 0 ∧ (t.bay b).pos.clean = 0 ∧
      (t.bay b).pos.servoLost = 0 ∧ (t.bay b).pos.head = (s.bay b).pos.head ∧ (t.bay b).pos.target = (s.bay b).pos.target ∧
      (t.bay b).servo = (s.bay b).servo ∧ (t.bay b).gains = (s.bay b).gains ∧ (t.bay b).mon = (s.bay b).mon ∧
      (t.bay b).spin.trim = (s.bay b).spin.trim ∧ (t.bay b).spin.attempt = (s.bay b).spin.attempt ∧
      ((t.bay b).spin.state = .braking → (t.bay b).spin.purpose = some .stop) ∧
      (t.bay b).spin.state ≠ .fault ∧ (t.bay b.other).sched = (s.bay b.other).sched ∧
      t.ledger.capacity = s.ledger.capacity ∧ t.ledger.effective = s.ledger.effective ∧ t.profile = s.profile ∧
      t.sense = s.sense ∧ t.store = s.store ∧ t.supply = s.supply ∧ t.nextTag = s.nextTag ∧ t.refusals = s.refusals ∧
      t.events.mask = s.events.mask ∧
      t.link.held =
        [1, 20, toBay b, 2, byteOf (s.bay b).sched.queue.length,
         byteOf ((((s.bay b).sched.inflight.filter fun op => !endsAtReset op.kind (s.bay b)).map Op.tag).getD 0)]

/-- SET PREVENT sets the flag of a bay that holds a cartridge; SET TRIM clamps to -32..+31 and answers with the trim as taken; SET GAINS
clamps, replaces, and judges the permit against the new write limit. WRITE PROFILE replaces the whole table, or is refused BUSY while
a positioner seeks or settles.
That SET GAINS re-judges only a qualification that is set is the model's inference: log entry 18. That the reply carries each gain
in one byte is the model's inference too: log entry 21. That the WRITE PROFILE reply carries the sixteen values without a count byte is
its choice: log entry 42. -/
def Obligations.PreventTrimAndGainsAreSet : Prop :=
  (∀ (b : Bay) (on : Bool) (s : State), LinkTakes (frameOf (.setPrevent b on)) s → AttnExact s →
      exec (.setPrevent b on) s =
        if (s.bay b).cart.state = .empty ∨ (s.bay b).cart.state = .seating then .next (s.refusedAs 21 (toBay b) .noCartridge)
        else .next (State.answer [1, 21, toBay b, 0] (s.modCart b fun c => { c with prevent := on }))) ∧
  (∀ (b : Bay) (trim : Byte) (kv kp kd limit : BitVec 16) (s : State), AttnExact s → PermitExact s →
      (LinkTakes (frameOf (.setTrim b trim)) s →
        exec (.setTrim b trim) s =
          .next (State.answer ([1, 22, toBay b, 1] ++ [BitVec.ofInt 8 (max (-32) (min 31 trim.toInt))])
            (s.modSpin b fun x => { x with trim := max (-32) (min 31 trim.toInt) }))) ∧
      (LinkTakes (frameOf (.setGains b kv kp kd limit)) s →
        After (exec (.setGains b kv kp kd limit) s) fun t =>
          (t.bay b).gains =
            { kv := min 255 kv.toNat, kp := min 255 kp.toNat, kd := min 255 kd.toNat, limit := max 1 (min 48 limit.toNat) } ∧
          t = State.answer
            [1, 23, toBay b, 4, byteOf (t.bay b).gains.kv, byteOf (t.bay b).gains.kp, byteOf (t.bay b).gains.kd,
             byteOf (t.bay b).gains.limit]
            ({ s with events := t.events }.setBay b
              { s.bay b with gains := (t.bay b).gains, gate := (t.bay b).gate, cnt := (t.bay b).cnt }) ∧
          (t.bay b).gate.qualified = ((s.bay b).gate.qualified && (s.bay b).servo.pesValid &&
            decide ((s.bay b).servo.pes.natAbs ≤ (t.bay b).gains.limit)) ∧
          (if (s.bay b).gate.wperm = true ∧ (t.bay b).gate.qualified = false ∧ (s.bay b).pins.wgate = true then
            (t.bay b).gate.window = false ∧ (t.bay b).cnt.writeFaults = bump 65535 (s.bay b).cnt.writeFaults ∧
              t.events.latched = s.events.latched ||| 0x1000
          else (t.bay b).gate.window = (s.bay b).gate.window ∧ (t.bay b).cnt = (s.bay b).cnt ∧ t.events = s.events))) ∧
  (∀ (ds : List (BitVec 16)) (s : State), ds.length = 16 → LinkTakes (frameOf (.writeProfile ds)) s → AttnExact s →
      ((∃ b : Bay, (s.bay b).pos.state = .seeking ∨ (s.bay b).pos.state = .settling) →
        exec (.writeProfile ds) s = .next (s.refusedAs 33 0 .busy)) ∧
      ((∀ b : Bay, (s.bay b).pos.state ≠ .seeking ∧ (s.bay b).pos.state ≠ .settling) →
        exec (.writeProfile ds) s =
          .next (State.answer
            ([1, 33, 0, 32] ++ (ds.map fun d => min 1023 d.toNat).flatMap fun d => [byteOf (d / 256), byteOf d])
            { s with profile := ds.map fun d => min 1023 d.toNat })))

/-- SET BUDGET: refused IN_USE below the sum held; else C is the clamped value, E follows, entries above C have gone, and with nothing
waiting nothing else changes. A spindle waiting for 180 above C fails NO_BUDGET: STOPPED, its SPIN UP recorded, no halt.
With a spindle waiting at the head of the list, an accepted SET BUDGET grants it if 180 more fit, and then judges the entry behind it;
nothing is granted behind a head that does not fit. -/
def Obligations.SetBudgetSetsTheCapacity : Prop :=
  (∀ (c : BitVec 16) (s : State), LinkTakes (frameOf (.setBudget c)) s → Settled s →
      (max 100 (min 400 c.toNat) < s.ledger.sum → exec (.setBudget c) s = .next (s.refusedAs 32 0 .inUse)) ∧
      (s.ledger.sum ≤ max 100 (min 400 c.toNat) →
        After (exec (.setBudget c) s) fun t =>
          t.ledger.capacity = max 100 (min 400 c.toNat) ∧
          t.ledger.effective = (match s.supply.state with
            | .normal => max 100 (min 400 c.toNat)
            | .sag => 3 * max 100 (min 400 c.toNat) / 4
            | .fail => 0) ∧
          (∀ e ∈ t.ledger.wait, e.req.need ≤ max 100 (min 400 c.toNat)) ∧
          t.link.held = [1, 32, 0, 2, byteOf (max 100 (min 400 c.toNat) / 256), byteOf (max 100 (min 400 c.toNat))] ∧
          (s.ledger.wait = [] →
            t = State.answer [1, 32, 0, 2, byteOf (max 100 (min 400 c.toNat) / 256), byteOf (max 100 (min 400 c.toNat))]
              { s with
                ledger := { s.ledger with capacity := t.ledger.capacity, effective := t.ledger.effective } }))) ∧
  (∀ (b : Bay) (c : BitVec 16) (s : State) (op : Op), LinkTakes (frameOf (.setBudget c)) s → Settled s →
      s.ledger.wait = [⟨.spindle b, .fixed 180⟩] → c.toNat < 180 → s.ledger.sum ≤ max 100 c.toNat →
      (s.bay b).spin.state = .waitPower → (s.bay b).sched.inflight = some op → op.kind = .spinUp →
      (s.bay b).sched.state = .running → (s.bay b).sched.queue = [] →
      After (exec (.setBudget c) s) fun t =>
        t.ledger = { s.ledger with capacity := max 100 c.toNat, effective := t.ledger.effective, wait := [] } ∧
        t.bay b = { s.bay b with
          cart := (t.bay b).cart, spin := { (s.bay b).spin with state := .stopped }, gate := (t.bay b).gate,
          sched := { (s.bay b).sched with inflight := none } } ∧
        t.bay b.other = s.bay b.other ∧
        t.completions = recorded s.completions ⟨op.tag, b, .spinUp, .failed .noBudget, some (s.bay b).spin.attempt⟩) ∧
  (∀ (b : Bay) (c : BitVec 16) (rest : List WaitEntry) (s : State), LinkTakes (frameOf (.setBudget c)) s → Settled s →
      s.ledger.wait = ⟨.spindle b, .fixed 180⟩ :: rest → (s.bay b).spin.state = .waitPower → s.hold (.spindle b) = 0 →
      180 ≤ max 100 (min 400 c.toNat) → s.ledger.sum ≤ max 100 (min 400 c.toNat) →
      (∀ e ∈ rest, e.req.need ≤ max 100 (min 400 c.toNat)) →
      After (exec (.setBudget c) s) fun t =>
        (t.ledger.effective < s.ledger.sum + 180 →
          t.ledger = { s.ledger with capacity := t.ledger.capacity, effective := t.ledger.effective } ∧
          t.bayA = s.bayA ∧ t.bayB = s.bayB) ∧
        (s.ledger.sum + 180 ≤ t.ledger.effective →
          (t.bay b).spin =
            { (s.bay b).spin with
              state := .aligning, drive := 60, phases := .fixed, sbrk := false, stageTimer := some 500000 } ∧
          (rest = [] →
            t.ledger =
              { s.ledger.setHold (.spindle b) 180 with
                capacity := t.ledger.capacity, effective := t.ledger.effective, wait := [] } ∧
            t.bay b.other = s.bay b.other) ∧
          (rest = [⟨.spindle b.other, .fixed 180⟩] → (s.bay b.other).spin.state = .waitPower →
            s.hold (.spindle b.other) = 0 →
            (if s.ledger.sum + 360 ≤ t.ledger.effective then
              t.ledger =
                { (s.ledger.setHold (.spindle b) 180).setHold (.spindle b.other) 180 with
                  capacity := t.ledger.capacity, effective := t.ledger.effective, wait := [] } ∧
              (t.bay b.other).spin.state = .aligning
            else
              t.ledger =
                { s.ledger.setHold (.spindle b) 180 with
                  capacity := t.ledger.capacity, effective := t.ledger.effective, wait := rest } ∧
              t.bay b.other = s.bay b.other))))

/-- READ PROFILE, READ SENSE LIST, READ EVENTS and IDENTIFY answer DONE with their payloads and change nothing else. READ STATUS
carries every field of the record of a bay, or of the part, at its place.
The sixteen values without a count byte, the gains in one byte each, the ten entries of four bytes without a count byte: the model's,
log entries 42, 21, 20. -/
def Obligations.PlainReadsChangeNothing : Prop :=
  (∀ (b : Bay) (s : State), AttnExact s →
      (LinkTakes (frameOf (.readProfile .part)) s →
        exec (.readProfile .part) s =
          .next (State.answer ([1, 34, 0, byteOf (2 * s.profile.length)] ++ s.profile.flatMap fun d => [byteOf (d / 256), byteOf d])
            s)) ∧
      (LinkTakes (frameOf (.readProfile (.bay b))) s →
        exec (.readProfile (.bay b)) s =
          .next (State.answer
            ([1, 34, toBay b, byteOf (2 * s.profile.length + 4)] ++ (s.profile.flatMap fun d => [byteOf (d / 256), byteOf d]) ++
              [byteOf (s.bay b).gains.kv, byteOf (s.bay b).gains.kp, byteOf (s.bay b).gains.kd, byteOf (s.bay b).gains.limit]) s)) ∧
      (LinkTakes (frameOf .readEvents) s →
        After (exec .readEvents s) fun t =>
          t = State.answer [1, 50, 0, 2, byteOf ((pendingSet s).toNat % 8192 / 256), byteOf (pendingSet s).toNat] s ∧
          ∀ i < 16, (pendingSet s).getLsbD i = (s.events.latched.getLsbD i || (i = 0 && s.completions ≠ []) ||
            (i = 1 && s.bayA.sched.state = .halted && s.bayA.sched.cause = some .fault) ||
            (i = 2 && s.bayB.sched.state = .halted && s.bayB.sched.cause = some .fault))) ∧
      (LinkTakes (frameOf .identify) s →
        exec .identify s =
          .next (State.answer
            ([1, 48, 0, 25] ++ [7, 78, 79, 82, 68, 72, 69, 77] ++ [11, 86, 69, 76, 83, 74, 79, 32, 50, 50, 52, 48] ++
              [3, 2, 16, 8, 96]) s)) ∧
      (LinkTakes (frameOf .readSenseList) s →
        After (exec .readSenseList s) fun t =>
          t = State.answer t.link.held s ∧
          t.link.held.take 4 = [1, 36, 0, byteOf (4 * (s.sense.replacement.getD s.sense.active).length + 4)] ∧
          t.link.held.drop (4 + 4 * (s.sense.replacement.getD s.sense.active).length) =
            [byteOf s.sense.replacement.isSome.toNat, byteOf s.sense.halted.toNat, byteOf s.sense.interval,
             if s.store.mode = .image then 0 else 1] ∧
          ∀ i e, (s.sense.replacement.getD s.sense.active)[i]? = some (some e) →
            (t.link.held.drop (4 + 4 * i)).take 4 =
              [byteOf (6 + i), byteOf e.channel, byteOf e.gain,
               byteOf (e.endMark.toNat + 2 * e.haltMark.toNat + 4 * e.notifyMark.toNat)])) ∧
  (∀ (b : Bay) (s : State), AttnExact s →
      (LinkTakes (frameOf (.readStatus (.bay b))) s →
        After (exec (.readStatus (.bay b)) s) fun t =>
          t = State.answer t.link.held s ∧ t.link.held.length = 52 ∧ t.link.held.take 4 = [1, 49, toBay b, 48] ∧
          t.link.held[4]? = some (byteOf (s.bay b).cart.state.value) ∧
          (t.link.held.drop 5).take 7 =
            (match (s.bay b).cart.media with
            | none => [0, 0, 0, 0, 0, 0, 0]
            | some m =>
              [1, byteOf m.kind.value] ++
                (match m.lastTrack with
                | none => [0, 0, 0]
                | some n => [1, byteOf (n / 256), byteOf n]) ++
                [byteOf m.heads, byteOf m.writeProtected.toNat]) ∧
          t.link.held[12]? = some (byteOf (s.bay b).cart.prevent.toNat) ∧
          t.link.held[13]? = some (byteOf (s.bay b).spin.state.value) ∧ t.link.held[14]? = some (byteOf (s.bay b).spin.attempt) ∧
          (t.link.held.drop 15).take 4 =
            (match (s.bay b).spin.lastPeriod with
            | none => [0, 0, 0, 0]
            | some p => [1, byteOf (p / 65536), byteOf (p / 256), byteOf p]) ∧
          t.link.held[19]? = some (byteOf (s.bay b).spin.drive) ∧ t.link.held[20]? = some (byteOf (s.bay b).pos.state.value) ∧
          t.link.held[21]? = some (byteOf (s.bay b).pos.head) ∧
          (t.link.held.drop 22).take 2 = [byteOf ((s.bay b).pos.target / 256), byteOf (s.bay b).pos.target] ∧
          (t.link.held.drop 24).take 8 =
            [BitVec.ofInt 8 ((s.bay b).servo.P / 65536), BitVec.ofInt 8 ((s.bay b).servo.P / 256), BitVec.ofInt 8 (s.bay b).servo.P,
             BitVec.ofInt 8 ((s.bay b).servo.v / 256), BitVec.ofInt 8 (s.bay b).servo.v,
             BitVec.ofInt 8 ((s.bay b).servo.pes / 256), BitVec.ofInt 8 (s.bay b).servo.pes,
             byteOf (s.bay b).servo.pesValid.toNat] ∧
          (t.link.held.drop 32).take 9 =
            [byteOf (s.hold (.spindle b) / 256), byteOf (s.hold (.spindle b)), byteOf (s.ledger.waits (.spindle b)).toNat,
             byteOf (s.hold (.actuator b) / 256), byteOf (s.hold (.actuator b)), byteOf (s.ledger.waits (.actuator b)).toNat,
             byteOf (s.hold (.latch b) / 256), byteOf (s.hold (.latch b)), byteOf (s.ledger.waits (.latch b)).toNat] ∧
          t.link.held[41]? = some (byteOf (s.bay b).sched.state.value) ∧
          (t.link.held.drop 42).take 2 =
            (match (s.bay b).sched.cause with
            | none => [0, 0]
            | some c => [1, byteOf c.value]) ∧
          t.link.held[44]? = some (byteOf (((s.bay b).sched.lastFault.map Cause.value).getD 0)) ∧
          t.link.held[45]? = some (byteOf (s.bay b).sched.queue.length) ∧
          t.link.held[46]? = some (byteOf (((s.bay b).sched.inflight.map Op.tag).getD 0)) ∧
          t.link.held[47]? = some (byteOf (((s.bay b).sched.inflight.map fun op : Op => op.kind.code).getD 0)) ∧
          t.link.held.drop 48 =
            [byteOf (s.bay b).gate.window.toNat, byteOf (s.bay b).gate.wperm.toNat, byteOf (s.bay b).mon.qualified.toNat,
             byteOf (s.bay b).mon.overcurrent.toNat]) ∧
      (LinkTakes (frameOf (.readStatus .part)) s →
        After (exec (.readStatus .part) s) fun t =>
          t = State.answer t.link.held s ∧ t.link.held.length = 15 + 6 * s.ledger.wait.length ∧
          t.link.held.take 12 =
            [1, 49, 0, byteOf (11 + 6 * s.ledger.wait.length), byteOf s.supply.state.value, byteOf (s.ledger.capacity / 256),
             byteOf s.ledger.capacity, byteOf (s.ledger.effective / 256), byteOf s.ledger.effective, byteOf (s.ledger.sum / 256),
             byteOf s.ledger.sum, byteOf s.ledger.wait.length] ∧
          (∀ i e, s.ledger.wait[i]? = some e →
            (t.link.held.drop (12 + 6 * i)).take 6 =
              (match e.req with
              | .fixed n => [byteOf e.who.value, 0, byteOf (n / 256), byteOf n, byteOf (n / 256), byteOf n]
              | .ranged m n => [byteOf e.who.value, 1, byteOf (m / 256), byteOf m, byteOf (n / 256), byteOf n])) ∧
          t.link.held.drop (12 + 6 * s.ledger.wait.length) =
            [byteOf (16 - (slotsHeld s.bayA.sched + slotsHeld s.bayB.sched)), if s.store.mode = .image then 0 else 1,
             byteOf s.sense.scanCount]))

/-! ## Sensing requests -/

/-- WRITE SENSE LIST: BAD_VALUE for a position outside 6..15 or named twice by entries with fields, an unused entry read no further than its
mark; else the programmable part is formed from the entries, at once, the image slots of changed positions made invalid, or as the
pending list. RESUME SENSE clears the halted flag and nothing else.
The reply's ten entries of four bytes without a count byte, a list written between scans that supersedes a pending one, an unused entry
whose position is not judged: the model's, log entries 20, 36, 37. -/
def Obligations.SenseListWrittenAndResumed : Prop :=
  ∀ (es : List SenseItem) (s : State), AttnExact s → es.length ≤ 10 →
    (LinkTakes (frameOf (.writeSenseList es)) s →
      ((∃ e ∈ es, e.marks.getLsbD 7 = false ∧ (e.position.toNat < 6 ∨ 15 < e.position.toNat)) ∨
          ¬((es.filter fun e => !e.marks.getLsbD 7).map fun e => e.position.toNat).Nodup →
        exec (.writeSenseList es) s = .next (s.refusedAs 35 0 .badValue)) ∧
      ((∀ e ∈ es, e.marks.getLsbD 7 = false → 6 ≤ e.position.toNat ∧ e.position.toNat ≤ 15) →
          ((es.filter fun e => !e.marks.getLsbD 7).map fun e => e.position.toNat).Nodup →
        After (exec (.writeSenseList es) s) fun t =>
          t = { s with sense := t.sense, store := t.store, link := t.link } ∧
          t.link = Link.answered t.link.held s.link.attn ∧ t.link.held.take 4 = [1, 35, 0, 40] ∧
          (s.sense.scan.isSome = true → t.store = s.store ∧ t.sense = { s.sense with replacement := t.sense.replacement }) ∧
          (s.sense.scan = none →
            t.sense = { s.sense with active := t.sense.active, replacement := none } ∧
            t.store = { s.store with image := t.store.image } ∧
            (s.sense.active.length = 10 → s.store.image.length = 16 →
              t.store.image.length = 16 ∧ t.store.image.take 6 = s.store.image.take 6 ∧
              ∀ i < 10, t.store.image[6 + i]? = (s.store.image[6 + i]?).map fun x =>
                if (s.sense.active[i]?.join.map fun e => (e.channel, e.gain)) =
                    (t.sense.active[i]?.join.map fun e => (e.channel, e.gain)) then x
                else { x with valid := false })) ∧
          ∀ i < 10, ((if s.sense.scan.isSome then t.sense.replacement.getD [] else t.sense.active)[i]? =
            some ((es.find? fun e => !e.marks.getLsbD 7 && e.position.toNat = 6 + i).map fun e =>
              { channel := min 11 e.channel.toNat, gain := min 3 e.gain.toNat, endMark := e.marks.getLsbD 0,
                haltMark := e.marks.getLsbD 1, notifyMark := e.marks.getLsbD 2 })))) ∧
    (LinkTakes (frameOf .resumeSense) s →
      exec .resumeSense s = .next (State.answer [1, 37, 0, 0] { s with sense := { s.sense with halted := false } }))

/-- SET SAMPLE MODE: BAD_VALUE for another mode byte; the interval clamped to 1..20; a change of mode empties the ring and the
programmable slots. SET LIMITS takes the clamped limits if they are in order, BAD_VALUE otherwise; nothing judged before changes. -/
def Obligations.SampleModeAndLimitsAreSet : Prop :=
  (∀ (mode interval : Byte) (s : State), LinkTakes (frameOf (.setSampleMode mode interval)) s → AttnExact s →
      (2 ≤ mode.toNat → exec (.setSampleMode mode interval) s = .next (s.refusedAs 40 0 .badValue)) ∧
      (mode.toNat < 2 →
        exec (.setSampleMode mode interval) s =
          .next (State.answer [1, 40, 0, 2, mode, byteOf (max 1 (min 20 interval.toNat))]
            { s with
              sense := { s.sense with interval := max 1 (min 20 interval.toNat) }
              store :=
                if (mode.toNat = 0 ↔ s.store.mode = .image) then s.store
                else
                  { mode := if mode.toNat = 0 then .image else .history, ring := []
                    image := s.store.image.take 6 ++ (s.store.image.drop 6).map fun x => { x with valid := false } } }))) ∧
  (∀ (f l sg rc rl ro oc : BitVec 16) (s : State), LinkTakes (frameOf (.setLimits f l sg rc rl ro oc)) s → AttnExact s →
      exec (.setLimits f l sg rc rl ro oc) s =
        if min 1023 f.toNat < min 1023 sg.toNat ∧ min 1023 sg.toNat < min 1023 rc.toNat ∧ min 1023 rl.toNat < min 1023 ro.toNat then
          .next (State.answer
            ([1, 41, 0, 14] ++ ([f, l, sg, rc, rl, ro, oc].flatMap fun x =>
              [byteOf (min 1023 x.toNat / 256), byteOf (min 1023 x.toNat)]))
            { s with
              supply :=
                { s.supply with
                  limits :=
                    { fail := min 1023 f.toNat, logicFail := min 1023 l.toNat, sag := min 1023 sg.toNat,
                      recover := min 1023 rc.toNat, reserveLow := min 1023 rl.toNat, reserveOk := min 1023 ro.toNat,
                      overcurrent := min 1023 oc.toNat } } })
        else .next (s.refusedAs 41 0 .badValue))

/-- SAMPLE NOW begins its conversion at an idle converter and waits at a busy one, the reply in preparation; its completion answers with
the sample and hands it to nobody else, and the scan goes on. -/
def Obligations.SampleNowConvertsOnce : Prop :=
  ∀ (channel gain : Byte) (raw : BitVec 10) (ch g : Nat) (s : State),
    (LinkTakes (frameOf (.sampleNow channel gain)) s →
      After (exec (.sampleNow channel gain) s) fun t =>
        t = { s with sense := t.sense, link := t.link } ∧
        t.link = { Link.answered [] s.link.attn with phase := .preparing, lrdy := false } ∧
        t.sense =
          (if s.sense.conv = .idle then { s.sense with conv := .now (min 11 channel.toNat) (min 3 gain.toNat) }
          else { s.sense with waiting := some (min 11 channel.toNat, min 3 gain.toNat) })) ∧
    (s.sense.conv = .now ch g → s.sense.waiting = none →
      (s.link.withheld = none →
        After (exec (.sampleNowCompletion raw) s) fun t =>
          t = { s with sense := t.sense, link := t.link } ∧
          t.sense =
            { s.sense with
              conv := match s.sense.scan with
                | some x => .list x.position
                | none => .idle } ∧
          t.link =
            { s.link with
              phase := .holding, buffer := [], overflow := false, readIndex := 0, lrdy := true, resetOnRead := false
              held := [1, 38, 0, 4, byteOf ch, byteOf g, byteOf (min 1023 (raw.toNat * 2 ^ g) / 256),
                byteOf (min 1023 (raw.toNat * 2 ^ g))] }) ∧
      (∀ x, s.link.withheld = some x → s.link.lfrm = true → s.link.lockout = false →
        After (exec (.sampleNowCompletion raw) s) fun t =>
          t = { s with sense := t.sense, link := t.link } ∧
          t.link =
            { s.link with
              phase := .receiving, buffer := [x], overflow := false, held := [], readIndex := 0, withheld := none, lack := true,
              lrdy := false, resetOnRead := false }))

/-- READ SAMPLES: HISTORY carries and removes up to twelve of the oldest records; IMAGE changes nothing of the store; another selector
is BAD_VALUE.
What an invalid slot carries is free, its bits 4 to 6 are 0: the model's, log entries 9, 20. -/
def Obligations.ReadSamplesReadsTheStore : Prop :=
  ∀ (selector first : Byte) (s : State), LinkTakes (frameOf (.readSamples selector first)) s → AttnExact s →
    (2 ≤ selector.toNat → exec (.readSamples selector first) s = .next (s.refusedAs 39 0 .badValue)) ∧
    (selector = 1 → s.store.ring.length ≤ 96 →
      exec (.readSamples selector first) s =
        .next (State.answer
          ([1, 39, 0, byteOf (2 + 4 * min 12 s.store.ring.length), byteOf (min 12 s.store.ring.length)] ++
            ((s.store.ring.take 12).flatMap fun r =>
              [byteOf (16 * r.position + r.channel), byteOf (r.value / 256), byteOf r.value, byteOf r.scan]) ++
            [byteOf (s.store.ring.length - 12)])
          { s with store := { s.store with ring := s.store.ring.drop 12 } })) ∧
    (selector = 0 → s.store.image.length = 16 →
      After (exec (.readSamples selector first) s) fun t =>
        t = { State.answer t.link.held s with freeCount := t.freeCount } ∧
        t.link.held.take 6 =
          [1, 39, 0, byteOf (2 + 4 * min 12 (16 - min 15 first.toNat)), byteOf (min 15 first.toNat),
           byteOf (min 12 (16 - min 15 first.toNat))] ∧
        t.link.held.length = 6 + 4 * min 12 (16 - min 15 first.toNat) ∧
        ∀ i x, i < 12 → s.store.image[min 15 first.toNat + i]? = some x → x.channel ≤ 11 →
          (x.valid = true →
            (t.link.held.drop (6 + 4 * i)).take 4 =
              [byteOf (128 + x.channel), byteOf (x.value / 256), byteOf x.value, byteOf x.scan]) ∧
          (x.valid = false → ∃ y z w v : Byte, (t.link.held.drop (6 + 4 * i)).take 4 = [y, z, w, v] ∧ y.getLsbD 7 = false))

/-! ## Reporting requests -/

/-- SET EVENT MASK replaces the mask; CLEAR EVENTS clears the named latched classes and no condition; both answer with what they leave,
and ATTN is worked out at once. -/
def Obligations.EventMaskAndClear : Prop :=
  ∀ (x : BitVec 16) (s : State),
    (LinkTakes (frameOf (.setEventMask x)) s →
      exec (.setEventMask x) s =
        .next (State.answer [1, 52, 0, 2, byteOf (x.toNat % 8192 / 256), byteOf x.toNat]
          { s with events := { s.events with mask := x &&& 0x1FFF } })) ∧
    (LinkTakes (frameOf (.clearEvents x)) s →
      After (exec (.clearEvents x) s) fun t =>
        t = State.answer [1, 51, 0, 2, byteOf ((pendingSet t).toNat % 8192 / 256), byteOf (pendingSet t).toNat]
          { s with events := { s.events with latched := t.events.latched } } ∧
        ∀ i < 16, t.events.latched.getLsbD i =
          (s.events.latched.getLsbD i && !(decide (3 ≤ i ∧ i ≤ 12) && x.getLsbD i)))

/-- READ COUNTERS carries the 21 counters and zeroes them; READ REFUSALS carries and empties the log; READ COMPLETIONS carries and
removes up to six of the oldest records. -/
def Obligations.DestructiveReads : Prop :=
  ∀ s : State, AttnExact s →
    (LinkTakes (frameOf .readCounters) s →
      After (exec .readCounters s) fun t =>
        t = { State.answer t.link.held s with
              bayA := { s.bayA with cnt := ⟨0, 0, 0, 0, 0, 0, 0, 0⟩ }, bayB := { s.bayB with cnt := ⟨0, 0, 0, 0, 0, 0, 0, 0⟩ }
              partCnt := ⟨0, 0, 0, 0, 0⟩ } ∧
        t.link.held =
          [1, 53, 0, 42] ++
            (([s.bayA.cnt, s.bayB.cnt].flatMap fun c =>
                [c.missedWedges, c.recoverySeeks, c.seekTimeouts, c.writeFaults, c.blockedGates, c.spinUpRetries, c.ejectRetries,
                 c.servoLosses]) ++
              [s.partCnt.completionOverwrites, s.partCnt.historyOverwrites, s.partCnt.sagEntries, s.partCnt.failEntries,
               s.partCnt.refusedRequests]).flatMap fun n => [byteOf (n / 256), byteOf n]) ∧
    (LinkTakes (frameOf .readRefusals) s →
      exec .readRefusals s =
        .next (State.answer
          ([1, 54, 0, 9, byteOf s.refusals.count] ++ [s.refusals.first, s.refusals.latest].flatMap fun r =>
            match r with
            | some r => [1, r.code, r.bay, byteOf r.reason.value]
            | none => [0, 0, 0, 0])
          { s with refusals := { count := 0, first := none, latest := none } })) ∧
    (LinkTakes (frameOf .readCompletions) s → s.completions.length ≤ 8 →
      exec .readCompletions s =
        .next (State.answer
          ([1, 55, 0, byteOf (2 + 7 * min 6 s.completions.length), byteOf (min 6 s.completions.length)] ++
            ((s.completions.take 6).flatMap fun r =>
              [byteOf r.tag, byteOf (bayByte r.bay), byteOf r.op.code, byteOf r.outcome.value] ++
                match r.detail with
                | some d => [1, byteOf (d / 256), byteOf d]
                | none => [0, 0, 0]) ++
            [byteOf (s.completions.length - 6)])
          { s with completions := s.completions.drop 6 }))

/-! ## Cartridge events -/

/-- PRES rises: EMPTY begins a SEATING of 100 ms, in any other state only the line is high. The debounce expires in SEATING: the media
record from MED1, MED0 and WPROT, SEATED, the presence-change latch.
The three switches as operands of the debounce expiry are the model's form: log entry 25. -/
def Obligations.CartridgeSeats : Prop :=
  (∀ (b : Bay) (s : State), LampExact s →
      ((s.bay b).cart.state ≠ .empty → exec (.presRise b) s = .next (s.modPins b fun p => { p with pres := true })) ∧
      ((s.bay b).cart.state = .empty →
        exec (.presRise b) s =
          .next ((s.modPins b fun p => { p with pres := true }).modCart b fun c =>
            { c with state := .seating, debounce := some 100000 }))) ∧
  (∀ (b : Bay) (med1 med0 wprot : Bool) (s : State), Settled s → (s.bay b).cart.state = .seating →
      (s.bay b).cart.debounce.isSome = true → (s.bay b).gate.window = false →
      After (exec (.debounceExpiry b med1 med0 wprot) s) fun t =>
        t = { s.modCart b fun c =>
                { c with
                  state := .seated, pulseCount := 0, debounce := none
                  media := some
                    { kind := if med1 = false ∧ med0 = true then .S else if med1 = true ∧ med0 = false then .D else .unrecognised
                      lastTrack :=
                        if med1 = false ∧ med0 = true then some 305 else if med1 = true ∧ med0 = false then some 611 else none
                      heads := 2, writeProtected := wprot } } with
              link := { s.link with attn := attnDue t }
              events := { s.events with latched := s.events.latched ||| (if b = .A then 0x0008 else 0x0010) } })

/-- BTN: the level timer runs while the level differs from the debounced one; its expiry begins a press of up to 5 s, or ends one, and
the end of a press whose timer still runs acts as the cartridge and the prevent flag give. The 2 Hz flash toggles the lamp.
A press begins only with BTN seen false since the reset: the model's inference, log entry 12. -/
def Obligations.ButtonAndLamp : Prop :=
  (∀ (b : Bay) (level : Bool) (s : State), Settled s →
      (After (exec (.btnChange b level) s) fun t =>
        t = ((s.modPins b fun p => { p with btn := level }).modCart b fun c =>
          { c with seenFalse := c.seenFalse || !level
                   levelTimer := if level ≠ c.pressed ∧ (c.seenFalse = true ∨ level = false) then some 50000 else none })) ∧
      ((s.bay b).cart.levelTimer.isSome = true → (s.bay b).cart.pressed = false →
        exec (.buttonLevelExpiry b) s =
          .next (s.modCart b fun c => { c with levelTimer := none, pressed := true, pressTimer := some 5000000 })) ∧
      ((s.bay b).cart.levelTimer.isSome = true → (s.bay b).cart.pressed = true → (s.bay b).cart.pressTimer = none →
        exec (.buttonLevelExpiry b) s = .next (s.modCart b fun c => { c with levelTimer := none, pressed := false })) ∧
      ((s.bay b).cart.levelTimer.isSome = true → (s.bay b).cart.pressed = true → (s.bay b).cart.pressTimer.isSome = true →
        ((s.bay b).cart.state = .seated → (s.bay b).cart.prevent = true →
          After (exec (.buttonLevelExpiry b) s) fun t =>
            t = { s.modCart b fun c => { c with levelTimer := none, pressed := false, pressTimer := none } with
                  events := { s.events with latched := s.events.latched ||| (if b = .A then 0x0020 else 0x0040) }
                  link := { s.link with attn := attnDue t } }) ∧
        ((s.bay b).cart.state = .empty ∨ (s.bay b).cart.state = .seating ∨ (s.bay b).cart.state = .releasePending ∨
            (s.bay b).cart.state = .ejecting →
          exec (.buttonLevelExpiry b) s =
            .next (s.modCart b fun c => { c with levelTimer := none, pressed := false, pressTimer := none })))) ∧
  (∀ (b : Bay) (s : State), (s.bay b).cart.flashTimer.isSome = true →
      exec (.lampFlashToggle b) s = .next (s.modCart b fun c => { c with lamp := !c.lamp, flashTimer := some 250000 }))

/-- A release by the button cancels the queue, closes the window and orders the mechanisms to rest; with an operation in flight that is
stopped too: loaded heads unload in its place, a load wait and a SPIN UP that waits for power end CANCELLED at once, a SPIN UP being
driven or in BRAKING brakes under purpose STOP, a SPIN DOWN runs on. -/
def Obligations.ButtonReleasesTheCartridge : Prop :=
  (∀ (b : Bay) (s : State), Settled s → WaitDistinct s → LatchSafe s →
      ((s.bay b).cart.state = .seated ∨ (s.bay b).cart.state = .jammed) →
      (s.bay b).sched.inflight = none → (s.bay b).pins.wgate = false →
      ((s.bay b).cart.pressTimer.isSome = true →
        After (exec (.longPress b) s) fun t =>
          (t.bay b).cart.prevent = ((s.bay b).cart.prevent && decide ((s.bay b).cart.state = .jammed)) ∧
          (t.bay b).cart.media = (s.bay b).cart.media ∧ (t.bay b).sched.queue = [] ∧
          (t.bay b).gate.window = false ∧ (t.bay b).pos.state.loaded = false ∧ (t.bay b).sched.inflight = none ∧
          t.completions = recordedAll s.completions ((s.bay b).sched.queue.map fun op =>
            { tag := op.tag, bay := b, op := op.kind, outcome := .cancelled,
              detail := if op.kind = .spinUp then some (s.bay b).spin.attempt else none }) ∧
          (s.ledger.wait = [] →
            t.events.latched =
              (if (s.bay b).cart.prevent = true ∧ (s.bay b).cart.state = .seated then
                s.events.latched ||| (if b = .A then 0x0020 else 0x0040)
              else s.events.latched)) ∧
          ((s.bay b).pos.state.loaded = true → (s.bay b).pins.park = false → (s.bay b).spin.state.regulated = true →
            (t.bay b).cart.state = .releasePending ∧ (t.bay b).pos.state = .unloading ∧ (t.bay b).pos.act = -25 ∧
              (t.bay b).spin.state = (s.bay b).spin.state) ∧
          (atRest b s = true → 120 ≤ s.ledger.capacity → s.ledger.wait = [] →
            s.ledger.sum - s.hold (.latch b) + 120 ≤ s.ledger.effective →
            (t.bay b).cart.state = .ejecting ∧ (t.bay b).cart.latch = true ∧ (t.bay b).cart.pulseCount = 1)) ∧
      ((s.bay b).cart.prevent = false ∨ (s.bay b).cart.state = .jammed → (s.bay b).cart.levelTimer.isSome = true →
        (s.bay b).cart.pressed = true → (s.bay b).cart.pressTimer.isSome = true → atRest b s = true →
        120 ≤ s.ledger.capacity → s.ledger.wait = [] → s.ledger.sum - s.hold (.latch b) + 120 ≤ s.ledger.effective →
        After (exec (.buttonLevelExpiry b) s) fun t =>
          (t.bay b).cart.state = .ejecting ∧ (t.bay b).cart.phase = some .pulse ∧ (t.bay b).cart.latch = true ∧
          (t.bay b).cart.pulseCount = 1 ∧ t.ledger = s.ledger.setHold (.latch b) 120 ∧ (t.bay b).sched.queue = [] ∧
          (t.bay b).spin = (s.bay b).spin ∧ (t.bay b).pos = (s.bay b).pos ∧ t.bay b.other = s.bay b.other)) ∧
  (∀ (b : Bay) (s : State) (op : Op), Settled s → WaitDistinct s → (s.bay b).cart.state = .seated →
      (s.bay b).cart.pressTimer.isSome = true → (s.bay b).pins.wgate = false → (s.bay b).sched.inflight = some op → s.ledger.wait = [] →
      After (exec (.longPress b) s) fun t =>
        (t.bay b).sched.queue = [] ∧ (t.bay b).gate.window = false ∧
        (op.kind = .loadHeads ∨ op.kind.isSeek = true ∨ op.kind = .unloadHeads → (s.bay b).pos.state.loaded = true →
          (s.bay b).pins.park = false → (s.bay b).spin.state.regulated = true → (s.bay b).spin.brakeMark = false →
          (t.bay b).cart.state = .releasePending ∧ (t.bay b).pos.state = .unloading ∧ (t.bay b).pos.act = -25 ∧
          (t.bay b).pos.pending = .none ∧ (t.bay b).pos.owner = .none ∧ (t.bay b).spin.state = (s.bay b).spin.state ∧
          (t.bay b).sched.inflight = some op ∧ t.completions = recordedAll s.completions (cancelRecords b (s.bay b))) ∧
        (op.kind = .loadHeads → (s.bay b).pos.state = .parked → (s.bay b).pos.pending = .load →
          (s.bay b).spin.state.regulated = true →
          (t.bay b).cart.state = .releasePending ∧ (t.bay b).pos.pending = .none ∧ (t.bay b).pos.loadWait = none ∧
          t.hold (.actuator b) = 0 ∧ (t.bay b).spin.state = .braking ∧ (t.bay b).spin.purpose = some .stop ∧
          (t.bay b).sched.inflight = none ∧
          t.completions =
            recordedAll s.completions (cancelRecords b (s.bay b) ++ [⟨op.tag, b, .loadHeads, .cancelled, none⟩])) ∧
        (op.kind = .spinUp → (s.bay b).pos.pending ≠ .load → (s.bay b).pos.state.defersBrake = false →
          ((s.bay b).spin.state = .aligning ∨ (s.bay b).spin.state = .ramping ∨ (s.bay b).spin.state = .locking →
            (t.bay b).cart.state = .releasePending ∧ (t.bay b).spin.state = .braking ∧ (t.bay b).spin.purpose = some .stop ∧
            (t.bay b).spin.sbrk = true ∧ t.ledger = s.ledger.setHold (.spindle b) 0 ∧ (t.bay b).sched.inflight = some op ∧
            t.completions = recordedAll s.completions (cancelRecords b (s.bay b))) ∧
          ((s.bay b).spin.state = .braking →
            (t.bay b).cart.state = .releasePending ∧
            (t.bay b).spin =
              { (s.bay b).spin with
                purpose := if (s.bay b).spin.purpose = some .overcurrent then some .overcurrent else some .stop, startMark := false } ∧
            t.ledger = s.ledger ∧ (t.bay b).sched.inflight = some op ∧
            t.completions = recordedAll s.completions (cancelRecords b (s.bay b)))) ∧
        (op.kind = .spinDown → (s.bay b).spin.state = .braking → (s.bay b).pos.state.loaded = false →
          (t.bay b).cart.state = .releasePending ∧ (t.bay b).spin = (s.bay b).spin ∧ (t.bay b).pos = (s.bay b).pos ∧
          (t.bay b).sched.inflight = some op ∧ t.completions = recordedAll s.completions (cancelRecords b (s.bay b)))) ∧
  (∀ (b : Bay) (s : State) (op : Op), Settled s → WaitDistinct s → (s.bay b).cart.state = .seated →
      (s.bay b).cart.pressTimer.isSome = true → (s.bay b).pins.wgate = false → (s.bay b).sched.inflight = some op →
      op.kind = .spinUp → (s.bay b).spin.state = .waitPower → (s.bay b).pos.state = .parked → (s.bay b).pos.pending ≠ .load →
      (⟨.spindle b, .fixed 180⟩ : WaitEntry) ∈ s.ledger.wait →
      (∀ e ∈ s.ledger.wait, e.who ≠ .latch b) →
      After (exec (.longPress b) s) fun t =>
        (t.bay b).sched.queue = [] ∧ (t.bay b).gate.window = false ∧ (t.bay b).spin.state = .stopped ∧
        (t.bay b).spin.drive = 0 ∧ t.ledger.waits (.spindle b) = false ∧ (t.bay b).sched.inflight = none ∧
        t.completions =
          recordedAll s.completions
            (cancelRecords b (s.bay b) ++ [⟨op.tag, b, .spinUp, .cancelled, some (s.bay b).spin.attempt⟩]) ∧
        (if s.ledger.capacity < 120 then (t.bay b).cart.state = .seated
        else
          (t.bay b).cart.state = .ejecting ∧ (t.bay b).cart.latch = true ∧ t.hold (.latch b) = 120 ∨
            (t.bay b).cart.state = .releasePending ∧ t.ledger.waits (.latch b) = true) ∧
        (s.ledger.wait = [⟨.spindle b, .fixed 180⟩] →
          LatchAsked b { s.ledger with wait := [] } 0 t ∧ t.bay b.other = s.bay b.other))

/-- The pulse ends: LATCH off, the 120 released, WAIT with its second; the wait ends with the cartridge in: a new pulse counted as a
retry, or after three JAMMED, fatal. -/
def Obligations.LatchPulseAndWait : Prop :=
  ∀ (b : Bay) (s : State), Settled s → (s.bay b).cart.state = .ejecting → s.ledger.waits (.latch b) = false →
    ((s.bay b).cart.phase = some .pulse → (s.bay b).cart.pulseTimer.isSome = true →
      After (exec (.pulseTimerExpiry b) s) fun t =>
        (t.bay b).cart =
          { (s.bay b).cart with latch := false, phase := some .wait, pulseTimer := none, waitTimer := some 1000000 } ∧
        t.hold (.latch b) = 0 ∧ (t.bay b).sched = (s.bay b).sched ∧ t.completions = s.completions ∧
        (s.ledger.wait = [] → t = { s.modCart b fun _ => (t.bay b).cart with ledger := s.ledger.setHold (.latch b) 0 })) ∧
    ((s.bay b).cart.phase = some .wait → (s.bay b).cart.waitTimer.isSome = true →
      After (exec (.waitTimerExpiry b) s) fun t =>
        ((s.bay b).cart.pulseCount < 3 → atRest b s = true → 120 ≤ s.ledger.capacity → s.ledger.wait = [] →
          t.completions = s.completions ∧ (t.bay b).sched = (s.bay b).sched ∧
          (if s.ledger.sum - s.hold (.latch b) + 120 ≤ s.ledger.effective then
            t.ledger = s.ledger.setHold (.latch b) 120 ∧ (t.bay b).cart.state = .ejecting ∧ (t.bay b).cart.latch = true ∧
              (t.bay b).cart.phase = some .pulse ∧ (t.bay b).cart.pulseCount = (s.bay b).cart.pulseCount + 1 ∧
              (t.bay b).cnt.ejectRetries =
                (if 1 ≤ (s.bay b).cart.pulseCount then bump 65535 (s.bay b).cnt.ejectRetries else (s.bay b).cnt.ejectRetries)
          else
            t.ledger = { s.ledger with wait := [⟨.latch b, .fixed 120⟩] } ∧ (t.bay b).cart.state = .releasePending ∧
              (t.bay b).cart.pulseCount = (s.bay b).cart.pulseCount)) ∧
        ((s.bay b).cart.pulseCount = 3 → (s.bay b).gate.window = false → ((s.bay b).sched.inflight.map Op.kind) ≠ some .spinUp →
          (t.bay b).cart.state = .jammed ∧ (t.bay b).cart.phase = none ∧ (t.bay b).cart.waitTimer = none ∧
            (t.bay b).cart.lampMode = .flashing ∧ (t.bay b).sched = (s.bay b).sched.faulted .jam ∧
            t.completions = recordedAll s.completions (faultRecords b (s.bay b) .jam) ∧ t.ledger = s.ledger ∧
            (t.bay b).spin = (s.bay b).spin ∧ (t.bay b).pos = (s.bay b).pos ∧ t.bay b.other = s.bay b.other))

/-- A fall of PRES: return from SEATING, success after a pulse, quiet loss at rest, PRESENCE_LOST otherwise; an operation in flight ends
FAILED PRESENCE_LOST with the mechanisms not at rest, else SUCCESS for an EJECT and CANCELLED for any other. -/
def Obligations.DepartureOfTheCartridge : Prop :=
  (∀ (b : Bay) (s : State), Settled s → WaitDistinct s → s.ledger.wait = [] → (s.bay b).pins.wgate = false →
      After (exec (.presFall b) s) fun t =>
        (t.bay b).pins = { (s.bay b).pins with pres := false } ∧
        ((s.bay b).cart.state = .empty →
          t = s.modPins b fun p => { p with pres := false }) ∧
        ((s.bay b).cart.state = .seating →
          t = (s.modPins b fun p => { p with pres := false }).modCart b fun c => { c with state := .empty, debounce := none }) ∧
        ((s.bay b).cart.state ≠ .empty → (s.bay b).cart.state ≠ .seating →
          (t.bay b).cart.state = .empty ∧ (t.bay b).cart.media = none ∧ (t.bay b).cart.prevent = false ∧
          (t.bay b).cart.pulseCount = 0 ∧ (t.bay b).cart.latch = false ∧ (t.bay b).cart.phase = none ∧
          (t.bay b).sched.queue = [] ∧ (t.bay b).gate.window = false ∧ t.hold (.latch b) = 0 ∧
          t.events.latched = s.events.latched ||| (if b = .A then 0x0008 else 0x0010)) ∧
        (((s.bay b).cart.state = .ejecting ∨ (s.bay b).cart.state = .releasePending ∧ 0 < (s.bay b).cart.pulseCount) →
          (∀ op, (s.bay b).sched.inflight = some op → op.kind = .eject) → (s.bay b).sched.queue = [] →
          t.completions = recordedAll s.completions ((s.bay b).sched.inflight.toList.map fun op =>
            { tag := op.tag, bay := b, op := op.kind, outcome := .success, detail := none }) ∧
          (t.bay b).sched.inflight = none ∧ (t.bay b).spin = (s.bay b).spin ∧ (t.bay b).pos = (s.bay b).pos) ∧
        ((s.bay b).cart.state = .seated → atRest b s = true → (s.bay b).sched.inflight = none →
          (t.bay b).sched = { (s.bay b).sched with queue := [] } ∧ (t.bay b).spin = (s.bay b).spin ∧ (t.bay b).pos = (s.bay b).pos) ∧
        ((s.bay b).cart.state = .seated → (s.bay b).pos.state.loaded = true → (s.bay b).pins.park = false →
          (s.bay b).spin.state.regulated = true → (s.bay b).sched.inflight = none →
          (t.bay b).sched = { (s.bay b).sched with
            queue := [], state := .halted, cause := some .fault, lastFault := some .presenceLost } ∧
          (t.bay b).pos.state = .retracting ∧ (t.bay b).pos.act = -60 ∧ (t.bay b).pos.source = .reserve ∧
          (t.bay b).pos.retractTimer = some 500000 ∧ t.hold (.actuator b) = 0 ∧
          (t.bay b).spin.state = .braking ∧ (t.bay b).spin.purpose = some .stop ∧ (t.bay b).spin.drive = 0 ∧
          t.hold (.spindle b) = 0)) ∧
  (∀ (b : Bay) (s : State) (op : Op), Settled s → WaitDistinct s → s.ledger.wait = [] → (s.bay b).pins.wgate = false →
      (s.bay b).sched.inflight = some op →
      (s.bay b).cart.state = .seated ∨ (s.bay b).cart.state = .jammed ∨
        (s.bay b).cart.state = .releasePending ∧ (s.bay b).cart.pulseCount = 0 →
      After (exec (.presFall b) s) fun t =>
        (t.bay b).cart.state = .empty ∧ (t.bay b).gate.window = false ∧ t.hold (.latch b) = 0 ∧
        (atRest b s = false →
          (t.bay b).sched =
            { (s.bay b).sched with
              queue := [], inflight := none, state := .halted, cause := some .fault, lastFault := some .presenceLost } ∧
          t.completions =
            recordedAll s.completions (cancelRecords b (s.bay b) ++ faultRecords b (s.bay b) .presenceLost) ∧
          ((s.bay b).pos.state ≠ .parked → (s.bay b).pins.park = false → (t.bay b).pos.state = .retracting) ∧
          ((s.bay b).spin.state = .stopped ∨ (t.bay b).spin.state = .stopped ∨ (t.bay b).spin.state = .braking ∨
            (t.bay b).spin.state = .fault)) ∧
        (atRest b s = true →
          (t.bay b).sched =
            { (s.bay b).sched with
              queue := [], inflight := none
              state := if (s.bay b).sched.state = .halting then .halted else (s.bay b).sched.state } ∧
          t.completions =
            recordedAll s.completions
              (cancelRecords b (s.bay b) ++
                [{ tag := op.tag, bay := b, op := op.kind, outcome := if op.kind = .eject then .success else .cancelled,
                   detail := if op.kind = .spinUp then some (s.bay b).spin.attempt else none }])))

/-! ## Spindle events -/

/-- A TACH pulse measures the revolution if there is a reference, restarts the tach timer, begins 48 windows from the period, and moves
the loop: the drive code, the phase drives off with code 0, the lock counts, LOCKED and UNLOCKED, the end of RAMPING. The eighth revolution
inside the window ends a spin-up, and the 140 units it gives back go to the other spindle if it waits and its 180 fit.
The elapsed time as an operand, the reference kept or not, is the model's form: log entry 22. -/
def Obligations.TachPulseRunsTheLoop : Prop :=
  (∀ (b : Bay) (p : Nat) (s : State), Settled s → 1 ≤ p → p ≤ 500000 →
      After (exec (.tachPulse b p) s) fun t =>
        (t.bay b).spin.tachRef = true ∧ (t.bay b).spin.tachTimer = some 500000 ∧
        (t.bay b).spin.lastPeriod = (if (s.bay b).spin.tachRef then some p else none) ∧
        (t.bay b).demod =
          { window := some 0, interval := (if (s.bay b).spin.tachRef then p else 16667) / 48 } ∧
        ((s.bay b).spin.tachRef = false ∨ ¬((s.bay b).spin.state = .ramping ∨ (s.bay b).spin.state = .locking ∨
            (s.bay b).spin.state = .locked ∨ (s.bay b).spin.state = .unlocked) →
          t = (s.modSpin b fun x =>
            { x with tachRef := true, tachTimer := some 500000, lastPeriod := (t.bay b).spin.lastPeriod }).modDemod b fun _ =>
              (t.bay b).demod) ∧
        ((s.bay b).spin.tachRef = true →
          ((s.bay b).spin.state = .ramping → (s.bay b).pos.pending ≠ .load →
            (if (p : Int) ≤ 16667 + 4 * (s.bay b).spin.trim + 1667 then
              (t.bay b).spin.state = .locking ∧ (t.bay b).spin.inside = 0 ∧ (t.bay b).spin.stageTimer = some 4000000 ∧
                (t.bay b).spin.phases = (if (t.bay b).spin.drive = 0 then .off else .commutated) ∧
                (t.bay b).spin.drive =
                  (clampInt 0 (s.hold (.spindle b)) (24 + Int.tdiv (p - (16667 + 4 * (s.bay b).spin.trim)) 4)).toNat
            else (t.bay b).spin.state = .ramping ∧ (t.bay b).spin.drive = (s.bay b).spin.drive)) ∧
          ((s.bay b).spin.state = .locked →
            (t.bay b).spin.drive =
              (clampInt 0 (s.hold (.spindle b)) (24 + Int.tdiv (p - (16667 + 4 * (s.bay b).spin.trim)) 4)).toNat ∧
            (t.bay b).spin.phases = (if (t.bay b).spin.drive = 0 then .off else .commutated) ∧
            (if (p - (16667 + 4 * (s.bay b).spin.trim)).natAbs ≤ 83 then
              (t.bay b).spin.state = .locked ∧ (t.bay b).spin.outside = 0
            else if (s.bay b).spin.outside = 0 then (t.bay b).spin.state = .locked ∧ (t.bay b).spin.outside = 1
            else
              (t.bay b).spin.state = .unlocked ∧ (t.bay b).spin.inside = 0 ∧ (t.bay b).gate.wperm = false ∧
                ((t.bay b).spin.speedLost.isSome = true ↔ (s.bay b).pos.state.loaded = true))) ∧
          ((s.bay b).spin.state = .locking → (s.bay b).spin.inside < 7 →
            (t.bay b).spin.state = .locking ∧
            (t.bay b).spin.phases = (if (t.bay b).spin.drive = 0 then .off else .commutated) ∧
            (t.bay b).spin.drive =
              (clampInt 0 (s.hold (.spindle b)) (24 + Int.tdiv (p - (16667 + 4 * (s.bay b).spin.trim)) 4)).toNat ∧
            (t.bay b).spin.inside =
              (if (p - (16667 + 4 * (s.bay b).spin.trim)).natAbs ≤ 83 then (s.bay b).spin.inside + 1 else 0)) ∧
          ((s.bay b).spin.state = .unlocked →
            (t.bay b).spin.phases = (if (t.bay b).spin.drive = 0 then .off else .commutated) ∧
            (t.bay b).spin.drive =
              (clampInt 0 (s.hold (.spindle b)) (24 + Int.tdiv (p - (16667 + 4 * (s.bay b).spin.trim)) 4)).toNat ∧
            (if (p - (16667 + 4 * (s.bay b).spin.trim)).natAbs ≤ 83 then
              (if (s.bay b).spin.inside < 7 then
                (t.bay b).spin.state = .unlocked ∧ (t.bay b).spin.inside = (s.bay b).spin.inside + 1
              else (t.bay b).spin.state = .locked ∧ (t.bay b).spin.speedLost = none)
            else (t.bay b).spin.state = .unlocked ∧ (t.bay b).spin.inside = 0)))) ∧
  (∀ (b : Bay) (p : Nat) (s : State) (op : Op), Settled s → 1 ≤ p → p ≤ 500000 → (s.bay b).spin.tachRef = true →
      (s.bay b).spin.state = .locking → (s.bay b).spin.inside = 7 → (p - (16667 + 4 * (s.bay b).spin.trim)).natAbs ≤ 83 →
      s.hold (.spindle b) = 180 → s.ledger.wait = [] → (s.bay b).pos.pending ≠ .load → (s.bay b).sched.queue = [] →
      (s.bay b).sched.inflight = some op → op.kind = .spinUp → (s.bay b).gate.window = false →
      (s.bay b).cart.phase ≠ some .pulse →
      After (exec (.tachPulse b p) s) fun t =>
        (t.bay b).spin.state = .locked ∧
        (t.bay b).spin.drive =
          min 40 (clampInt 0 180 (24 + Int.tdiv (p - (16667 + 4 * (s.bay b).spin.trim)) 4)).toNat ∧
        (t.bay b).spin.phases = (if (t.bay b).spin.drive = 0 then .off else .commutated) ∧ (t.bay b).spin.stageTimer = none ∧
        (t.bay b).spin.inside = 0 ∧ (t.bay b).spin.outside = 0 ∧ (t.bay b).spin.attempt = (s.bay b).spin.attempt ∧
        t.ledger = s.ledger.setHold (.spindle b) 40 ∧ (t.bay b).sched.inflight = none ∧
        t.completions = recorded s.completions ⟨op.tag, b, .spinUp, .success, some (s.bay b).spin.attempt⟩ ∧
        t.bay b.other = s.bay b.other ∧ (t.bay b).pos = (s.bay b).pos) ∧
  (∀ (b : Bay) (p : Nat) (s : State), Settled s → 1 ≤ p → p ≤ 500000 → (s.bay b).spin.tachRef = true →
      (s.bay b).spin.state = .locking → (s.bay b).spin.inside = 7 → (p - (16667 + 4 * (s.bay b).spin.trim)).natAbs ≤ 83 →
      s.hold (.spindle b) = 180 → s.ledger.wait = [⟨.spindle b.other, .fixed 180⟩] → (s.bay b.other).spin.state = .waitPower →
      s.hold (.spindle b.other) = 0 → (s.bay b).pos.pending ≠ .load → (s.bay b).sched.queue = [] → (s.bay b).gate.window = false →
      (s.bay b).cart.phase ≠ some .pulse →
      After (exec (.tachPulse b p) s) fun t =>
        (t.bay b).spin.state = .locked ∧
        (if s.ledger.sum + 40 ≤ s.ledger.effective then
          t.ledger = { (s.ledger.setHold (.spindle b) 40).setHold (.spindle b.other) 180 with wait := [] } ∧
          t.bay b.other =
            { s.bay b.other with
              spin :=
                { (s.bay b.other).spin with
                  state := .aligning, drive := 60, phases := .fixed, sbrk := false, stageTimer := some 500000 } }
        else t.ledger = s.ledger.setHold (.spindle b) 40 ∧ t.bay b.other = s.bay b.other))

/-- No pulse for half a second: the reference and the period go; under regulation that is a revolution outside the window; under the brake
it is the stop, which acts by the brake purpose: STOPPED with the operation complete, the next attempt counted, or FAULT.
Under a start mark purpose STOP begins the attempt, its overcurrent check included, and OVERCURRENT fails the SPIN UP SPIN_FAIL. Under a
pending release the latch asks for its 120 at the stop.
A cancelled SPIN UP completes at the stop: the model's inference, log entry 16. -/
def Obligations.TachTimerExpiryActs : Prop :=
  (∀ (b : Bay) (s : State), Settled s → (s.bay b).spin.tachTimer.isSome = true → (s.bay b).spin.state ≠ .braking →
      After (exec (.tachTimerExpiry b) s) fun t =>
        (t.bay b).spin.tachRef = false ∧ (t.bay b).spin.lastPeriod = none ∧
        (if (s.bay b).spin.state = .locking ∨ (s.bay b).spin.state = .locked ∨ (s.bay b).spin.state = .unlocked then
          (t.bay b).spin.tachTimer = some 500000 ∧ (t.bay b).spin.drive = s.hold (.spindle b) ∧
          (t.bay b).spin.phases = (if s.hold (.spindle b) = 0 then .off else .commutated) ∧
          ((s.bay b).cart.phase ≠ some .pulse → s.ledger.waits (.latch b) = false → t.ledger = s.ledger) ∧
          (t.bay b).spin.state =
            (if (s.bay b).spin.state = .locked ∧ 1 ≤ (s.bay b).spin.outside then .unlocked else (s.bay b).spin.state) ∧
          ((s.bay b).spin.state ≠ .locked → (t.bay b).spin.inside = 0)
        else t = s.modSpin b fun x => { x with tachRef := false, lastPeriod := none, tachTimer := none })) ∧
  (∀ (b : Bay) (s : State), Settled s → (s.bay b).spin.tachTimer.isSome = true → (s.bay b).spin.state = .braking →
      s.ledger.wait = [] → (s.bay b).pos.pending ≠ .load → (s.bay b).cart.state ≠ .releasePending →
      (s.bay b).cart.state ≠ .ejecting → (s.bay b).sched.queue = [] → (s.bay b).gate.window = false →
      After (exec (.tachTimerExpiry b) s) fun t =>
        (t.bay b).pos = (s.bay b).pos ∧ t.bay b.other = s.bay b.other ∧
        ((s.bay b).spin.purpose = some .stop → (s.bay b).spin.startMark = false →
          (t.bay b).spin =
            { (s.bay b).spin with
              state := .stopped, drive := 0, phases := .off, sbrk := false, purpose := none, brakeMark := false, stageTimer := none,
              brakeLimit := none, tachRef := false, lastPeriod := none, tachTimer := none, speedLost := none } ∧
          t.ledger = s.ledger ∧
          (∀ op, (s.bay b).sched.inflight = some op → op.kind = .spinDown →
            t.completions = recorded s.completions ⟨op.tag, b, .spinDown, .success, none⟩ ∧ (t.bay b).sched.inflight = none) ∧
          (∀ op, (s.bay b).sched.inflight = some op → op.kind = .spinUp →
            t.completions = recorded s.completions ⟨op.tag, b, .spinUp, .cancelled, some (s.bay b).spin.attempt⟩ ∧
              (t.bay b).sched.inflight = none)) ∧
        ((s.bay b).spin.purpose = some .retry → (s.bay b).spin.attempt < 3 → 180 ≤ s.ledger.capacity →
          s.ledger.sum - s.hold (.spindle b) + 180 ≤ s.ledger.effective →
          (t.bay b).spin.state = .aligning ∧ (t.bay b).spin.attempt = (s.bay b).spin.attempt + 1 ∧
            (t.bay b).spin.sbrk = false ∧ (t.bay b).cnt.spinUpRetries = bump 65535 (s.bay b).cnt.spinUpRetries ∧
            t.ledger = s.ledger.setHold (.spindle b) 180 ∧ (t.bay b).sched = (s.bay b).sched) ∧
        ((s.bay b).spin.purpose = some .spinFail →
          (t.bay b).spin.state = .fault ∧ (t.bay b).spin.sbrk = true ∧ t.ledger = s.ledger ∧
            (t.bay b).sched = (s.bay b).sched.faulted .spinFail ∧
            t.completions = recordedAll s.completions (faultRecords b (s.bay b) .spinFail)) ∧
        ((s.bay b).spin.purpose = some .overcurrent → (s.bay b).spin.startMark = false →
          (t.bay b).spin.state = .fault ∧ (t.bay b).spin.sbrk = true ∧ t.ledger = s.ledger)) ∧
  (∀ (b : Bay) (s : State) (op : Op), Settled s → (s.bay b).spin.tachTimer.isSome = true → (s.bay b).spin.state = .braking →
      (s.bay b).spin.startMark = true → (s.bay b).spin.purpose = some .stop ∨ (s.bay b).spin.purpose = some .overcurrent →
      (s.bay b).sched.inflight = some op → op.kind = .spinUp → s.ledger.waits (.spindle b) = false →
      (s.bay b).pos.pending ≠ .load → (s.bay b).cart.state = .seated → (s.bay b).sched.queue = [] →
      (s.bay b).gate.window = false →
      After (exec (.tachTimerExpiry b) s) fun t =>
        (t.bay b).pos = (s.bay b).pos ∧ t.bay b.other = s.bay b.other ∧ (t.bay b).spin.startMark = false ∧
        (t.bay b).spin.brakeLimit = none ∧
        ((s.bay b).spin.purpose = some .stop → (s.bay b).mon.overcurrent = true →
          (t.bay b).spin.state = .fault ∧ (t.bay b).spin.sbrk = true ∧ t.ledger = s.ledger ∧
          (t.bay b).sched = (s.bay b).sched.faulted .overcurrent ∧
          t.completions = recordedAll s.completions (faultRecords b (s.bay b) .overcurrent)) ∧
        ((s.bay b).spin.purpose = some .stop → (s.bay b).mon.overcurrent = false →
          (t.bay b).spin.attempt = 1 ∧ (t.bay b).spin.sbrk = false ∧ (t.bay b).spin.purpose = none ∧
          (if s.ledger.capacity < 180 then
            (t.bay b).spin.state = .stopped ∧ t.ledger = s.ledger ∧ (t.bay b).sched.inflight = none ∧
            t.completions = recorded s.completions ⟨op.tag, b, .spinUp, .failed .noBudget, some 1⟩
          else
            (t.bay b).sched = (s.bay b).sched ∧ t.completions = s.completions ∧
            (if s.ledger.wait = [] ∧ s.ledger.sum - s.hold (.spindle b) + 180 ≤ s.ledger.effective then
              t.ledger = s.ledger.setHold (.spindle b) 180 ∧ (t.bay b).spin.state = .aligning ∧ (t.bay b).spin.drive = 60
            else
              t.ledger = { s.ledger with wait := s.ledger.wait ++ [⟨.spindle b, .fixed 180⟩] } ∧
              (t.bay b).spin.state = .waitPower))) ∧
        ((s.bay b).spin.purpose = some .overcurrent →
          (t.bay b).spin.state = .fault ∧ (t.bay b).spin.sbrk = true ∧ t.ledger = s.ledger ∧
          (t.bay b).sched = (s.bay b).sched.faulted .spinFail ∧
          t.completions = recordedAll s.completions (faultRecords b (s.bay b) .spinFail))) ∧
  (∀ (b : Bay) (s : State), Settled s → (s.bay b).spin.tachTimer.isSome = true → (s.bay b).spin.state = .braking →
      (s.bay b).cart.state = .releasePending → (s.bay b).spin.purpose = some .stop → (s.bay b).spin.startMark = false →
      s.ledger.waits (.latch b) = false → (s.bay b).pos.pending ≠ .load → (s.bay b).sched.queue = [] →
      After (exec (.tachTimerExpiry b) s) fun t =>
        (t.bay b).spin.state = .stopped ∧ (t.bay b).spin.sbrk = false ∧ (t.bay b).pos = (s.bay b).pos ∧
        t.bay b.other = s.bay b.other ∧
        ((s.bay b).pos.state = .parked → LatchAsked b s.ledger (s.bay b).cart.pulseCount t) ∧
        ((s.bay b).pos.state ≠ .parked → (t.bay b).cart.state = .releasePending ∧ t.ledger = s.ledger) ∧
        (∀ op, (s.bay b).sched.inflight = some op →
          (op.kind = .spinDown → t.completions = recorded s.completions ⟨op.tag, b, .spinDown, .success, none⟩ ∧
            (t.bay b).sched.inflight = none) ∧
          (op.kind = .spinUp → t.completions = recorded s.completions ⟨op.tag, b, .spinUp, .cancelled, some (s.bay b).spin.attempt⟩ ∧
            (t.bay b).sched.inflight = none) ∧
          (op.kind = .eject →
            (if (s.bay b).pos.state = .parked ∧ s.ledger.capacity < 120 then
              t.completions = recorded s.completions ⟨op.tag, b, .eject, .failed .noBudget, none⟩ ∧ (t.bay b).sched.inflight = none
            else t.completions = s.completions ∧ (t.bay b).sched.inflight = some op))))

/-- The stage timer ends ALIGNING, and fails RAMPING and LOCKING into a retry or, at the third attempt, the failure; the brake limit is
BRAKE_TIMEOUT; one second of UNLOCKED under loaded heads is SPEED_LOST, the heads unloaded. -/
def Obligations.SpindleTimersAct : Prop :=
  (∀ (b : Bay) (s : State), Settled s → (s.bay b).spin.stageTimer.isSome = true → s.ledger.wait = [] →
      (s.bay b).pos.pending ≠ .load → (s.bay b).cart.state = .seated →
      ((s.bay b).spin.state = .aligning →
        exec (.stageTimerExpiry b) s =
          .next (s.modSpin b fun x =>
            { x with state := .ramping, drive := 180, phases := .commutated, stageTimer := some 12000000, speedLost := none })) ∧
      ((s.bay b).spin.state = .ramping ∨ (s.bay b).spin.state = .locking →
        After (exec (.stageTimerExpiry b) s) fun t =>
          t = { s.modSpin b fun x =>
                  { x with
                    state := .braking, drive := 0, phases := .off, sbrk := true, inside := 0, outside := 0, brakeMark := false,
                    purpose := if x.attempt < 3 then some .retry else some .spinFail, stageTimer := none, speedLost := none,
                    tachTimer := some 500000, brakeLimit := some 10000000 } with
                ledger := s.ledger.setHold (.spindle b) 0 })) ∧
  (∀ (b : Bay) (s : State), Settled s → (s.bay b).spin.brakeLimit.isSome = true → (s.bay b).spin.state = .braking →
      (s.bay b).pos.pending ≠ .load → (s.bay b).cart.state ≠ .ejecting → s.ledger.waits (.latch b) = false →
      After (exec (.brakeLimitExpiry b) s) fun t =>
        t = { s with bayA := t.bayA, bayB := t.bayB, completions := t.completions, link := t.link, partCnt := t.partCnt,
                     events := t.events } ∧
        (t.bay b).spin =
          { (s.bay b).spin with
            state := .fault, drive := 0, phases := .off, sbrk := true, purpose := none, startMark := false, brakeMark := false,
            stageTimer := none, brakeLimit := none, speedLost := none } ∧
        (t.bay b).sched = (s.bay b).sched.faulted .brakeTimeout ∧ (t.bay b).gate.window = false ∧
        t.completions = recordedAll s.completions (faultRecords b (s.bay b) .brakeTimeout) ∧
        (t.bay b).pos = (s.bay b).pos ∧ t.bay b.other = s.bay b.other ∧ (t.bay b).cart.lampMode = .flashing) ∧
  (∀ (b : Bay) (s : State), Settled s → (s.bay b).spin.speedLost.isSome = true → (s.bay b).spin.state = .unlocked →
      (s.bay b).pos.state.loaded = true → (s.bay b).pins.park = false → s.ledger.wait = [] → (s.bay b).spin.brakeMark = false →
      (s.bay b).cart.state = .seated →
      After (exec (.speedLostTimerExpiry b) s) fun t =>
        (t.bay b).spin = { (s.bay b).spin with speedLost := none } ∧ (t.bay b).pos.state = .unloading ∧ (t.bay b).pos.act = -25 ∧
        (t.bay b).pos.unloadTimer = some 500000 ∧
        t.ledger = (if 60 < s.hold (.actuator b) then s.ledger.setHold (.actuator b) 60 else s.ledger) ∧
        (t.bay b).sched = (s.bay b).sched.faulted .speedLost ∧ (t.bay b).gate.window = false ∧
        t.completions = recordedAll s.completions (faultRecords b (s.bay b) .speedLost) ∧ t.bay b.other = s.bay b.other)

/-! ## Servo and positioner events -/

/-- A wedge window that ends in a reporting state hands one report to the SAU: taken by a free SAU, else put in the slot, an older report
there counted as missed. At each completion, applied or not, the SAU takes the other bay's report, else its own bay's, else it is free;
an applied one under a positioner that it takes out of the reporting states leaves that bay no report.
The window and its wedge as one command are the model's form: log entries 10, 11, 23. -/
def Obligations.WedgeReportsReachTheSau : Prop :=
  (∀ (b : Bay) (code : BitVec 10) (ok : Bool) (ampA ampB n : Nat) (s : State), (s.bay b).demod.window = some n →
      After (exec (.wedgeWindowEnd b code ok ampA ampB) s) fun t =>
        (t.bay b).demod.window = (if n < 47 then some (n + 1) else none) ∧
        (if (s.bay b).pos.state.loaded then
          (if s.sau = none then
            ∃ r, t = { s.modDemod b fun _ => (t.bay b).demod with
                       sau := some { bay := b, report := r, gains := (s.bay b).gains, profile := s.profile, discard := false } } ∧
              r.number = n ∧ r.burstA = min 1023 ampA ∧ r.burstB = min 1023 ampB ∧ (r.track.isSome = ok)
          else
            ∃ r, t = ((s.modDemod b fun _ => (t.bay b).demod).modSlot b fun _ => some r).modCnt b (fun c =>
                  { c with
                    missedWedges := if (s.bay b).slot.isSome then bump 65535 c.missedWedges else c.missedWedges }) ∧
              r.number = n ∧ r.burstA = min 1023 ampA ∧ r.burstB = min 1023 ampB ∧ (r.track.isSome = ok))
        else t = s.modDemod b fun _ => (t.bay b).demod)) ∧
  (∀ (c : Computation) (s : State), Settled s → s.sau = some c →
      (c.discard = true ∨ (s.bay c.bay).pos.state.loaded = false) →
      After (exec .sauCompletion s) fun t =>
        (∀ r, (s.bay c.bay.other).slot = some r →
          t = { s.modSlot c.bay.other fun _ => none with
                sau := some
                  { bay := c.bay.other, report := r, gains := (s.bay c.bay.other).gains, profile := s.profile, discard := false } }) ∧
        (∀ r, (s.bay c.bay.other).slot = none → (s.bay c.bay).slot = some r →
          t = { s.modSlot c.bay fun _ => none with
                sau := some { bay := c.bay, report := r, gains := (s.bay c.bay).gains, profile := s.profile, discard := false } }) ∧
        ((s.bay c.bay.other).slot = none → (s.bay c.bay).slot = none → t = { s with sau := none })) ∧
  (∀ (c : Computation) (s : State), Settled s → s.sau = some c → c.discard = false → (s.bay c.bay).pos.state.loaded = true →
      s.ledger.wait = [] → (s.bay c.bay).sched.queue = [] →
      After (exec .sauCompletion s) fun t =>
        (∀ r, (s.bay c.bay.other).slot = some r →
          t.sau = some { bay := c.bay.other, report := r, gains := (s.bay c.bay.other).gains, profile := s.profile, discard := false } ∧
            (t.bay c.bay.other).slot = none ∧
            (t.bay c.bay).slot = (if (t.bay c.bay).pos.state.loaded then (s.bay c.bay).slot else none)) ∧
        (∀ r, (s.bay c.bay.other).slot = none → (s.bay c.bay).slot = some r → (t.bay c.bay).pos.state.loaded = true →
          t.sau = some { bay := c.bay, report := r, gains := (s.bay c.bay).gains, profile := s.profile, discard := false } ∧
            (t.bay c.bay).slot = none ∧ (t.bay c.bay.other).slot = none) ∧
        ((s.bay c.bay.other).slot = none → (s.bay c.bay).slot = none ∨ (t.bay c.bay).pos.state.loaded = false →
          t.sau = none ∧ (t.bay c.bay).slot = none ∧ (t.bay c.bay.other).slot = none))

/-- An applied completion moves the servo record and the positioner by its state. FOLLOWING: position, velocity, error and code by the
arithmetic, the qualification by the write limit; the fourth far wedge starts a recovery seek, or is RECOVERY_FAIL behind two; 64 clean
ones clear the recovery count; the eighth invalid wedge running is SERVO_LOST. LOADING enters ACQUIRING at the first valid wedge,
ACQUIRING enters FOLLOWING at the fourth, the LOAD HEADS SUCCESS. SEEKING follows the profile and enters SETTLING within half a track,
SETTLING enters FOLLOWING at the third near wedge, the holding reduced to 30, the SEEK SUCCESS, or CANCELLED where aborted. An invalid
wedge is reckoned and counted in each state. Behind a gap the report acts on the state behind the implied wedges, and eight lost wedges
reached through them are SERVO_LOST. Every code stays within the actuator holding. -/
def Obligations.ComputedWedgeMovesTheServo : Prop :=
  (∀ (c : Computation) (track : Nat) (last : Int) (s : State), Settled s → s.sau = some c → c.discard = false →
      (s.bay c.bay).pos.state = .following → (s.bay c.bay).pos.pending = .none →
      (s.bay c.bay).servo.lastNum = some ((c.report.number + 47) % 48) → c.report.number < 48 → c.report.track = some track →
      64 ≤ c.report.burstA + c.report.burstB →
      (((s.bay c.bay).cart.media.bind Media.lastTrack).any fun top => track ≤ top) = true →
      (s.bay c.bay).servo.fresh = false → (s.bay c.bay).servo.lastValid = some last → (s.bay c.bay).servo.k < 8 →
      (s.bay c.bay).pins.wgate = false → (s.bay c.bay).pos.offTrack < 3 → (s.bay c.bay).pos.clean < 63 →
      After (exec .sauCompletion s) fun t =>
        (t.bay c.bay).servo.P =
          64 * track + nearest (32 * ((c.report.burstA : Int) - c.report.burstB)) (c.report.burstA + c.report.burstB) ∧
        (t.bay c.bay).servo.v =
          max (-1023) (min 1023 (Int.tdiv ((t.bay c.bay).servo.P - last) ((s.bay c.bay).servo.k + 1))) ∧
        (t.bay c.bay).servo.lastValid = some (t.bay c.bay).servo.P ∧ (t.bay c.bay).servo.k = 0 ∧
        (t.bay c.bay).servo.lastNum = some c.report.number ∧ (t.bay c.bay).servo.lastOk = true ∧
        (t.bay c.bay).servo.pes =
          max (-2048) (min 2047 ((t.bay c.bay).servo.P - 64 * (s.bay c.bay).pos.target)) ∧
        (t.bay c.bay).servo.pesValid = true ∧
        (t.bay c.bay).servo.I =
          max (-127) (min 127 (clampInt (-(s.hold (.actuator c.bay))) (s.hold (.actuator c.bay))
            (Int.tdiv (-(c.gains.kp * (t.bay c.bay).servo.pes + c.gains.kd * (t.bay c.bay).servo.v)) 16))) ∧
        (t.bay c.bay).pos =
          { (s.bay c.bay).pos with
            act := (t.bay c.bay).servo.I, servoLost := 0
            offTrack := if 48 < (t.bay c.bay).servo.pes.natAbs then (s.bay c.bay).pos.offTrack + 1 else 0
            clean := if 48 < (t.bay c.bay).servo.pes.natAbs then 0 else (s.bay c.bay).pos.clean + 1 } ∧
        (t.bay c.bay).gate.qualified = decide ((t.bay c.bay).servo.pes.natAbs ≤ (s.bay c.bay).gains.limit) ∧
        (t.bay c.bay).cnt = (s.bay c.bay).cnt ∧ t.bay c.bay.other = { s.bay c.bay.other with slot := (t.bay c.bay.other).slot } ∧
        t.ledger = s.ledger ∧ t.completions = s.completions) ∧
  (∀ (c : Computation) (s : State), Settled s → s.sau = some c → c.discard = false → (s.bay c.bay).pos.state = .following →
      (s.bay c.bay).servo.lastNum = some ((c.report.number + 47) % 48) → c.report.number < 48 →
      validAt c s = none → (s.bay c.bay).pins.wgate = false →
      (s.bay c.bay).pins.park = false → s.ledger.wait = [] → (s.bay c.bay).spin.brakeMark = false →
      (s.bay c.bay).cart.state = .seated → (s.bay c.bay).spin.state = .locked →
        -32 ≤ (s.bay c.bay).servo.P → (s.bay c.bay).servo.P ≤ 65504 →
      After (exec .sauCompletion s) fun t =>
        (t.bay c.bay).servo.P = clampInt (-32) 65504 ((s.bay c.bay).servo.P + (s.bay c.bay).servo.v) ∧
        (t.bay c.bay).servo.v = (s.bay c.bay).servo.v ∧ (t.bay c.bay).servo.k = bump 255 (s.bay c.bay).servo.k ∧
        (t.bay c.bay).servo.pesValid = false ∧ (t.bay c.bay).servo.lastOk = false ∧
        (t.bay c.bay).servo.I =
          max (-127) (min 127 (clampInt (-(s.hold (.actuator c.bay))) (s.hold (.actuator c.bay))
            (Int.tdiv (s.bay c.bay).servo.I 2))) ∧
        (t.bay c.bay).gate.qualified = false ∧
        (t.bay c.bay).cnt.missedWedges = bump 65535 (s.bay c.bay).cnt.missedWedges ∧
        (if (s.bay c.bay).pos.servoLost < 7 then
          (t.bay c.bay).pos =
            { (s.bay c.bay).pos with
              act := (t.bay c.bay).servo.I, servoLost := (s.bay c.bay).pos.servoLost + 1, offTrack := 0, clean := 0 } ∧
            t.completions = s.completions
        else
          (t.bay c.bay).pos.state = .unloading ∧ (t.bay c.bay).pos.act = -25 ∧
            (t.bay c.bay).cnt.servoLosses = bump 65535 (s.bay c.bay).cnt.servoLosses ∧
            (t.bay c.bay).sched.state = .halted ∧ (t.bay c.bay).sched.cause = some .fault ∧
            (t.bay c.bay).sched.lastFault = some .servoLost ∧ (t.bay c.bay).sched.inflight = none ∧
            (t.bay c.bay).gate.window = false)) ∧
  (∀ (c : Computation) (s : State), s.sau = some c → c.discard = false → (s.bay c.bay).pos.state.loaded = true →
      25 ≤ s.hold (.actuator c.bay) ∨ (s.bay c.bay).pos.state ≠ .loading →
      After (exec .sauCompletion s) fun t =>
        (t.bay c.bay).servo.I.natAbs ≤ s.hold (.actuator c.bay) ∧ (t.bay c.bay).servo.I.natAbs ≤ 127 ∧
        ((t.bay c.bay).servo.lastNum = some c.report.number ∨ (t.bay c.bay).servo.lastNum = none) ∧
          ((s.bay c.bay).sched.queue = [] → s.ledger.wait = [] → (t.bay c.bay).servo.lastNum = some c.report.number)) ∧
  (∀ (c : Computation) (track : Nat) (s : State), Settled s → validAt c s = some track →
      (Computing c .loading s → 25 ≤ s.hold (.actuator c.bay) →
        After (exec .sauCompletion s) fun t =>
          Measured (s.bay c.bay).servo (t.bay c.bay).servo (measuredAt c track) c.report.number ∧
          PesKept (s.bay c.bay).servo (t.bay c.bay).servo ∧ (t.bay c.bay).servo.I = 25 ∧
          (t.bay c.bay).pos = { (s.bay c.bay).pos with state := .acquiring, acquire := 0, loadTimer := none, act := 25 } ∧
          (t.bay c.bay).sched = (s.bay c.bay).sched ∧ (t.bay c.bay).cnt = (s.bay c.bay).cnt ∧ t.ledger = s.ledger ∧
          t.completions = s.completions) ∧
      (Computing c .acquiring s → (s.bay c.bay).pos.acquire < 3 ∨ (s.bay c.bay).sched.queue = [] →
        After (exec .sauCompletion s) fun t =>
          Measured (s.bay c.bay).servo (t.bay c.bay).servo (measuredAt c track) c.report.number ∧
          PesWorked (t.bay c.bay).servo (s.bay c.bay).pos.target true ∧
          (t.bay c.bay).servo.I =
            withinHolding (s.hold (.actuator c.bay)) (Int.tdiv (-(c.gains.kd * (t.bay c.bay).servo.v)) 16) ∧
          (t.bay c.bay).cnt = (s.bay c.bay).cnt ∧ t.ledger = s.ledger ∧
          (if (s.bay c.bay).pos.acquire < 3 then
            (t.bay c.bay).pos =
              { (s.bay c.bay).pos with
                act := (t.bay c.bay).servo.I, servoLost := 0, acquire := (s.bay c.bay).pos.acquire + 1 } ∧
            t.completions = s.completions ∧ (t.bay c.bay).sched = (s.bay c.bay).sched
          else
            (t.bay c.bay).pos =
              { (s.bay c.bay).pos with
                state := .following, act := (t.bay c.bay).servo.I, target := (t.bay c.bay).pos.target, owner := .none
                acquire := (t.bay c.bay).pos.acquire, servoLost := 0, offTrack := 0, clean := 0 } ∧
            (∀ top, (s.bay c.bay).cart.media.bind Media.lastTrack = some top →
              (t.bay c.bay).pos.target = (max 0 (min (top : Int) (nearest (measuredAt c track) 64))).toNat) ∧
            (∀ op, (s.bay c.bay).sched.inflight = some op → op.kind = .loadHeads →
              (t.bay c.bay).sched.inflight = none ∧
              t.completions =
                recorded s.completions ⟨op.tag, c.bay, .loadHeads, .success, some (t.bay c.bay).pos.target⟩) ∧
            ((s.bay c.bay).sched.inflight = none → t.completions = s.completions)))) ∧
  (∀ (c : Computation) (track : Nat) (s : State), Settled s → validAt c s = some track → Computing c .seeking s →
      After (exec .sauCompletion s) fun t =>
        Measured (s.bay c.bay).servo (t.bay c.bay).servo (measuredAt c track) c.report.number ∧
        (t.bay c.bay).sched = (s.bay c.bay).sched ∧ (t.bay c.bay).cnt = (s.bay c.bay).cnt ∧ t.ledger = s.ledger ∧
        t.completions = s.completions ∧
        (if (64 * ((s.bay c.bay).pos.target : Int) - measuredAt c track).natAbs < 32 then
          PesWorked (t.bay c.bay).servo (s.bay c.bay).pos.target true ∧
          (t.bay c.bay).servo.I =
            withinHolding (s.hold (.actuator c.bay))
              (Int.tdiv (-(c.gains.kp * (t.bay c.bay).servo.pes + c.gains.kd * (t.bay c.bay).servo.v)) 16) ∧
          (t.bay c.bay).pos =
            { (s.bay c.bay).pos with state := .settling, settle := 0, servoLost := 0, act := (t.bay c.bay).servo.I }
        else
          PesKept (s.bay c.bay).servo (t.bay c.bay).servo ∧
          (t.bay c.bay).pos = { (s.bay c.bay).pos with servoLost := 0, act := (t.bay c.bay).servo.I } ∧
          ∀ (i : Nat) (e : Nat × Nat), profileBins[i]? = some e →
            e.1 ≤ (64 * ((s.bay c.bay).pos.target : Int) - measuredAt c track).natAbs / 64 →
            (64 * ((s.bay c.bay).pos.target : Int) - measuredAt c track).natAbs / 64 ≤ e.2 →
            ∀ demand, c.profile[i]? = some demand →
              (t.bay c.bay).servo.I =
                withinHolding (s.hold (.actuator c.bay))
                  (Int.tdiv
                    (c.gains.kv *
                      ((if measuredAt c track < 64 * (s.bay c.bay).pos.target then (demand : Int) else -demand) -
                        (t.bay c.bay).servo.v)) 16))) ∧
  (∀ (c : Computation) (track : Nat) (s : State), Settled s → validAt c s = some track → Computing c .settling s →
      After (exec .sauCompletion s) fun t =>
        (6 < (t.bay c.bay).servo.pes.natAbs ∨ (s.bay c.bay).pos.settle < 2 ∨ (s.bay c.bay).sched.queue = [] →
          (t.bay c.bay).cnt = (s.bay c.bay).cnt) ∧
        (6 < (t.bay c.bay).servo.pes.natAbs ∨ (s.bay c.bay).pos.settle < 2 →
          Measured (s.bay c.bay).servo (t.bay c.bay).servo (measuredAt c track) c.report.number ∧
          PesWorked (t.bay c.bay).servo (s.bay c.bay).pos.target true ∧
          (t.bay c.bay).servo.I =
            withinHolding (s.hold (.actuator c.bay))
              (Int.tdiv (-(c.gains.kp * (t.bay c.bay).servo.pes + c.gains.kd * (t.bay c.bay).servo.v)) 16) ∧
          (t.bay c.bay).pos =
            { (s.bay c.bay).pos with
              servoLost := 0, act := (t.bay c.bay).servo.I
              settle := if 6 < (t.bay c.bay).servo.pes.natAbs then 0 else (s.bay c.bay).pos.settle + 1 } ∧
          t.ledger = s.ledger ∧ t.completions = s.completions ∧ (t.bay c.bay).sched = (s.bay c.bay).sched) ∧
        ((t.bay c.bay).servo.pes.natAbs ≤ 6 → (s.bay c.bay).pos.settle = 2 → (s.bay c.bay).pos.pending = .none →
          (s.bay c.bay).sched.queue = [] → s.ledger.wait = [] →
          Measured (s.bay c.bay).servo (t.bay c.bay).servo (measuredAt c track) c.report.number ∧
          PesWorked (t.bay c.bay).servo (s.bay c.bay).pos.target true ∧
          (t.bay c.bay).pos =
            { (s.bay c.bay).pos with
              state := .following, act := max (-30) (min 30 (t.bay c.bay).servo.I), owner := .none, seekTimer := none
              settle := (t.bay c.bay).pos.settle, servoLost := 0, offTrack := 0, clean := 0 } ∧
          t.ledger = (if 30 < s.hold (.actuator c.bay) then s.ledger.setHold (.actuator c.bay) 30 else s.ledger) ∧
          (∀ op, (s.bay c.bay).sched.inflight = some op → op.kind.isSeek = true →
            ((s.bay c.bay).pos.owner = .operation →
              (∀ tr hd, op.kind = .seek tr hd →
                t.completions = recorded s.completions ⟨op.tag, c.bay, op.kind, .success, some tr⟩) ∧
              (t.bay c.bay).sched.inflight = none) ∧
            ((s.bay c.bay).pos.owner = .aborted →
              t.completions = recorded s.completions ⟨op.tag, c.bay, op.kind, .cancelled, none⟩ ∧
              (t.bay c.bay).sched.inflight = none)) ∧
          ((s.bay c.bay).pos.owner = .recovery ∨ (s.bay c.bay).pos.owner = .none →
            t.completions = s.completions ∧ (t.bay c.bay).sched = (s.bay c.bay).sched))) ∧
  (∀ (c : Computation) (track : Nat) (s : State), Settled s → validAt c s = some track → Computing c .following s →
      (s.bay c.bay).pos.pending = .none → s.ledger.wait = [] →
      After (exec .sauCompletion s) fun t =>
        Measured (s.bay c.bay).servo (t.bay c.bay).servo (measuredAt c track) c.report.number ∧
        PesWorked (t.bay c.bay).servo (s.bay c.bay).pos.target true ∧
        ((t.bay c.bay).servo.pes.natAbs ≤ 48 → (s.bay c.bay).pos.clean = 63 →
          (t.bay c.bay).pos =
            { (s.bay c.bay).pos with act := (t.bay c.bay).servo.I, servoLost := 0, offTrack := 0, clean := 0, recovery := 0 }) ∧
        (48 < (t.bay c.bay).servo.pes.natAbs → (s.bay c.bay).pos.offTrack = 3 → (s.bay c.bay).pos.recovery < 2 →
          (t.bay c.bay).cnt.recoverySeeks = bump 65535 (s.bay c.bay).cnt.recoverySeeks ∧ (t.bay c.bay).gate.window = false ∧
          (t.bay c.bay).sched = (s.bay c.bay).sched ∧ t.completions = s.completions ∧
          (60 ≤ s.ledger.capacity →
            (if s.ledger.sum - s.hold (.actuator c.bay) + 60 ≤ s.ledger.effective then
              t.ledger =
                s.ledger.setHold (.actuator c.bay) (min 100 (s.ledger.effective + s.hold (.actuator c.bay) - s.ledger.sum)) ∧
              (t.bay c.bay).pos =
                { (s.bay c.bay).pos with
                  state := .seeking, source := .rail, owner := .recovery, seekTimer := some 150000, settle := 0, offTrack := 0
                  clean := 0, servoLost := 0, recovery := (s.bay c.bay).pos.recovery + 1
                  act := clampInt (-(t.hold (.actuator c.bay))) (t.hold (.actuator c.bay)) (t.bay c.bay).servo.I }
            else
              t.ledger = { s.ledger with wait := [⟨.actuator c.bay, .ranged 60 100⟩] } ∧
              (t.bay c.bay).pos =
                { (s.bay c.bay).pos with
                  pending := .recovery, act := (t.bay c.bay).servo.I, servoLost := 0, offTrack := 0, clean := 0
                  recovery := (s.bay c.bay).pos.recovery + 1 }))) ∧
        (48 < (t.bay c.bay).servo.pes.natAbs → (s.bay c.bay).pos.offTrack = 3 → 2 ≤ (s.bay c.bay).pos.recovery →
          (s.bay c.bay).pins.park = false → (s.bay c.bay).spin.brakeMark = false → (s.bay c.bay).cart.state = .seated →
          (s.bay c.bay).spin.state.regulated = true → ((s.bay c.bay).sched.inflight.map Op.kind) ≠ some .spinUp →
          (t.bay c.bay).pos.state = .unloading ∧ (t.bay c.bay).pos.act = -25 ∧ (t.bay c.bay).pos.unloadTimer = some 500000 ∧
          (t.bay c.bay).gate.window = false ∧ (t.bay c.bay).sched = (s.bay c.bay).sched.faulted .recoveryFail ∧
          t.completions = recordedAll s.completions (faultRecords c.bay (s.bay c.bay) .recoveryFail))) ∧
  (∀ (c : Computation) (st : PosState) (s : State), Settled s → validAt c s = none → Computing c st s →
      st = .loading ∨ st = .acquiring ∨ st = .seeking ∨ st = .settling → -32 ≤ (s.bay c.bay).servo.P →
      (s.bay c.bay).servo.P ≤ 65504 → (s.bay c.bay).pos.servoLost < 7 → 25 ≤ s.hold (.actuator c.bay) →
      After (exec .sauCompletion s) fun t =>
        Reckoned (s.bay c.bay).servo (t.bay c.bay).servo c.report.number ∧
        (t.bay c.bay).cnt = { (s.bay c.bay).cnt with missedWedges := bump 65535 (s.bay c.bay).cnt.missedWedges } ∧
        t.ledger = s.ledger ∧ t.completions = s.completions ∧ (t.bay c.bay).sched = (s.bay c.bay).sched ∧
        (if st = .acquiring ∨ st = .settling then PesWorked (t.bay c.bay).servo (s.bay c.bay).pos.target false
        else PesKept (s.bay c.bay).servo (t.bay c.bay).servo) ∧
        (if st = .loading then
          (t.bay c.bay).servo.I = 25 ∧ (t.bay c.bay).pos = { (s.bay c.bay).pos with act := 25 }
        else
          (t.bay c.bay).servo.I = withinHolding (s.hold (.actuator c.bay)) (Int.tdiv (s.bay c.bay).servo.I 2) ∧
          (t.bay c.bay).pos =
            { (s.bay c.bay).pos with
              act := (t.bay c.bay).servo.I, servoLost := (s.bay c.bay).pos.servoLost + 1
              acquire := if st = .acquiring then 0 else (s.bay c.bay).pos.acquire
              settle := if st = .settling then 0 else (s.bay c.bay).pos.settle })) ∧
  (∀ (c : Computation) (last : Nat) (s : State), Settled s → s.sau = some c → c.discard = false →
      (s.bay c.bay).servo.lastNum = some last → last < 48 → c.report.number < 48 → 0 < gapBehind last c.report.number →
      (s.bay c.bay).pos.state.loaded = true →
      ((s.bay c.bay).pos.state = .loading ∨ (s.bay c.bay).pos.servoLost + gapBehind last c.report.number < 8 →
        exec .sauCompletion s =
          exec .sauCompletion
            ((s.modServo c.bay fun x => x.skipped (gapBehind last c.report.number) c.report.number).modPos c.bay fun p =>
              p.skipped (gapBehind last c.report.number))) ∧
      ((s.bay c.bay).pos.state ≠ .loading → 8 ≤ (s.bay c.bay).pos.servoLost + gapBehind last c.report.number →
        (s.bay c.bay).pos.servoLost < 8 → (s.bay c.bay).pins.park = false → s.ledger.wait = [] →
        (s.bay c.bay).spin.brakeMark = false → (s.bay c.bay).cart.state = .seated → (s.bay c.bay).spin.state = .locked →
        After (exec .sauCompletion s) fun t =>
          (t.bay c.bay).pos.state = .unloading ∧ (t.bay c.bay).pos.act = -25 ∧ (t.bay c.bay).pos.pending = .none ∧
          (t.bay c.bay).pos.seekTimer = none ∧ (t.bay c.bay).servo.lastNum = some c.report.number ∧
          (t.bay c.bay).cnt.servoLosses = bump 65535 (s.bay c.bay).cnt.servoLosses ∧ (t.bay c.bay).gate.window = false ∧
          (t.bay c.bay).sched = (s.bay c.bay).sched.faulted .servoLost ∧
          t.completions = recordedAll s.completions (faultRecords c.bay (s.bay c.bay) .servoLost)))

/-- A load wait without a qualified reserve fails RESERVE_LOW, with one it goes on; 300 ms of LOADING without a valid wedge is
LOAD_TIMEOUT; the seek timer settles on the nearest track, counted, and fails a SEEK that owns the seek.
The clamp to 611 without a last track is the model's choice, log entry 17; so is the load wait that goes on with a qualified reserve in
every case, also with the 30 already held over an UNLOCKED spindle, log entry 43. -/
def Obligations.LoadAndSeekTimersAct : Prop :=
  (∀ (b : Bay) (s : State), Settled s →
      ((s.bay b).pos.loadWait.isSome = true → (s.bay b).pos.state = .parked → (s.bay b).pos.pending = .load →
        ((s.bay b).mon.qualified = true →
          exec (.loadWaitTimerExpiry b) s = .next (s.modPos b fun p => { p with loadWait := none })) ∧
        ((s.bay b).mon.qualified = false → s.ledger.wait = [] → (s.bay b).sched.queue = [] →
          After (exec (.loadWaitTimerExpiry b) s) fun t =>
            (t.bay b).pos = { (s.bay b).pos with loadWait := none, pending := .none } ∧
            t.ledger = s.ledger.setHold (.actuator b) 0 ∧ t.bay b.other = s.bay b.other ∧
            (∀ op, (s.bay b).sched.inflight = some op → op.kind = .loadHeads →
              (t.bay b).sched.inflight = none ∧
              t.completions = recorded s.completions ⟨op.tag, b, .loadHeads, .failed .reserveLow, none⟩))) ∧
      ((s.bay b).pos.loadTimer.isSome = true → (s.bay b).pos.state = .loading → (s.bay b).pins.park = false →
        s.ledger.wait = [] → s.hold (.actuator b) ≤ 60 → (s.bay b).spin.brakeMark = false → (s.bay b).cart.state = .seated →
        ((s.bay b).sched.inflight.map Op.kind) ≠ some .spinUp → (s.bay b).spin.state.regulated = true →
        After (exec (.loadTimerExpiry b) s) fun t =>
          (t.bay b).pos.state = .unloading ∧ (t.bay b).pos.act = -25 ∧ (t.bay b).pos.loadTimer = none ∧
          (t.bay b).pos.unloadTimer = some 500000 ∧ t.ledger = s.ledger ∧
          (t.bay b).sched = (s.bay b).sched.faulted .loadTimeout ∧
          t.completions = recordedAll s.completions (faultRecords b (s.bay b) .loadTimeout) ∧ (t.bay b).gate.window = false)) ∧
  (∀ (b : Bay) (s : State), Settled s → (s.bay b).pos.seekTimer.isSome = true →
      (s.bay b).pos.state = .seeking ∨ (s.bay b).pos.state = .settling → (s.bay b).sched.queue = [] →
      After (exec (.seekTimerExpiry b) s) fun t =>
        (t.bay b).pos =
          { (s.bay b).pos with
            state := .settling, settle := 0, seekTimer := none, owner := .none,
            target := (clampInt 0 ((((s.bay b).cart.media.bind Media.lastTrack).getD 611 : Nat) : Int)
              (nearest (s.bay b).servo.P 64)).toNat } ∧
        (t.bay b).cnt.seekTimeouts = bump 65535 (s.bay b).cnt.seekTimeouts ∧ t.ledger = s.ledger ∧
        t.bay b.other = s.bay b.other ∧
        ((s.bay b).pos.owner ≠ .operation → t.completions = s.completions ∧ (t.bay b).sched = (s.bay b).sched) ∧
        (∀ op, (s.bay b).pos.owner = .operation → (s.bay b).sched.inflight = some op → op.kind.isSeek = true →
          (t.bay b).sched.inflight = none ∧
          t.completions = recorded s.completions ⟨op.tag, b, op.kind, .failed .seekTimeout, none⟩))

/-- The unload and the retract run out with PARK false: FAULT, UNLOAD_TIMEOUT or RETRACT_FAIL. PARK true ends either in PARKED with nothing
held, and what waited for PARKED completes; PARK false under PARKED heads retracts them from the reserve. A brake order that waits for the
heads, marked or of a pending release, is carried out at each of these; with the spindle STOPPED the pending release asks for 120 at
PARKED. PARK false under a load wait, its 30 held or waiting, ends it: the LOAD HEADS fails NOT_READY. -/
def Obligations.HeadsComeHome : Prop :=
  (∀ (b : Bay) (s : State), Settled s → s.ledger.wait = [] → (s.bay b).cart.phase ≠ some .pulse →
      (s.bay b).pins.wgate = false → ((s.bay b).sched.inflight.map Op.kind) ≠ some .spinUp →
      ((s.bay b).pos.unloadTimer.isSome = true → (s.bay b).pos.state = .unloading →
        After (exec (.unloadTimerExpiry b) s) fun t =>
          (t.bay b).pos =
            { (s.bay b).pos with
              state := .fault, act := 0, source := .none, owner := .none, unloadTimer := none, retractTimer := none } ∧
          (t.bay b).cart.state = (s.bay b).cart.state ∧
          (BrakeWaits b s →
            Braked (s.bay b).spin (t.bay b).spin ∧ t.ledger = (s.ledger.setHold (.actuator b) 0).setHold (.spindle b) 0) ∧
          (¬BrakeWaits b s → (s.bay b).spin.state ≠ .waitPower →
            (t.bay b).spin = { (s.bay b).spin with speedLost := (t.bay b).spin.speedLost } ∧
            t.ledger = s.ledger.setHold (.actuator b) 0) ∧
          (t.bay b).sched = (s.bay b).sched.faulted .unloadTimeout ∧ (t.bay b).cart.lampMode = .flashing ∧
          (t.bay b).cart.pulseCount = (s.bay b).cart.pulseCount ∧
          t.completions = recordedAll s.completions (faultRecords b (s.bay b) .unloadTimeout) ∧ t.bay b.other = s.bay b.other) ∧
      ((s.bay b).pos.retractTimer.isSome = true → (s.bay b).pos.state = .retracting →
        After (exec (.retractTimerExpiry b) s) fun t =>
          (t.bay b).pos =
            { (s.bay b).pos with
              state := .fault, act := 0, source := .none, owner := .none, unloadTimer := none, retractTimer := none } ∧
          (t.bay b).cart.state = (s.bay b).cart.state ∧
          (BrakeWaits b s →
            Braked (s.bay b).spin (t.bay b).spin ∧ t.ledger = (s.ledger.setHold (.actuator b) 0).setHold (.spindle b) 0) ∧
          (¬BrakeWaits b s → (s.bay b).spin.state ≠ .waitPower →
            (t.bay b).spin = { (s.bay b).spin with speedLost := (t.bay b).spin.speedLost } ∧
            t.ledger = s.ledger.setHold (.actuator b) 0) ∧
          (t.bay b).sched = (s.bay b).sched.faulted .retractFail ∧ (t.bay b).cart.lampMode = .flashing ∧
          (t.bay b).cart.pulseCount = (s.bay b).cart.pulseCount ∧
          t.completions = recordedAll s.completions (faultRecords b (s.bay b) .retractFail) ∧ t.bay b.other = s.bay b.other)) ∧
  (∀ (b : Bay) (s : State), Settled s → s.ledger.wait = [] → (s.bay b).sched.queue = [] →
      (After (exec (.parkRise b) s) fun t =>
        (t.bay b).pins = { (s.bay b).pins with park := true } ∧
        (if (s.bay b).pos.state = .unloading ∨ (s.bay b).pos.state = .retracting then
          ((s.bay b).pos.pending ≠ .load →
            (t.bay b).pos =
              { (s.bay b).pos with
                state := .parked, act := 0, source := .none, owner := .none, unloadTimer := none, retractTimer := none }) ∧
          (BrakeWaits b s → (s.bay b).cart.phase ≠ some .pulse → (s.bay b).pos.pending ≠ .load →
            Braked (s.bay b).spin (t.bay b).spin ∧ (s.bay b).cart.sameButLamp (t.bay b).cart ∧
            t.ledger = (s.ledger.setHold (.actuator b) 0).setHold (.spindle b) 0) ∧
          (¬BrakeWaits b s → (s.bay b).cart.phase ≠ some .pulse → (s.bay b).spin.state ≠ .waitPower →
            (t.bay b).spin = { (s.bay b).spin with speedLost := (t.bay b).spin.speedLost } ∧
            ((s.bay b).cart.state ≠ .releasePending ∨ (s.bay b).spin.state ≠ .stopped →
              (t.bay b).cart.state = (s.bay b).cart.state ∧ t.ledger = s.ledger.setHold (.actuator b) 0) ∧
            ((s.bay b).cart.state = .releasePending → (s.bay b).spin.state = .stopped →
              LatchAsked b (s.ledger.setHold (.actuator b) 0) (s.bay b).cart.pulseCount t)) ∧
          (∀ op, (s.bay b).sched.inflight = some op → op.kind = .unloadHeads →
            t.completions = recorded s.completions ⟨op.tag, b, .unloadHeads, .success, none⟩ ∧ (t.bay b).sched.inflight = none) ∧
          (∀ op, (s.bay b).sched.inflight = some op → op.kind.isSeek = true ∨ op.kind = .loadHeads →
            t.completions = recorded s.completions ⟨op.tag, b, op.kind, .cancelled, none⟩ ∧ (t.bay b).sched.inflight = none)
        else t = s.modPins b fun p => { p with park := true })) ∧
      (After (exec (.parkFall b) s) fun t =>
        (t.bay b).pins = { (s.bay b).pins with park := false } ∧
        (if (s.bay b).pos.state = .parked then
          (t.bay b).pos.state = .retracting ∧ (t.bay b).pos.act = -60 ∧ (t.bay b).pos.source = .reserve ∧
          (t.bay b).pos.retractTimer = some 500000 ∧ (t.bay b).pos.pending = .none ∧ t.hold (.actuator b) = 0
        else t = s.modPins b fun p => { p with park := false }))) ∧
  (∀ (b : Bay) (op : Op) (s : State), Settled s → (s.bay b).pos.state = .parked → (s.bay b).pos.pending = .load →
      (s.bay b).sched.inflight = some op → op.kind = .loadHeads → (s.bay b).sched.queue = [] →
      After (exec (.parkFall b) s) fun t =>
        (t.bay b).pos =
          { (s.bay b).pos with
            state := .retracting, act := -60, source := .reserve, pending := .none, owner := .none, loadWait := none
            loadTimer := none, seekTimer := none, unloadTimer := none, retractTimer := some 500000 } ∧
        t.hold (.actuator b) = 0 ∧ t.ledger.waits (.actuator b) = false ∧
        (s.ledger.wait = [] → (s.bay b).spin.brakeMark = false → (s.bay b).cart.state = .seated →
          t.ledger = s.ledger.setHold (.actuator b) 0 ∧ t.bay b.other = s.bay b.other) ∧
        t.completions = recorded s.completions ⟨op.tag, b, .loadHeads, .failed .notReady, none⟩ ∧
        (t.bay b).sched.inflight = none ∧ (t.bay b).sched.queue = [] ∧
        ((s.bay b).sched.state ≠ .halting → (t.bay b).sched = { (s.bay b).sched with inflight := none }))

/-! ## Write gate and sense events -/

/-- WGATE: a rise without permit is a blocked gate, counted, and holds the permit off until the fall; an edge under permit records nothing.
CLOSE WRITE under an active gate with permit is a write fault: WPERM off, counted, latched; the operation still succeeds. -/
def Obligations.WriteGateEdges : Prop :=
  (∀ (b : Bay) (s : State), PermitExact s →
      ((s.bay b).gate.wperm = true → exec (.wgateRise b) s = .next (s.modPins b fun p => { p with wgate := true })) ∧
      ((s.bay b).gate.wperm = false →
        exec (.wgateRise b) s =
          .next (((s.modPins b fun p => { p with wgate := true }).modGate b fun g => { g with held := true }).modCnt b fun c =>
            { c with blockedGates := bump 65535 c.blockedGates })) ∧
      After (exec (.wgateFall b) s) fun t =>
        t = ((s.modPins b fun p => { p with wgate := false }).modGate b fun g =>
          { g with
            held := false
            wperm := g.window && (s.bay b).pos.state = .following && g.qualified && (s.bay b).spin.state = .locked &&
              (s.bay b).cart.state = .seated && (s.bay b).cart.media.any (fun m => !m.writeProtected) &&
              s.supply.state ≠ .fail })) ∧
  (∀ (b : Bay) (s : State), LinkTakes (frameOf (.closeWrite b)) s → Settled s → OpAccepted b .closeWrite s →
      SchedFree (s.bay b).sched → (s.bay b).gate.wperm = true → (s.bay b).pins.wgate = true →
      After (exec (.closeWrite b) s) fun t =>
        (t.bay b).gate = { (s.bay b).gate with window := false, wperm := false } ∧
        (t.bay b).cnt = { (s.bay b).cnt with writeFaults := bump 65535 (s.bay b).cnt.writeFaults } ∧
        t.events.latched = s.events.latched ||| 0x1000 ∧ (t.bay b).sched = (s.bay b).sched.through ∧
        t.completions = recorded s.completions ⟨s.nextTag, b, .closeWrite, .success, none⟩ ∧
        (t.bay b).spin = (s.bay b).spin ∧ (t.bay b).pos = (s.bay b).pos ∧ t.bay b.other = s.bay b.other)

/-- The scan timer starts a scan, or owes it while one is in progress. A list conversion of a used programmable position stores its sample,
min(raw times gain, 1023), and acts on its marks, in both sample modes; a fixed position stores the raw conversion. Behind a position
without an end or halt mark the scan goes on at the next used one, and ends where none is left or its programmable part is not
included, making the scan start it owes. A SAMPLE NOW that waits converts before what the scan gives.
The raw conversion as an operand is the model's form: log entry 24. -/
def Obligations.ScanRunsTheList : Prop :=
  (∀ s : State, s.sense.scanTimer.isSome = true →
      (s.sense.scan.isSome = true →
        exec .scanTimerExpiry s =
          .next { s with sense := { s.sense with scanTimer := some (1000 * s.sense.interval), scanDue := true } }) ∧
      (s.sense.scan = none → s.sense.waiting = none →
        After (exec .scanTimerExpiry s) fun t =>
          t = { s with sense := t.sense, store := { s.store with image := t.store.image } } ∧
          t.sense =
            { s.sense with
              scanTimer := some (1000 * s.sense.interval), scanDue := false, scanCount := (s.sense.scanCount + 1) % 256
              active := s.sense.replacement.getD s.sense.active, replacement := none
              scan := some { position := 0, programmable := !s.sense.halted }
              conv := if s.sense.conv = .idle then .list 0 else s.sense.conv } ∧
          (s.sense.replacement = none → t.store = s.store) ∧ t.store.image.length = s.store.image.length ∧
          t.store.image.take 6 = s.store.image.take 6)) ∧
  (∀ (raw : BitVec 10) (p : Nat) (e : SenseEntry) (s : State), Settled s → s.sense.conv = .list p → 6 ≤ p → p ≤ 15 →
      s.sense.active[p - 6]? = some (some e) → s.store.ring.length ≤ 96 → s.store.image.length = 16 →
      After (exec (.conversionCompletion raw) s) fun t =>
        t = { s with sense := t.sense, store := t.store, events := t.events, partCnt := t.partCnt, link := t.link } ∧
        (s.store.mode = .image →
          t.store.ring = s.store.ring ∧ t.partCnt = s.partCnt ∧
          (s.sense.scanDue = false ∨ s.sense.replacement = none →
            t.store.image = s.store.image.set p
              { channel := e.channel, value := min (raw.toNat * 2 ^ e.gain) 1023, scan := s.sense.scanCount, valid := true })) ∧
        (s.store.mode = .history →
          t.store.ring =
            (s.store.ring ++
              [({ position := p, channel := e.channel, value := min (raw.toNat * 2 ^ e.gain) 1023, scan := s.sense.scanCount } :
                Record)]).drop (s.store.ring.length + 1 - 96) ∧
          t.partCnt.historyOverwrites =
            (if s.store.ring.length = 96 then bump 65535 s.partCnt.historyOverwrites else s.partCnt.historyOverwrites)) ∧
        (t.events.latched.getLsbD 10 = true ↔ s.events.latched.getLsbD 10 = true ∨ e.notifyMark = true) ∧
        (t.events.latched.getLsbD 11 = true ↔
          s.events.latched.getLsbD 11 = true ∨ s.store.mode = .history ∧ s.store.ring.length = 96) ∧
        t.sense.halted = (s.sense.halted || e.haltMark) ∧
        (e.endMark = true ∨ e.haltMark = true → ScanEnds s t)) ∧
  (∀ (raw : BitVec 10) (p : Nat) (g : Bool) (s : State), Settled s → s.sense.conv = .list p → p ≤ 15 →
      s.sense.scan = some { position := p, programmable := g } → s.sense.active.length = 10 →
      (6 ≤ p → (s.sense.active[p - 6]?.join.any fun e => !e.endMark && !e.haltMark) = true) →
      After (exec (.conversionCompletion raw) s) fun t =>
        t.sense.waiting = none ∧
        (p < 5 → t.sense.scan = some { position := p + 1, programmable := g } ∧
          t.sense.conv = convertsNext s (.list (p + 1))) ∧
        (p = 5 → g = false → ScanEnds s t) ∧
        (p = 5 ∧ g = true ∨ 6 ≤ p →
          (∀ q, p < q → q ≤ 15 → s.sense.active[q - 6]?.join.isSome = true →
            (∀ r, p < r → r < q → s.sense.active[r - 6]?.join = none) →
            t.sense.scan = some { position := q, programmable := g } ∧
            t.sense.conv = convertsNext s (.list q)) ∧
          ((∀ q, p < q → q ≤ 15 → s.sense.active[q - 6]?.join = none) → ScanEnds s t)) ∧
        (p < 6 → t.store.mode = s.store.mode ∧ t.store.ring = s.store.ring ∧
          (s.sense.scanDue = false ∨ s.sense.replacement = none →
            t.store.image = s.store.image.set p { channel := p, value := raw.toNat, scan := s.sense.scanCount, valid := true })))

/-- The +12 V and +5 V samples judge the supply: FAIL, SAG, NORMAL by the limits, three good scans to leave FAIL; each change at either
is latched and counted, with E as C and the new state give. -/
def Obligations.SupplySamplesJudgeTheRails : Prop :=
  ∀ (raw : BitVec 10) (s : State), Settled s →
    (s.sense.conv = .list 0 →
      After (exec (.conversionCompletion raw) s) fun t =>
        t.supply.good12 = decide (s.supply.limits.recover < raw.toNat) ∧ t.supply.limits = s.supply.limits ∧
        t.supply.state =
          (if s.supply.state = .fail then .fail
          else if raw.toNat < s.supply.limits.fail then .fail
          else if s.supply.state = .normal then (if raw.toNat < s.supply.limits.sag then .sag else .normal)
          else if s.supply.limits.recover < raw.toNat then .normal
          else .sag) ∧
        t.supply.goodScans = (if t.supply.state = .fail ∧ s.supply.state ≠ .fail then 0 else s.supply.goodScans) ∧
        (t.supply.state = s.supply.state → t.ledger = s.ledger ∧ t.bayA = s.bayA ∧ t.bayB = s.bayB) ∧
        (t.supply.state ≠ s.supply.state →
          t.events.latched.getLsbD 7 = true ∧ t.ledger.effective = effectiveOf s.ledger.capacity t.supply.state) ∧
        t.partCnt.sagEntries =
          (if t.supply.state = .sag ∧ s.supply.state ≠ .sag then bump 65535 s.partCnt.sagEntries else s.partCnt.sagEntries) ∧
        t.partCnt.failEntries =
          (if t.supply.state = .fail ∧ s.supply.state ≠ .fail then bump 65535 s.partCnt.failEntries
          else s.partCnt.failEntries)) ∧
    (s.sense.conv = .list 1 → (s.supply.state = .fail → s.supply.goodScans ≤ 2) →
      After (exec (.conversionCompletion raw) s) fun t =>
        t.supply.good12 = s.supply.good12 ∧ t.supply.limits = s.supply.limits ∧
        (t.supply.state = s.supply.state → t.ledger = s.ledger ∧ t.bayA = s.bayA ∧ t.bayB = s.bayB) ∧
        (t.supply.state ≠ s.supply.state →
          t.events.latched.getLsbD 7 = true ∧ t.ledger.effective = effectiveOf s.ledger.capacity t.supply.state) ∧
        t.partCnt.sagEntries = s.partCnt.sagEntries ∧
        t.partCnt.failEntries =
          (if t.supply.state = .fail ∧ s.supply.state ≠ .fail then bump 65535 s.partCnt.failEntries
          else s.partCnt.failEntries) ∧
        (s.supply.state ≠ .fail →
          t.supply.state = (if raw.toNat < s.supply.limits.logicFail then .fail else s.supply.state) ∧
            t.supply.goodScans = (if t.supply.state = .fail then 0 else s.supply.goodScans)) ∧
        (s.supply.state = .fail →
          (if s.supply.limits.logicFail ≤ raw.toNat ∧ s.supply.good12 = true then
            t.supply.goodScans = s.supply.goodScans + 1 ∧
              t.supply.state = (if s.supply.goodScans = 2 then .normal else .fail)
          else t.supply.goodScans = 0 ∧ t.supply.state = .fail)))

/-- The supply becomes FAIL, by a +12 V or a +5 V sample below its limit: both bays are retracted, braked, their windows closed and their
schedulers fault-halted by SUPPLY_FAIL; E is 0 and nothing that could be granted waits.
The order of the blocks at a supply change is the model's choice: log entry 5. -/
def Obligations.SupplyFailureMakesBothBaysSafe : Prop :=
  ∀ (b : Bay) (raw : BitVec 10) (s : State), Settled s → s.supply.state ≠ .fail →
    s.sense.conv = .list 0 ∧ raw.toNat < s.supply.limits.fail ∨
      s.sense.conv = .list 1 ∧ raw.toNat < s.supply.limits.logicFail →
    After (exec (.conversionCompletion raw) s) fun t =>
      t.ledger.effective = 0 ∧ t.ledger.wait = [] ∧ (t.bay b).sched.state = .halted ∧
      (t.bay b).sched.cause = some .fault ∧ (t.bay b).sched.lastFault = some .supplyFail ∧
      (t.bay b).sched.inflight = none ∧ (t.bay b).gate.window = false ∧ (t.bay b).gate.wperm = false ∧
      ((t.bay b).pos.state = .parked ∨ (t.bay b).pos.state = .retracting) ∧
      ((t.bay b).spin.state = .stopped ∨ (t.bay b).spin.state = .braking ∨ (t.bay b).spin.state = .fault) ∧
      ((s.bay b).cart.state = .releasePending ∨ (s.bay b).cart.state = .ejecting → (t.bay b).cart.state = .seated) ∧
      ((s.bay b).pos.state ≠ .parked → (s.bay b).pins.park = false → (t.bay b).pos.state = .retracting)

/-- The reserve qualifies at the third sample in a row at reserve-ok, and is lost below reserve-low. The second current sample in a row
beyond the limit changes the overcurrent state; a turning spindle is then undriven, braked towards FAULT, its bay fault-halted. -/
def Obligations.ReserveAndCurrentSamples : Prop :=
  (∀ (b : Bay) (raw : BitVec 10) (s : State), Settled s → s.sense.conv = .list (2 + bayIndex b) → (s.bay b).mon.reserveCount ≤ 3 →
      After (exec (.conversionCompletion raw) s) fun t =>
        (t.bay b).mon.overcurrent = (s.bay b).mon.overcurrent ∧
        ((s.bay b).mon.qualified = false →
          (t.bay b).mon.reserveCount =
            (if s.supply.limits.reserveOk ≤ raw.toNat then min 3 ((s.bay b).mon.reserveCount + 1) else 0) ∧
          (t.bay b).mon.qualified =
            decide (s.supply.limits.reserveOk ≤ raw.toNat ∧ 2 ≤ (s.bay b).mon.reserveCount)) ∧
        ((s.bay b).mon.qualified = true →
          (t.bay b).mon.qualified = decide (s.supply.limits.reserveLow ≤ raw.toNat) ∧
          (raw.toNat < s.supply.limits.reserveLow → (t.bay b).mon.reserveCount = 0 ∧
            ((s.bay b).pos.state.loaded = true →
              (t.bay b).pos.state.loaded = false ∧ (t.bay b).sched.state = .halted ∧ (t.bay b).sched.cause = some .fault ∧
                (t.bay b).sched.lastFault = some .reserveLow))) ∧
        (t.bay b.other).mon = (s.bay b.other).mon) ∧
  (∀ (b : Bay) (raw : BitVec 10) (s : State), Settled s → SpindleOutputs s → s.sense.conv = .list (4 + bayIndex b) →
        (s.bay b).mon.overCount ≤ 1 →
      After (exec (.conversionCompletion raw) s) fun t =>
        (t.bay b).mon.overcurrent =
          (if (s.bay b).mon.overCount = 1 then decide (s.supply.limits.overcurrent < raw.toNat)
          else (s.bay b).mon.overcurrent) ∧
        (t.bay b).mon.overCount =
          (if (s.bay b).mon.overCount = 0 ∧ (s.bay b).mon.overcurrent ≠ decide (s.supply.limits.overcurrent < raw.toNat) then 1
          else 0) ∧
        ((s.bay b).mon.overcurrent = false → (t.bay b).mon.overcurrent = true →
          t.events.latched.getLsbD (8 + bayIndex b) = true ∧ (t.bay b).spin.drive = 0 ∧
          ((s.bay b).spin.state.regulated = true ∨ (s.bay b).spin.state = .aligning ∨ (s.bay b).spin.state = .ramping ∨
              (s.bay b).spin.state = .locking →
            (t.bay b).spin.state = .braking ∧ (t.bay b).spin.purpose = some .overcurrent ∧ (t.bay b).spin.sbrk = true ∧
              (t.bay b).pos.state.defersBrake = false ∧ (t.bay b).sched.state = .halted ∧
              (t.bay b).sched.cause = some .fault ∧ (t.bay b).sched.lastFault = some .overcurrent ∧
              (t.bay b).gate.window = false)) ∧
        (t.bay b.other).mon = (s.bay b.other).mon)
end

