-- ==== Sys2Proof/Laws/Checks.lean ====
section
/-! SUPPORT. The premises of the statements as checks that evaluate: each check, once true, gives the premise. -/

namespace Sys2Proof.Laws

open Sys2Proof.Machine

/-- `Settled`, evaluated. -/
def settledCheck (s : State) : Bool :=
  s.link.attn == attnDue s &&
    [Bay.A, Bay.B].all fun b =>
      decide ((s.bay b).cart.lampMode = lampModeOf (s.bay b).cart (s.bay b).sched) &&
        ((s.bay b).gate.wperm == permitDue (s.bay b) s.supply.state) &&
        (!mayTake (s.bay b).sched || decide ((s.bay b).sched.queue = []))

theorem settled_of_check {s : State} (h : settledCheck s = true) : Settled s := by
  simp only [settledCheck, List.all_cons, List.all_nil, Bool.and_true, Bool.and_eq_true, beq_iff_eq, decide_eq_true_eq] at h
  obtain ⟨h1, ⟨⟨h2, h3⟩, h4⟩, ⟨h5, h6⟩, h7⟩ := h
  refine ⟨h1, ?_, ?_, ?_⟩ <;> intro b <;> cases b
  · exact h2
  · exact h5
  · exact h3
  · exact h6
  · intro h; simpa [h] using h4
  · intro h; simpa [h] using h7

/-- `LinkTakes`, evaluated. -/
def takesCheck (frame : List Byte) (s : State) : Bool :=
  s.link.resetN && decide (s.link.phase ≠ .preparing) && !s.link.lockout &&
    !(decide (s.link.phase = .holding) && s.link.resetOnRead) &&
    (decide (s.link.phase ≠ .receiving) || (!s.link.overflow && s.link.buffer.isPrefixOf frame))

theorem linkTakes_of_check {frame : List Byte} {s : State} (h : takesCheck frame s = true) : LinkTakes frame s := by
  simp only [takesCheck, Bool.and_eq_true, Bool.or_eq_true, decide_eq_true_eq, Bool.not_eq_true', List.isPrefixOf_iff_prefix]
    at h
  obtain ⟨⟨⟨⟨h1, h2⟩, h3⟩, h4⟩, h5⟩ := h
  refine ⟨h1, h2, h3, ?_, ?_⟩
  · rintro ⟨a, b⟩
    simp [a, b] at h4
  · intro a
    exact h5.resolve_left (by simp [a])

/-- `Computing`, evaluated. -/
def computingCheck (c : Computation) (st : PosState) (s : State) : Bool :=
  decide (s.sau = some c) && !c.discard && decide ((s.bay c.bay).pos.state = st) && decide (c.report.number < 48) &&
    (decide ((s.bay c.bay).servo.lastNum = none) || decide ((s.bay c.bay).servo.lastNum = some ((c.report.number + 47) % 48)))

theorem computing_of_check {c : Computation} {st : PosState} {s : State} (h : computingCheck c st s = true) : Computing c st s := by
  simp only [computingCheck, Bool.and_eq_true, Bool.or_eq_true, decide_eq_true_eq, Bool.not_eq_true'] at h
  obtain ⟨⟨⟨⟨h1, h2⟩, h3⟩, h4⟩, h5⟩ := h
  exact ⟨h1, h2, h3, h4, h5⟩

/-- `SeekFits`, evaluated. -/
def seekCheck (b : Bay) (k : OpKind) (s : State) : Bool :=
  match k with
  | .seek track head =>
    decide (head ≤ 1) && ((s.bay b).cart.media.bind Media.lastTrack).any (fun top => track ≤ top)
  | .spinUp | .spinDown | .loadHeads | .unloadHeads | .openWrite | .closeWrite | .eject => true

theorem seekFits_iff_check {b : Bay} {k : OpKind} {s : State} : SeekFits b k s ↔ seekCheck b k s = true := by
  cases k <;> simp [SeekFits, seekCheck]

/-- `OpAccepted`, evaluated. -/
def acceptedCheck (b : Bay) (k : OpKind) (s : State) : Bool :=
  seekCheck b k s &&
    decide (((s.bay b).cart.state = .seated ∨ (s.bay b).cart.state = .jammed ∧ k = .eject) ∧
      (k = .eject → (s.bay b).cart.prevent = false) ∧
      slotsHeld (s.bay b).sched < (if 2 ≤ slotsHeld (s.bay b.other).sched then 8 else 12) ∧
      slotsHeld s.bayA.sched + slotsHeld s.bayB.sched < 16)

theorem opAccepted_of_check {b : Bay} {k : OpKind} {s : State} (h : acceptedCheck b k s = true) : OpAccepted b k s := by
  simp only [acceptedCheck, Bool.and_eq_true, decide_eq_true_eq] at h
  exact ⟨seekFits_iff_check.mpr h.1, h.2⟩

/-- A request that the link takes, in a settled state. -/
theorem ready {frame : List Byte} {s : State} (h : (takesCheck frame s && settledCheck s) = true) : LinkTakes frame s ∧ Settled s := by
  simp only [Bool.and_eq_true] at h
  exact ⟨linkTakes_of_check h.1, settled_of_check h.2⟩

/-- An operation request that the link takes and the pool accepts, over a free scheduler, in a settled state. -/
theorem opReady {frame : List Byte} {b : Bay} {k : OpKind} {s : State}
    (h : (takesCheck frame s && settledCheck s && acceptedCheck b k s &&
      decide ((s.bay b).sched.state = .running ∧ (s.bay b).sched.inflight = none ∧ (s.bay b).sched.queue = [])) = true) :
    LinkTakes frame s ∧ Settled s ∧ OpAccepted b k s ∧ SchedFree (s.bay b).sched := by
  simp only [Bool.and_eq_true, decide_eq_true_eq] at h
  exact ⟨linkTakes_of_check h.1.1.1, settled_of_check h.1.1.2, opAccepted_of_check h.1.2, h.2⟩

end Sys2Proof.Laws
end

