-- ==== Sys2Proof/Laws/Ledger.lean ====
section
/-! SUPPORT. What the Power Ledger's operations can do, said once for each. -/

namespace Sys2Proof.Machine

variable (l : Ledger) (c d : Consumer) (n : Nat)

@[simp] theorem Ledger.setHold_hold : (l.setHold c n).hold c = n := by rcases c with b | b | b <;> cases b <;> rfl

theorem Ledger.setHold_hold_ne (h : d ≠ c) : (l.setHold c n).hold d = l.hold d := by
  rcases c with b | b | b <;> rcases d with e | e | e <;> cases b <;> cases e <;> first | rfl | exact absurd rfl h

@[simp] theorem Ledger.setHold_capacity : (l.setHold c n).capacity = l.capacity := by rcases c with b | b | b <;> cases b <;> rfl

@[simp] theorem Ledger.setHold_effective : (l.setHold c n).effective = l.effective := by rcases c with b | b | b <;> cases b <;> rfl

@[simp] theorem Ledger.setHold_wait : (l.setHold c n).wait = l.wait := by rcases c with b | b | b <;> cases b <;> rfl

/-- A holding is part of the sum. -/
theorem Ledger.hold_le_sum : l.hold c ≤ l.sum := by
  rcases c with b | b | b <;> cases b <;> simp [Ledger.hold, Ledger.sum, Holdings.sum] <;> omega

/-- A holding put in place changes the sum by its difference. -/
theorem Ledger.setHold_sum : (l.setHold c n).sum = l.sum - l.hold c + n := by
  rcases c with b | b | b <;> cases b <;> simp [Ledger.setHold, Ledger.hold, Ledger.sum, Holdings.sum] <;> omega

theorem Ledger.sum_congr {l m : Ledger} (hA : m.holdA = l.holdA) (hB : m.holdB = l.holdB) : m.sum = l.sum := by
  simp [Ledger.sum, hA, hB]

theorem effectiveOf_le (x : SupplyState) : effectiveOf n x ≤ n := by
  cases x <;> simp only [effectiveOf] <;> omega

/-- R53: the fit of a fixed request. -/
theorem Ledger.fit_fixed (a : Nat) : l.fit c (.fixed a) = if l.sum - l.hold c + a ≤ l.effective then some a else none := rfl

/-- R53: the fit of a ranged request. -/
theorem Ledger.fit_ranged (m M : Nat) :
    l.fit c (.ranged m M) = if l.sum - l.hold c + m ≤ l.effective then some (min M (l.effective + l.hold c - l.sum)) else none := rfl

/-- R53: a request that fits asks for a total that keeps the sum within E, at least its need, and exactly it for a fixed amount. -/
theorem Ledger.fit_spec {r : Req} {g : Nat} (hr : ∀ m M, r = .ranged m M → m ≤ M) (h : l.fit c r = some g) :
    l.sum - l.hold c + g ≤ l.effective ∧ r.need ≤ g ∧ (∀ a, r = .fixed a → g = a) ∧ (∀ m M, r = .ranged m M → g ≤ M) := by
  have hs := l.hold_le_sum c
  cases r with
  | fixed a =>
    obtain ⟨h1, rfl⟩ : l.sum - l.hold c + a ≤ l.effective ∧ a = g := by simpa [Ledger.fit_fixed] using h
    exact ⟨h1, le_refl _, by simp, by simp⟩
  | ranged m M =>
    have hmM := hr m M rfl
    obtain ⟨h1, rfl⟩ : l.sum - l.hold c + m ≤ l.effective ∧ min M (l.effective + l.hold c - l.sum) = g := by
      simpa [Ledger.fit_ranged] using h
    refine ⟨by omega, by simp only [Req.need]; omega, by simp, ?_⟩
    rintro _ _ ⟨⟩
    omega

/-- R53: what a grant leaves fits, whatever its form. -/
theorem Ledger.fit_le {r : Req} {g : Nat} (h : l.fit c r = some g) : l.sum - l.hold c + g ≤ max l.effective (l.sum - l.hold c) := by
  have hs := l.hold_le_sum c
  cases r with
  | fixed a =>
    obtain ⟨h1, rfl⟩ : l.sum - l.hold c + a ≤ l.effective ∧ a = g := by simpa [Ledger.fit_fixed] using h
    omega
  | ranged m M =>
    obtain ⟨h1, rfl⟩ : l.sum - l.hold c + m ≤ l.effective ∧ min M (l.effective + l.hold c - l.sum) = g := by
      simpa [Ledger.fit_ranged] using h
    omega

/-- R56: the grants from the head on leave the capacities as they are, leave waiting a tail of the list, and keep a sum that
stood within a bound of at least E within it. -/
theorem Ledger.grantHeads_spec (w : List WaitEntry) :
    ∀ l : Ledger, (l.grantHeads w).1.capacity = l.capacity ∧ (l.grantHeads w).1.effective = l.effective ∧
      (l.grantHeads w).1.wait <:+ w ∧
      ∀ bound, l.effective ≤ bound → l.sum ≤ bound → (l.grantHeads w).1.sum ≤ bound := by
  induction w with
  | nil => intro l; exact ⟨rfl, rfl, List.suffix_refl _, fun _ _ h => h⟩
  | cons e es ih =>
    intro l
    simp only [Ledger.grantHeads]
    split
    · next g hg =>
      obtain ⟨h1, h2, h3, h4⟩ := ih (l.setHold e.who g)
      refine ⟨by simpa using h1, by simpa using h2, h3.trans (List.suffix_cons e es), fun bound hb hs => ?_⟩
      refine h4 bound (by simpa using hb) ?_
      rw [Ledger.setHold_sum]
      have := l.fit_le e.who hg
      omega
    · exact ⟨rfl, rfl, List.suffix_refl _, fun _ _ h => h⟩

/-- Every grant of a re-examination goes to a consumer that waited (R56). -/
theorem Ledger.grantHeads_who (w : List WaitEntry) :
    ∀ (l : Ledger), ∀ g ∈ (l.grantHeads w).2, g.1 ∈ w.map WaitEntry.who := by
  induction w with
  | nil => intro l g h; simp [Ledger.grantHeads] at h
  | cons e es ih =>
    intro l g h
    simp only [Ledger.grantHeads] at h
    split at h
    · simp only [List.mem_cons] at h
      rcases h with rfl | h
      · simp
      · simpa using Or.inr (by simpa using ih _ g h)
    · simp at h

/-- R55: a reduction keeps the capacities and a bound of the sum; one that is not lower does nothing. -/
theorem Ledger.lower_spec :
    (l.lower c n).1.capacity = l.capacity ∧ (l.lower c n).1.effective = l.effective ∧ (l.lower c n).1.wait <:+ l.wait ∧
      (l.hold c ≤ n → l.lower c n = (l, [])) ∧
      ∀ bound, l.effective ≤ bound → l.sum ≤ bound → (l.lower c n).1.sum ≤ bound := by
  unfold Ledger.lower Ledger.reexamine
  split
  · next h =>
    obtain ⟨h1, h2, h3, h4⟩ := Ledger.grantHeads_spec (l.setHold c n).wait (l.setHold c n)
    refine ⟨by simpa using h1, by simpa using h2, by simpa using h3, fun g => absurd h (by omega), fun bound hb hs => ?_⟩
    refine h4 bound (by simpa using hb) ?_
    rw [Ledger.setHold_sum]
    have := l.hold_le_sum c
    omega
  · exact ⟨rfl, rfl, List.suffix_refl _, fun _ => rfl, fun _ _ h => h⟩

/-- R57: a withdrawal keeps the capacities and a bound of the sum, and leaves no request of the consumer waiting. -/
theorem Ledger.withdraw_spec :
    (l.withdraw c).1.capacity = l.capacity ∧ (l.withdraw c).1.effective = l.effective ∧
      (l.withdraw c).1.wait.Sublist l.wait ∧ (l.withdraw c).1.waits c = false ∧
      (l.waits c = false → l.withdraw c = (l, [])) ∧
      ∀ bound, l.effective ≤ bound → l.sum ≤ bound → (l.withdraw c).1.sum ≤ bound := by
  unfold Ledger.withdraw Ledger.reexamine
  split
  · next h =>
    obtain ⟨h1, h2, h3, h4⟩ := Ledger.grantHeads_spec (l.wait.filter fun e => e.who ≠ c)
      { l with wait := l.wait.filter fun e => e.who ≠ c }
    refine ⟨h1, h2, h3.sublist.trans List.filter_sublist, ?_, fun g => by simp [h] at g, fun bound hb hs => h4 bound hb hs⟩
    simp only [Ledger.waits, List.any_eq_false, decide_eq_true_eq]
    intro e he
    have := h3.subset he
    simpa using (List.mem_filter.mp this).2
  · next h =>
    simp only [Bool.not_eq_true] at h
    exact ⟨rfl, rfl, List.Sublist.refl _, h, fun _ => rfl, fun _ _ h => h⟩

/-- R51 to R54: a request keeps the capacities and a bound of the sum; it is told NO_BUDGET exactly when it exceeds C. -/
theorem Ledger.request_spec (r : Req) :
    (l.request c r).ledger.capacity = l.capacity ∧ (l.request c r).ledger.effective = l.effective ∧
      ((l.request c r).noBudget = true ↔ l.capacity < r.need) ∧
      ∀ bound, l.effective ≤ bound → l.sum ≤ bound → (l.request c r).ledger.sum ≤ bound := by
  unfold Ledger.request
  split
  · split
    · next h => exact ⟨(l.withdraw_spec c).1, (l.withdraw_spec c).2.1, by simpa using h, (l.withdraw_spec c).2.2.2.2.2⟩
    · next h =>
      obtain ⟨h1, h2, -, h4⟩ := Ledger.grantHeads_spec (l.wait.map fun e => if e.who = c then ⟨c, r⟩ else e)
        { l with wait := l.wait.map fun e => if e.who = c then ⟨c, r⟩ else e }
      exact ⟨h1, h2, by simpa using h, fun bound hb hs => h4 bound hb hs⟩
  · split
    · next h => exact ⟨rfl, rfl, by simpa using h, fun _ _ h => h⟩
    · next h =>
      split
      · next g hg =>
        refine ⟨by simp, by simp, by simpa using h, fun bound hb hs => ?_⟩
        rw [Ledger.setHold_sum]
        have := l.fit_le c hg
        omega
      · exact ⟨rfl, rfl, by simpa using h, fun _ _ h => h⟩

end Sys2Proof.Machine
end

