-- ==== Sys2Proof/Laws/State.lean ====
section
/-! SUPPORT. One lemma per field per update of State, each true by rfl (after naming the bay). -/

namespace Sys2Proof.Machine

variable (s : State) (b c : Bay)

theorem Bay.cases_eq (b c : Bay) : c = b ∨ c = b.other := by cases b <;> cases c <;> simp [Bay.other]

@[simp] theorem Bay.other_ne (b : Bay) : b.other ≠ b := by cases b <;> decide

@[simp] theorem Bay.ne_other (b : Bay) : b ≠ b.other := by cases b <;> decide

@[simp] theorem Bay.other_other (b : Bay) : b.other.other = b := by cases b <;> rfl

@[simp] theorem State.bay_A : s.bay .A = s.bayA := rfl

@[simp] theorem State.bay_B : s.bay .B = s.bayB := rfl

@[simp] theorem State.setBay_bay (x : BayState) : (s.setBay b x).bay b = x := by cases b <;> rfl

theorem State.setBay_bay_ne (x : BayState) (h : c ≠ b) : (s.setBay b x).bay c = s.bay c := by
  cases b <;> cases c <;> first | rfl | exact absurd rfl h

@[simp] theorem State.setBay_bay_other (x : BayState) : (s.setBay b x).bay b.other = s.bay b.other :=
  State.setBay_bay_ne s b b.other x (by simp)

@[simp] theorem State.setBay_sau (x : BayState) : (s.setBay b x).sau = s.sau := by cases b <;> rfl

@[simp] theorem State.setBay_profile (x : BayState) : (s.setBay b x).profile = s.profile := by cases b <;> rfl

@[simp] theorem State.setBay_ledger (x : BayState) : (s.setBay b x).ledger = s.ledger := by cases b <;> rfl

@[simp] theorem State.setBay_sense (x : BayState) : (s.setBay b x).sense = s.sense := by cases b <;> rfl

@[simp] theorem State.setBay_store (x : BayState) : (s.setBay b x).store = s.store := by cases b <;> rfl

@[simp] theorem State.setBay_supply (x : BayState) : (s.setBay b x).supply = s.supply := by cases b <;> rfl

@[simp] theorem State.setBay_nextTag (x : BayState) : (s.setBay b x).nextTag = s.nextTag := by cases b <;> rfl

@[simp] theorem State.setBay_completions (x : BayState) : (s.setBay b x).completions = s.completions := by cases b <;> rfl

@[simp] theorem State.setBay_link (x : BayState) : (s.setBay b x).link = s.link := by cases b <;> rfl

@[simp] theorem State.setBay_refusals (x : BayState) : (s.setBay b x).refusals = s.refusals := by cases b <;> rfl

@[simp] theorem State.setBay_events (x : BayState) : (s.setBay b x).events = s.events := by cases b <;> rfl

@[simp] theorem State.setBay_partCnt (x : BayState) : (s.setBay b x).partCnt = s.partCnt := by cases b <;> rfl

@[simp] theorem State.setBay_freeCount (x : BayState) : (s.setBay b x).freeCount = s.freeCount := by cases b <;> rfl

@[simp] theorem State.setBay_pending (x : BayState) : (s.setBay b x).pending = s.pending := by cases b <;> rfl

@[simp] theorem State.modPins_bay_other (f : BayPins → BayPins) : (s.modPins b f).bay b.other = s.bay b.other := by
  cases b <;> rfl

theorem State.modPins_bay_ne (f : BayPins → BayPins) (h : c ≠ b) : (s.modPins b f).bay c = s.bay c :=
  State.setBay_bay_ne s b c _ h

@[simp] theorem State.modPins_pins (f : BayPins → BayPins) : ((s.modPins b f).bay b).pins = f (s.bay b).pins := by
  cases b <;> rfl

@[simp] theorem State.modPins_cart (f : BayPins → BayPins) : ((s.modPins b f).bay c).cart = (s.bay c).cart := by
  cases b <;> cases c <;> rfl

@[simp] theorem State.modPins_spin (f : BayPins → BayPins) : ((s.modPins b f).bay c).spin = (s.bay c).spin := by
  cases b <;> cases c <;> rfl

@[simp] theorem State.modPins_demod (f : BayPins → BayPins) : ((s.modPins b f).bay c).demod = (s.bay c).demod := by
  cases b <;> cases c <;> rfl

@[simp] theorem State.modPins_pos (f : BayPins → BayPins) : ((s.modPins b f).bay c).pos = (s.bay c).pos := by
  cases b <;> cases c <;> rfl

@[simp] theorem State.modPins_servo (f : BayPins → BayPins) : ((s.modPins b f).bay c).servo = (s.bay c).servo := by
  cases b <;> cases c <;> rfl

@[simp] theorem State.modPins_gate (f : BayPins → BayPins) : ((s.modPins b f).bay c).gate = (s.bay c).gate := by
  cases b <;> cases c <;> rfl

@[simp] theorem State.modPins_sched (f : BayPins → BayPins) : ((s.modPins b f).bay c).sched = (s.bay c).sched := by
  cases b <;> cases c <;> rfl

@[simp] theorem State.modPins_gains (f : BayPins → BayPins) : ((s.modPins b f).bay c).gains = (s.bay c).gains := by
  cases b <;> cases c <;> rfl

@[simp] theorem State.modPins_slot (f : BayPins → BayPins) : ((s.modPins b f).bay c).slot = (s.bay c).slot := by
  cases b <;> cases c <;> rfl

@[simp] theorem State.modPins_mon (f : BayPins → BayPins) : ((s.modPins b f).bay c).mon = (s.bay c).mon := by
  cases b <;> cases c <;> rfl

@[simp] theorem State.modPins_cnt (f : BayPins → BayPins) : ((s.modPins b f).bay c).cnt = (s.bay c).cnt := by
  cases b <;> cases c <;> rfl

@[simp] theorem State.modPins_sau (f : BayPins → BayPins) : (s.modPins b f).sau = s.sau := by cases b <;> rfl

@[simp] theorem State.modPins_profile (f : BayPins → BayPins) : (s.modPins b f).profile = s.profile := by cases b <;> rfl

@[simp] theorem State.modPins_ledger (f : BayPins → BayPins) : (s.modPins b f).ledger = s.ledger := by cases b <;> rfl

@[simp] theorem State.modPins_sense (f : BayPins → BayPins) : (s.modPins b f).sense = s.sense := by cases b <;> rfl

@[simp] theorem State.modPins_store (f : BayPins → BayPins) : (s.modPins b f).store = s.store := by cases b <;> rfl

@[simp] theorem State.modPins_supply (f : BayPins → BayPins) : (s.modPins b f).supply = s.supply := by cases b <;> rfl

@[simp] theorem State.modPins_nextTag (f : BayPins → BayPins) : (s.modPins b f).nextTag = s.nextTag := by cases b <;> rfl

@[simp] theorem State.modPins_completions (f : BayPins → BayPins) : (s.modPins b f).completions = s.completions := by cases b <;> rfl

@[simp] theorem State.modPins_link (f : BayPins → BayPins) : (s.modPins b f).link = s.link := by cases b <;> rfl

@[simp] theorem State.modPins_refusals (f : BayPins → BayPins) : (s.modPins b f).refusals = s.refusals := by cases b <;> rfl

@[simp] theorem State.modPins_events (f : BayPins → BayPins) : (s.modPins b f).events = s.events := by cases b <;> rfl

@[simp] theorem State.modPins_partCnt (f : BayPins → BayPins) : (s.modPins b f).partCnt = s.partCnt := by cases b <;> rfl

@[simp] theorem State.modPins_freeCount (f : BayPins → BayPins) : (s.modPins b f).freeCount = s.freeCount := by cases b <;> rfl

@[simp] theorem State.modPins_pending (f : BayPins → BayPins) : (s.modPins b f).pending = s.pending := by cases b <;> rfl

@[simp] theorem State.modCart_bay_other (f : Cartridge → Cartridge) : (s.modCart b f).bay b.other = s.bay b.other := by
  cases b <;> rfl

theorem State.modCart_bay_ne (f : Cartridge → Cartridge) (h : c ≠ b) : (s.modCart b f).bay c = s.bay c :=
  State.setBay_bay_ne s b c _ h

@[simp] theorem State.modCart_pins (f : Cartridge → Cartridge) : ((s.modCart b f).bay c).pins = (s.bay c).pins := by
  cases b <;> cases c <;> rfl

@[simp] theorem State.modCart_cart (f : Cartridge → Cartridge) : ((s.modCart b f).bay b).cart = f (s.bay b).cart := by
  cases b <;> rfl

@[simp] theorem State.modCart_spin (f : Cartridge → Cartridge) : ((s.modCart b f).bay c).spin = (s.bay c).spin := by
  cases b <;> cases c <;> rfl

@[simp] theorem State.modCart_demod (f : Cartridge → Cartridge) : ((s.modCart b f).bay c).demod = (s.bay c).demod := by
  cases b <;> cases c <;> rfl

@[simp] theorem State.modCart_pos (f : Cartridge → Cartridge) : ((s.modCart b f).bay c).pos = (s.bay c).pos := by
  cases b <;> cases c <;> rfl

@[simp] theorem State.modCart_servo (f : Cartridge → Cartridge) : ((s.modCart b f).bay c).servo = (s.bay c).servo := by
  cases b <;> cases c <;> rfl

@[simp] theorem State.modCart_gate (f : Cartridge → Cartridge) : ((s.modCart b f).bay c).gate = (s.bay c).gate := by
  cases b <;> cases c <;> rfl

@[simp] theorem State.modCart_sched (f : Cartridge → Cartridge) : ((s.modCart b f).bay c).sched = (s.bay c).sched := by
  cases b <;> cases c <;> rfl

@[simp] theorem State.modCart_gains (f : Cartridge → Cartridge) : ((s.modCart b f).bay c).gains = (s.bay c).gains := by
  cases b <;> cases c <;> rfl

@[simp] theorem State.modCart_slot (f : Cartridge → Cartridge) : ((s.modCart b f).bay c).slot = (s.bay c).slot := by
  cases b <;> cases c <;> rfl

@[simp] theorem State.modCart_mon (f : Cartridge → Cartridge) : ((s.modCart b f).bay c).mon = (s.bay c).mon := by
  cases b <;> cases c <;> rfl

@[simp] theorem State.modCart_cnt (f : Cartridge → Cartridge) : ((s.modCart b f).bay c).cnt = (s.bay c).cnt := by
  cases b <;> cases c <;> rfl

@[simp] theorem State.modCart_sau (f : Cartridge → Cartridge) : (s.modCart b f).sau = s.sau := by cases b <;> rfl

@[simp] theorem State.modCart_profile (f : Cartridge → Cartridge) : (s.modCart b f).profile = s.profile := by cases b <;> rfl

@[simp] theorem State.modCart_ledger (f : Cartridge → Cartridge) : (s.modCart b f).ledger = s.ledger := by cases b <;> rfl

@[simp] theorem State.modCart_sense (f : Cartridge → Cartridge) : (s.modCart b f).sense = s.sense := by cases b <;> rfl

@[simp] theorem State.modCart_store (f : Cartridge → Cartridge) : (s.modCart b f).store = s.store := by cases b <;> rfl

@[simp] theorem State.modCart_supply (f : Cartridge → Cartridge) : (s.modCart b f).supply = s.supply := by cases b <;> rfl

@[simp] theorem State.modCart_nextTag (f : Cartridge → Cartridge) : (s.modCart b f).nextTag = s.nextTag := by cases b <;> rfl

@[simp] theorem State.modCart_completions (f : Cartridge → Cartridge) : (s.modCart b f).completions = s.completions := by cases b <;> rfl

@[simp] theorem State.modCart_link (f : Cartridge → Cartridge) : (s.modCart b f).link = s.link := by cases b <;> rfl

@[simp] theorem State.modCart_refusals (f : Cartridge → Cartridge) : (s.modCart b f).refusals = s.refusals := by cases b <;> rfl

@[simp] theorem State.modCart_events (f : Cartridge → Cartridge) : (s.modCart b f).events = s.events := by cases b <;> rfl

@[simp] theorem State.modCart_partCnt (f : Cartridge → Cartridge) : (s.modCart b f).partCnt = s.partCnt := by cases b <;> rfl

@[simp] theorem State.modCart_freeCount (f : Cartridge → Cartridge) : (s.modCart b f).freeCount = s.freeCount := by cases b <;> rfl

@[simp] theorem State.modCart_pending (f : Cartridge → Cartridge) : (s.modCart b f).pending = s.pending := by cases b <;> rfl

@[simp] theorem State.modSpin_bay_other (f : Spindle → Spindle) : (s.modSpin b f).bay b.other = s.bay b.other := by
  cases b <;> rfl

theorem State.modSpin_bay_ne (f : Spindle → Spindle) (h : c ≠ b) : (s.modSpin b f).bay c = s.bay c :=
  State.setBay_bay_ne s b c _ h

@[simp] theorem State.modSpin_pins (f : Spindle → Spindle) : ((s.modSpin b f).bay c).pins = (s.bay c).pins := by
  cases b <;> cases c <;> rfl

@[simp] theorem State.modSpin_cart (f : Spindle → Spindle) : ((s.modSpin b f).bay c).cart = (s.bay c).cart := by
  cases b <;> cases c <;> rfl

@[simp] theorem State.modSpin_spin (f : Spindle → Spindle) : ((s.modSpin b f).bay b).spin = f (s.bay b).spin := by
  cases b <;> rfl

@[simp] theorem State.modSpin_demod (f : Spindle → Spindle) : ((s.modSpin b f).bay c).demod = (s.bay c).demod := by
  cases b <;> cases c <;> rfl

@[simp] theorem State.modSpin_pos (f : Spindle → Spindle) : ((s.modSpin b f).bay c).pos = (s.bay c).pos := by
  cases b <;> cases c <;> rfl

@[simp] theorem State.modSpin_servo (f : Spindle → Spindle) : ((s.modSpin b f).bay c).servo = (s.bay c).servo := by
  cases b <;> cases c <;> rfl

@[simp] theorem State.modSpin_gate (f : Spindle → Spindle) : ((s.modSpin b f).bay c).gate = (s.bay c).gate := by
  cases b <;> cases c <;> rfl

@[simp] theorem State.modSpin_sched (f : Spindle → Spindle) : ((s.modSpin b f).bay c).sched = (s.bay c).sched := by
  cases b <;> cases c <;> rfl

@[simp] theorem State.modSpin_gains (f : Spindle → Spindle) : ((s.modSpin b f).bay c).gains = (s.bay c).gains := by
  cases b <;> cases c <;> rfl

@[simp] theorem State.modSpin_slot (f : Spindle → Spindle) : ((s.modSpin b f).bay c).slot = (s.bay c).slot := by
  cases b <;> cases c <;> rfl

@[simp] theorem State.modSpin_mon (f : Spindle → Spindle) : ((s.modSpin b f).bay c).mon = (s.bay c).mon := by
  cases b <;> cases c <;> rfl

@[simp] theorem State.modSpin_cnt (f : Spindle → Spindle) : ((s.modSpin b f).bay c).cnt = (s.bay c).cnt := by
  cases b <;> cases c <;> rfl

@[simp] theorem State.modSpin_sau (f : Spindle → Spindle) : (s.modSpin b f).sau = s.sau := by cases b <;> rfl

@[simp] theorem State.modSpin_profile (f : Spindle → Spindle) : (s.modSpin b f).profile = s.profile := by cases b <;> rfl

@[simp] theorem State.modSpin_ledger (f : Spindle → Spindle) : (s.modSpin b f).ledger = s.ledger := by cases b <;> rfl

@[simp] theorem State.modSpin_sense (f : Spindle → Spindle) : (s.modSpin b f).sense = s.sense := by cases b <;> rfl

@[simp] theorem State.modSpin_store (f : Spindle → Spindle) : (s.modSpin b f).store = s.store := by cases b <;> rfl

@[simp] theorem State.modSpin_supply (f : Spindle → Spindle) : (s.modSpin b f).supply = s.supply := by cases b <;> rfl

@[simp] theorem State.modSpin_nextTag (f : Spindle → Spindle) : (s.modSpin b f).nextTag = s.nextTag := by cases b <;> rfl

@[simp] theorem State.modSpin_completions (f : Spindle → Spindle) : (s.modSpin b f).completions = s.completions := by cases b <;> rfl

@[simp] theorem State.modSpin_link (f : Spindle → Spindle) : (s.modSpin b f).link = s.link := by cases b <;> rfl

@[simp] theorem State.modSpin_refusals (f : Spindle → Spindle) : (s.modSpin b f).refusals = s.refusals := by cases b <;> rfl

@[simp] theorem State.modSpin_events (f : Spindle → Spindle) : (s.modSpin b f).events = s.events := by cases b <;> rfl

@[simp] theorem State.modSpin_partCnt (f : Spindle → Spindle) : (s.modSpin b f).partCnt = s.partCnt := by cases b <;> rfl

@[simp] theorem State.modSpin_freeCount (f : Spindle → Spindle) : (s.modSpin b f).freeCount = s.freeCount := by cases b <;> rfl

@[simp] theorem State.modSpin_pending (f : Spindle → Spindle) : (s.modSpin b f).pending = s.pending := by cases b <;> rfl

@[simp] theorem State.modDemod_bay_other (f : Demod → Demod) : (s.modDemod b f).bay b.other = s.bay b.other := by
  cases b <;> rfl

theorem State.modDemod_bay_ne (f : Demod → Demod) (h : c ≠ b) : (s.modDemod b f).bay c = s.bay c :=
  State.setBay_bay_ne s b c _ h

@[simp] theorem State.modDemod_pins (f : Demod → Demod) : ((s.modDemod b f).bay c).pins = (s.bay c).pins := by
  cases b <;> cases c <;> rfl

@[simp] theorem State.modDemod_cart (f : Demod → Demod) : ((s.modDemod b f).bay c).cart = (s.bay c).cart := by
  cases b <;> cases c <;> rfl

@[simp] theorem State.modDemod_spin (f : Demod → Demod) : ((s.modDemod b f).bay c).spin = (s.bay c).spin := by
  cases b <;> cases c <;> rfl

@[simp] theorem State.modDemod_demod (f : Demod → Demod) : ((s.modDemod b f).bay b).demod = f (s.bay b).demod := by
  cases b <;> rfl

@[simp] theorem State.modDemod_pos (f : Demod → Demod) : ((s.modDemod b f).bay c).pos = (s.bay c).pos := by
  cases b <;> cases c <;> rfl

@[simp] theorem State.modDemod_servo (f : Demod → Demod) : ((s.modDemod b f).bay c).servo = (s.bay c).servo := by
  cases b <;> cases c <;> rfl

@[simp] theorem State.modDemod_gate (f : Demod → Demod) : ((s.modDemod b f).bay c).gate = (s.bay c).gate := by
  cases b <;> cases c <;> rfl

@[simp] theorem State.modDemod_sched (f : Demod → Demod) : ((s.modDemod b f).bay c).sched = (s.bay c).sched := by
  cases b <;> cases c <;> rfl

@[simp] theorem State.modDemod_gains (f : Demod → Demod) : ((s.modDemod b f).bay c).gains = (s.bay c).gains := by
  cases b <;> cases c <;> rfl

@[simp] theorem State.modDemod_slot (f : Demod → Demod) : ((s.modDemod b f).bay c).slot = (s.bay c).slot := by
  cases b <;> cases c <;> rfl

@[simp] theorem State.modDemod_mon (f : Demod → Demod) : ((s.modDemod b f).bay c).mon = (s.bay c).mon := by
  cases b <;> cases c <;> rfl

@[simp] theorem State.modDemod_cnt (f : Demod → Demod) : ((s.modDemod b f).bay c).cnt = (s.bay c).cnt := by
  cases b <;> cases c <;> rfl

@[simp] theorem State.modDemod_sau (f : Demod → Demod) : (s.modDemod b f).sau = s.sau := by cases b <;> rfl

@[simp] theorem State.modDemod_profile (f : Demod → Demod) : (s.modDemod b f).profile = s.profile := by cases b <;> rfl

@[simp] theorem State.modDemod_ledger (f : Demod → Demod) : (s.modDemod b f).ledger = s.ledger := by cases b <;> rfl

@[simp] theorem State.modDemod_sense (f : Demod → Demod) : (s.modDemod b f).sense = s.sense := by cases b <;> rfl

@[simp] theorem State.modDemod_store (f : Demod → Demod) : (s.modDemod b f).store = s.store := by cases b <;> rfl

@[simp] theorem State.modDemod_supply (f : Demod → Demod) : (s.modDemod b f).supply = s.supply := by cases b <;> rfl

@[simp] theorem State.modDemod_nextTag (f : Demod → Demod) : (s.modDemod b f).nextTag = s.nextTag := by cases b <;> rfl

@[simp] theorem State.modDemod_completions (f : Demod → Demod) : (s.modDemod b f).completions = s.completions := by cases b <;> rfl

@[simp] theorem State.modDemod_link (f : Demod → Demod) : (s.modDemod b f).link = s.link := by cases b <;> rfl

@[simp] theorem State.modDemod_refusals (f : Demod → Demod) : (s.modDemod b f).refusals = s.refusals := by cases b <;> rfl

@[simp] theorem State.modDemod_events (f : Demod → Demod) : (s.modDemod b f).events = s.events := by cases b <;> rfl

@[simp] theorem State.modDemod_partCnt (f : Demod → Demod) : (s.modDemod b f).partCnt = s.partCnt := by cases b <;> rfl

@[simp] theorem State.modDemod_freeCount (f : Demod → Demod) : (s.modDemod b f).freeCount = s.freeCount := by cases b <;> rfl

@[simp] theorem State.modDemod_pending (f : Demod → Demod) : (s.modDemod b f).pending = s.pending := by cases b <;> rfl

@[simp] theorem State.modPos_bay_other (f : Positioner → Positioner) : (s.modPos b f).bay b.other = s.bay b.other := by
  cases b <;> rfl

theorem State.modPos_bay_ne (f : Positioner → Positioner) (h : c ≠ b) : (s.modPos b f).bay c = s.bay c :=
  State.setBay_bay_ne s b c _ h

@[simp] theorem State.modPos_pins (f : Positioner → Positioner) : ((s.modPos b f).bay c).pins = (s.bay c).pins := by
  cases b <;> cases c <;> rfl

@[simp] theorem State.modPos_cart (f : Positioner → Positioner) : ((s.modPos b f).bay c).cart = (s.bay c).cart := by
  cases b <;> cases c <;> rfl

@[simp] theorem State.modPos_spin (f : Positioner → Positioner) : ((s.modPos b f).bay c).spin = (s.bay c).spin := by
  cases b <;> cases c <;> rfl

@[simp] theorem State.modPos_demod (f : Positioner → Positioner) : ((s.modPos b f).bay c).demod = (s.bay c).demod := by
  cases b <;> cases c <;> rfl

@[simp] theorem State.modPos_pos (f : Positioner → Positioner) : ((s.modPos b f).bay b).pos = f (s.bay b).pos := by
  cases b <;> rfl

@[simp] theorem State.modPos_servo (f : Positioner → Positioner) : ((s.modPos b f).bay c).servo = (s.bay c).servo := by
  cases b <;> cases c <;> rfl

@[simp] theorem State.modPos_gate (f : Positioner → Positioner) : ((s.modPos b f).bay c).gate = (s.bay c).gate := by
  cases b <;> cases c <;> rfl

@[simp] theorem State.modPos_sched (f : Positioner → Positioner) : ((s.modPos b f).bay c).sched = (s.bay c).sched := by
  cases b <;> cases c <;> rfl

@[simp] theorem State.modPos_gains (f : Positioner → Positioner) : ((s.modPos b f).bay c).gains = (s.bay c).gains := by
  cases b <;> cases c <;> rfl

@[simp] theorem State.modPos_slot (f : Positioner → Positioner) : ((s.modPos b f).bay c).slot = (s.bay c).slot := by
  cases b <;> cases c <;> rfl

@[simp] theorem State.modPos_mon (f : Positioner → Positioner) : ((s.modPos b f).bay c).mon = (s.bay c).mon := by
  cases b <;> cases c <;> rfl

@[simp] theorem State.modPos_cnt (f : Positioner → Positioner) : ((s.modPos b f).bay c).cnt = (s.bay c).cnt := by
  cases b <;> cases c <;> rfl

@[simp] theorem State.modPos_sau (f : Positioner → Positioner) : (s.modPos b f).sau = s.sau := by cases b <;> rfl

@[simp] theorem State.modPos_profile (f : Positioner → Positioner) : (s.modPos b f).profile = s.profile := by cases b <;> rfl

@[simp] theorem State.modPos_ledger (f : Positioner → Positioner) : (s.modPos b f).ledger = s.ledger := by cases b <;> rfl

@[simp] theorem State.modPos_sense (f : Positioner → Positioner) : (s.modPos b f).sense = s.sense := by cases b <;> rfl

@[simp] theorem State.modPos_store (f : Positioner → Positioner) : (s.modPos b f).store = s.store := by cases b <;> rfl

@[simp] theorem State.modPos_supply (f : Positioner → Positioner) : (s.modPos b f).supply = s.supply := by cases b <;> rfl

@[simp] theorem State.modPos_nextTag (f : Positioner → Positioner) : (s.modPos b f).nextTag = s.nextTag := by cases b <;> rfl

@[simp] theorem State.modPos_completions (f : Positioner → Positioner) : (s.modPos b f).completions = s.completions := by cases b <;> rfl

@[simp] theorem State.modPos_link (f : Positioner → Positioner) : (s.modPos b f).link = s.link := by cases b <;> rfl

@[simp] theorem State.modPos_refusals (f : Positioner → Positioner) : (s.modPos b f).refusals = s.refusals := by cases b <;> rfl

@[simp] theorem State.modPos_events (f : Positioner → Positioner) : (s.modPos b f).events = s.events := by cases b <;> rfl

@[simp] theorem State.modPos_partCnt (f : Positioner → Positioner) : (s.modPos b f).partCnt = s.partCnt := by cases b <;> rfl

@[simp] theorem State.modPos_freeCount (f : Positioner → Positioner) : (s.modPos b f).freeCount = s.freeCount := by cases b <;> rfl

@[simp] theorem State.modPos_pending (f : Positioner → Positioner) : (s.modPos b f).pending = s.pending := by cases b <;> rfl

@[simp] theorem State.modServo_bay_other (f : Servo → Servo) : (s.modServo b f).bay b.other = s.bay b.other := by
  cases b <;> rfl

theorem State.modServo_bay_ne (f : Servo → Servo) (h : c ≠ b) : (s.modServo b f).bay c = s.bay c :=
  State.setBay_bay_ne s b c _ h

@[simp] theorem State.modServo_pins (f : Servo → Servo) : ((s.modServo b f).bay c).pins = (s.bay c).pins := by
  cases b <;> cases c <;> rfl

@[simp] theorem State.modServo_cart (f : Servo → Servo) : ((s.modServo b f).bay c).cart = (s.bay c).cart := by
  cases b <;> cases c <;> rfl

@[simp] theorem State.modServo_spin (f : Servo → Servo) : ((s.modServo b f).bay c).spin = (s.bay c).spin := by
  cases b <;> cases c <;> rfl

@[simp] theorem State.modServo_demod (f : Servo → Servo) : ((s.modServo b f).bay c).demod = (s.bay c).demod := by
  cases b <;> cases c <;> rfl

@[simp] theorem State.modServo_pos (f : Servo → Servo) : ((s.modServo b f).bay c).pos = (s.bay c).pos := by
  cases b <;> cases c <;> rfl

@[simp] theorem State.modServo_servo (f : Servo → Servo) : ((s.modServo b f).bay b).servo = f (s.bay b).servo := by
  cases b <;> rfl

@[simp] theorem State.modServo_gate (f : Servo → Servo) : ((s.modServo b f).bay c).gate = (s.bay c).gate := by
  cases b <;> cases c <;> rfl

@[simp] theorem State.modServo_sched (f : Servo → Servo) : ((s.modServo b f).bay c).sched = (s.bay c).sched := by
  cases b <;> cases c <;> rfl

@[simp] theorem State.modServo_gains (f : Servo → Servo) : ((s.modServo b f).bay c).gains = (s.bay c).gains := by
  cases b <;> cases c <;> rfl

@[simp] theorem State.modServo_slot (f : Servo → Servo) : ((s.modServo b f).bay c).slot = (s.bay c).slot := by
  cases b <;> cases c <;> rfl

@[simp] theorem State.modServo_mon (f : Servo → Servo) : ((s.modServo b f).bay c).mon = (s.bay c).mon := by
  cases b <;> cases c <;> rfl

@[simp] theorem State.modServo_cnt (f : Servo → Servo) : ((s.modServo b f).bay c).cnt = (s.bay c).cnt := by
  cases b <;> cases c <;> rfl

@[simp] theorem State.modServo_sau (f : Servo → Servo) : (s.modServo b f).sau = s.sau := by cases b <;> rfl

@[simp] theorem State.modServo_profile (f : Servo → Servo) : (s.modServo b f).profile = s.profile := by cases b <;> rfl

@[simp] theorem State.modServo_ledger (f : Servo → Servo) : (s.modServo b f).ledger = s.ledger := by cases b <;> rfl

@[simp] theorem State.modServo_sense (f : Servo → Servo) : (s.modServo b f).sense = s.sense := by cases b <;> rfl

@[simp] theorem State.modServo_store (f : Servo → Servo) : (s.modServo b f).store = s.store := by cases b <;> rfl

@[simp] theorem State.modServo_supply (f : Servo → Servo) : (s.modServo b f).supply = s.supply := by cases b <;> rfl

@[simp] theorem State.modServo_nextTag (f : Servo → Servo) : (s.modServo b f).nextTag = s.nextTag := by cases b <;> rfl

@[simp] theorem State.modServo_completions (f : Servo → Servo) : (s.modServo b f).completions = s.completions := by cases b <;> rfl

@[simp] theorem State.modServo_link (f : Servo → Servo) : (s.modServo b f).link = s.link := by cases b <;> rfl

@[simp] theorem State.modServo_refusals (f : Servo → Servo) : (s.modServo b f).refusals = s.refusals := by cases b <;> rfl

@[simp] theorem State.modServo_events (f : Servo → Servo) : (s.modServo b f).events = s.events := by cases b <;> rfl

@[simp] theorem State.modServo_partCnt (f : Servo → Servo) : (s.modServo b f).partCnt = s.partCnt := by cases b <;> rfl

@[simp] theorem State.modServo_freeCount (f : Servo → Servo) : (s.modServo b f).freeCount = s.freeCount := by cases b <;> rfl

@[simp] theorem State.modServo_pending (f : Servo → Servo) : (s.modServo b f).pending = s.pending := by cases b <;> rfl

@[simp] theorem State.modGate_bay_other (f : Gate → Gate) : (s.modGate b f).bay b.other = s.bay b.other := by
  cases b <;> rfl

theorem State.modGate_bay_ne (f : Gate → Gate) (h : c ≠ b) : (s.modGate b f).bay c = s.bay c :=
  State.setBay_bay_ne s b c _ h

@[simp] theorem State.modGate_pins (f : Gate → Gate) : ((s.modGate b f).bay c).pins = (s.bay c).pins := by
  cases b <;> cases c <;> rfl

@[simp] theorem State.modGate_cart (f : Gate → Gate) : ((s.modGate b f).bay c).cart = (s.bay c).cart := by
  cases b <;> cases c <;> rfl

@[simp] theorem State.modGate_spin (f : Gate → Gate) : ((s.modGate b f).bay c).spin = (s.bay c).spin := by
  cases b <;> cases c <;> rfl

@[simp] theorem State.modGate_demod (f : Gate → Gate) : ((s.modGate b f).bay c).demod = (s.bay c).demod := by
  cases b <;> cases c <;> rfl

@[simp] theorem State.modGate_pos (f : Gate → Gate) : ((s.modGate b f).bay c).pos = (s.bay c).pos := by
  cases b <;> cases c <;> rfl

@[simp] theorem State.modGate_servo (f : Gate → Gate) : ((s.modGate b f).bay c).servo = (s.bay c).servo := by
  cases b <;> cases c <;> rfl

@[simp] theorem State.modGate_gate (f : Gate → Gate) : ((s.modGate b f).bay b).gate = f (s.bay b).gate := by
  cases b <;> rfl

@[simp] theorem State.modGate_sched (f : Gate → Gate) : ((s.modGate b f).bay c).sched = (s.bay c).sched := by
  cases b <;> cases c <;> rfl

@[simp] theorem State.modGate_gains (f : Gate → Gate) : ((s.modGate b f).bay c).gains = (s.bay c).gains := by
  cases b <;> cases c <;> rfl

@[simp] theorem State.modGate_slot (f : Gate → Gate) : ((s.modGate b f).bay c).slot = (s.bay c).slot := by
  cases b <;> cases c <;> rfl

@[simp] theorem State.modGate_mon (f : Gate → Gate) : ((s.modGate b f).bay c).mon = (s.bay c).mon := by
  cases b <;> cases c <;> rfl

@[simp] theorem State.modGate_cnt (f : Gate → Gate) : ((s.modGate b f).bay c).cnt = (s.bay c).cnt := by
  cases b <;> cases c <;> rfl

@[simp] theorem State.modGate_sau (f : Gate → Gate) : (s.modGate b f).sau = s.sau := by cases b <;> rfl

@[simp] theorem State.modGate_profile (f : Gate → Gate) : (s.modGate b f).profile = s.profile := by cases b <;> rfl

@[simp] theorem State.modGate_ledger (f : Gate → Gate) : (s.modGate b f).ledger = s.ledger := by cases b <;> rfl

@[simp] theorem State.modGate_sense (f : Gate → Gate) : (s.modGate b f).sense = s.sense := by cases b <;> rfl

@[simp] theorem State.modGate_store (f : Gate → Gate) : (s.modGate b f).store = s.store := by cases b <;> rfl

@[simp] theorem State.modGate_supply (f : Gate → Gate) : (s.modGate b f).supply = s.supply := by cases b <;> rfl

@[simp] theorem State.modGate_nextTag (f : Gate → Gate) : (s.modGate b f).nextTag = s.nextTag := by cases b <;> rfl

@[simp] theorem State.modGate_completions (f : Gate → Gate) : (s.modGate b f).completions = s.completions := by cases b <;> rfl

@[simp] theorem State.modGate_link (f : Gate → Gate) : (s.modGate b f).link = s.link := by cases b <;> rfl

@[simp] theorem State.modGate_refusals (f : Gate → Gate) : (s.modGate b f).refusals = s.refusals := by cases b <;> rfl

@[simp] theorem State.modGate_events (f : Gate → Gate) : (s.modGate b f).events = s.events := by cases b <;> rfl

@[simp] theorem State.modGate_partCnt (f : Gate → Gate) : (s.modGate b f).partCnt = s.partCnt := by cases b <;> rfl

@[simp] theorem State.modGate_freeCount (f : Gate → Gate) : (s.modGate b f).freeCount = s.freeCount := by cases b <;> rfl

@[simp] theorem State.modGate_pending (f : Gate → Gate) : (s.modGate b f).pending = s.pending := by cases b <;> rfl

@[simp] theorem State.modSched_bay_other (f : Sched → Sched) : (s.modSched b f).bay b.other = s.bay b.other := by
  cases b <;> rfl

theorem State.modSched_bay_ne (f : Sched → Sched) (h : c ≠ b) : (s.modSched b f).bay c = s.bay c :=
  State.setBay_bay_ne s b c _ h

@[simp] theorem State.modSched_pins (f : Sched → Sched) : ((s.modSched b f).bay c).pins = (s.bay c).pins := by
  cases b <;> cases c <;> rfl

@[simp] theorem State.modSched_cart (f : Sched → Sched) : ((s.modSched b f).bay c).cart = (s.bay c).cart := by
  cases b <;> cases c <;> rfl

@[simp] theorem State.modSched_spin (f : Sched → Sched) : ((s.modSched b f).bay c).spin = (s.bay c).spin := by
  cases b <;> cases c <;> rfl

@[simp] theorem State.modSched_demod (f : Sched → Sched) : ((s.modSched b f).bay c).demod = (s.bay c).demod := by
  cases b <;> cases c <;> rfl

@[simp] theorem State.modSched_pos (f : Sched → Sched) : ((s.modSched b f).bay c).pos = (s.bay c).pos := by
  cases b <;> cases c <;> rfl

@[simp] theorem State.modSched_servo (f : Sched → Sched) : ((s.modSched b f).bay c).servo = (s.bay c).servo := by
  cases b <;> cases c <;> rfl

@[simp] theorem State.modSched_gate (f : Sched → Sched) : ((s.modSched b f).bay c).gate = (s.bay c).gate := by
  cases b <;> cases c <;> rfl

@[simp] theorem State.modSched_sched (f : Sched → Sched) : ((s.modSched b f).bay b).sched = f (s.bay b).sched := by
  cases b <;> rfl

@[simp] theorem State.modSched_gains (f : Sched → Sched) : ((s.modSched b f).bay c).gains = (s.bay c).gains := by
  cases b <;> cases c <;> rfl

@[simp] theorem State.modSched_slot (f : Sched → Sched) : ((s.modSched b f).bay c).slot = (s.bay c).slot := by
  cases b <;> cases c <;> rfl

@[simp] theorem State.modSched_mon (f : Sched → Sched) : ((s.modSched b f).bay c).mon = (s.bay c).mon := by
  cases b <;> cases c <;> rfl

@[simp] theorem State.modSched_cnt (f : Sched → Sched) : ((s.modSched b f).bay c).cnt = (s.bay c).cnt := by
  cases b <;> cases c <;> rfl

@[simp] theorem State.modSched_sau (f : Sched → Sched) : (s.modSched b f).sau = s.sau := by cases b <;> rfl

@[simp] theorem State.modSched_profile (f : Sched → Sched) : (s.modSched b f).profile = s.profile := by cases b <;> rfl

@[simp] theorem State.modSched_ledger (f : Sched → Sched) : (s.modSched b f).ledger = s.ledger := by cases b <;> rfl

@[simp] theorem State.modSched_sense (f : Sched → Sched) : (s.modSched b f).sense = s.sense := by cases b <;> rfl

@[simp] theorem State.modSched_store (f : Sched → Sched) : (s.modSched b f).store = s.store := by cases b <;> rfl

@[simp] theorem State.modSched_supply (f : Sched → Sched) : (s.modSched b f).supply = s.supply := by cases b <;> rfl

@[simp] theorem State.modSched_nextTag (f : Sched → Sched) : (s.modSched b f).nextTag = s.nextTag := by cases b <;> rfl

@[simp] theorem State.modSched_completions (f : Sched → Sched) : (s.modSched b f).completions = s.completions := by cases b <;> rfl

@[simp] theorem State.modSched_link (f : Sched → Sched) : (s.modSched b f).link = s.link := by cases b <;> rfl

@[simp] theorem State.modSched_refusals (f : Sched → Sched) : (s.modSched b f).refusals = s.refusals := by cases b <;> rfl

@[simp] theorem State.modSched_events (f : Sched → Sched) : (s.modSched b f).events = s.events := by cases b <;> rfl

@[simp] theorem State.modSched_partCnt (f : Sched → Sched) : (s.modSched b f).partCnt = s.partCnt := by cases b <;> rfl

@[simp] theorem State.modSched_freeCount (f : Sched → Sched) : (s.modSched b f).freeCount = s.freeCount := by cases b <;> rfl

@[simp] theorem State.modSched_pending (f : Sched → Sched) : (s.modSched b f).pending = s.pending := by cases b <;> rfl

@[simp] theorem State.modGains_bay_other (f : Gains → Gains) : (s.modGains b f).bay b.other = s.bay b.other := by
  cases b <;> rfl

theorem State.modGains_bay_ne (f : Gains → Gains) (h : c ≠ b) : (s.modGains b f).bay c = s.bay c :=
  State.setBay_bay_ne s b c _ h

@[simp] theorem State.modGains_pins (f : Gains → Gains) : ((s.modGains b f).bay c).pins = (s.bay c).pins := by
  cases b <;> cases c <;> rfl

@[simp] theorem State.modGains_cart (f : Gains → Gains) : ((s.modGains b f).bay c).cart = (s.bay c).cart := by
  cases b <;> cases c <;> rfl

@[simp] theorem State.modGains_spin (f : Gains → Gains) : ((s.modGains b f).bay c).spin = (s.bay c).spin := by
  cases b <;> cases c <;> rfl

@[simp] theorem State.modGains_demod (f : Gains → Gains) : ((s.modGains b f).bay c).demod = (s.bay c).demod := by
  cases b <;> cases c <;> rfl

@[simp] theorem State.modGains_pos (f : Gains → Gains) : ((s.modGains b f).bay c).pos = (s.bay c).pos := by
  cases b <;> cases c <;> rfl

@[simp] theorem State.modGains_servo (f : Gains → Gains) : ((s.modGains b f).bay c).servo = (s.bay c).servo := by
  cases b <;> cases c <;> rfl

@[simp] theorem State.modGains_gate (f : Gains → Gains) : ((s.modGains b f).bay c).gate = (s.bay c).gate := by
  cases b <;> cases c <;> rfl

@[simp] theorem State.modGains_sched (f : Gains → Gains) : ((s.modGains b f).bay c).sched = (s.bay c).sched := by
  cases b <;> cases c <;> rfl

@[simp] theorem State.modGains_gains (f : Gains → Gains) : ((s.modGains b f).bay b).gains = f (s.bay b).gains := by
  cases b <;> rfl

@[simp] theorem State.modGains_slot (f : Gains → Gains) : ((s.modGains b f).bay c).slot = (s.bay c).slot := by
  cases b <;> cases c <;> rfl

@[simp] theorem State.modGains_mon (f : Gains → Gains) : ((s.modGains b f).bay c).mon = (s.bay c).mon := by
  cases b <;> cases c <;> rfl

@[simp] theorem State.modGains_cnt (f : Gains → Gains) : ((s.modGains b f).bay c).cnt = (s.bay c).cnt := by
  cases b <;> cases c <;> rfl

@[simp] theorem State.modGains_sau (f : Gains → Gains) : (s.modGains b f).sau = s.sau := by cases b <;> rfl

@[simp] theorem State.modGains_profile (f : Gains → Gains) : (s.modGains b f).profile = s.profile := by cases b <;> rfl

@[simp] theorem State.modGains_ledger (f : Gains → Gains) : (s.modGains b f).ledger = s.ledger := by cases b <;> rfl

@[simp] theorem State.modGains_sense (f : Gains → Gains) : (s.modGains b f).sense = s.sense := by cases b <;> rfl

@[simp] theorem State.modGains_store (f : Gains → Gains) : (s.modGains b f).store = s.store := by cases b <;> rfl

@[simp] theorem State.modGains_supply (f : Gains → Gains) : (s.modGains b f).supply = s.supply := by cases b <;> rfl

@[simp] theorem State.modGains_nextTag (f : Gains → Gains) : (s.modGains b f).nextTag = s.nextTag := by cases b <;> rfl

@[simp] theorem State.modGains_completions (f : Gains → Gains) : (s.modGains b f).completions = s.completions := by cases b <;> rfl

@[simp] theorem State.modGains_link (f : Gains → Gains) : (s.modGains b f).link = s.link := by cases b <;> rfl

@[simp] theorem State.modGains_refusals (f : Gains → Gains) : (s.modGains b f).refusals = s.refusals := by cases b <;> rfl

@[simp] theorem State.modGains_events (f : Gains → Gains) : (s.modGains b f).events = s.events := by cases b <;> rfl

@[simp] theorem State.modGains_partCnt (f : Gains → Gains) : (s.modGains b f).partCnt = s.partCnt := by cases b <;> rfl

@[simp] theorem State.modGains_freeCount (f : Gains → Gains) : (s.modGains b f).freeCount = s.freeCount := by cases b <;> rfl

@[simp] theorem State.modGains_pending (f : Gains → Gains) : (s.modGains b f).pending = s.pending := by cases b <;> rfl

@[simp] theorem State.modSlot_bay_other (f : Option Report → Option Report) : (s.modSlot b f).bay b.other = s.bay b.other := by
  cases b <;> rfl

theorem State.modSlot_bay_ne (f : Option Report → Option Report) (h : c ≠ b) : (s.modSlot b f).bay c = s.bay c :=
  State.setBay_bay_ne s b c _ h

@[simp] theorem State.modSlot_pins (f : Option Report → Option Report) : ((s.modSlot b f).bay c).pins = (s.bay c).pins := by
  cases b <;> cases c <;> rfl

@[simp] theorem State.modSlot_cart (f : Option Report → Option Report) : ((s.modSlot b f).bay c).cart = (s.bay c).cart := by
  cases b <;> cases c <;> rfl

@[simp] theorem State.modSlot_spin (f : Option Report → Option Report) : ((s.modSlot b f).bay c).spin = (s.bay c).spin := by
  cases b <;> cases c <;> rfl

@[simp] theorem State.modSlot_demod (f : Option Report → Option Report) : ((s.modSlot b f).bay c).demod = (s.bay c).demod := by
  cases b <;> cases c <;> rfl

@[simp] theorem State.modSlot_pos (f : Option Report → Option Report) : ((s.modSlot b f).bay c).pos = (s.bay c).pos := by
  cases b <;> cases c <;> rfl

@[simp] theorem State.modSlot_servo (f : Option Report → Option Report) : ((s.modSlot b f).bay c).servo = (s.bay c).servo := by
  cases b <;> cases c <;> rfl

@[simp] theorem State.modSlot_gate (f : Option Report → Option Report) : ((s.modSlot b f).bay c).gate = (s.bay c).gate := by
  cases b <;> cases c <;> rfl

@[simp] theorem State.modSlot_sched (f : Option Report → Option Report) : ((s.modSlot b f).bay c).sched = (s.bay c).sched := by
  cases b <;> cases c <;> rfl

@[simp] theorem State.modSlot_gains (f : Option Report → Option Report) : ((s.modSlot b f).bay c).gains = (s.bay c).gains := by
  cases b <;> cases c <;> rfl

@[simp] theorem State.modSlot_slot (f : Option Report → Option Report) : ((s.modSlot b f).bay b).slot = f (s.bay b).slot := by
  cases b <;> rfl

@[simp] theorem State.modSlot_mon (f : Option Report → Option Report) : ((s.modSlot b f).bay c).mon = (s.bay c).mon := by
  cases b <;> cases c <;> rfl

@[simp] theorem State.modSlot_cnt (f : Option Report → Option Report) : ((s.modSlot b f).bay c).cnt = (s.bay c).cnt := by
  cases b <;> cases c <;> rfl

@[simp] theorem State.modSlot_sau (f : Option Report → Option Report) : (s.modSlot b f).sau = s.sau := by cases b <;> rfl

@[simp] theorem State.modSlot_profile (f : Option Report → Option Report) : (s.modSlot b f).profile = s.profile := by cases b <;> rfl

@[simp] theorem State.modSlot_ledger (f : Option Report → Option Report) : (s.modSlot b f).ledger = s.ledger := by cases b <;> rfl

@[simp] theorem State.modSlot_sense (f : Option Report → Option Report) : (s.modSlot b f).sense = s.sense := by cases b <;> rfl

@[simp] theorem State.modSlot_store (f : Option Report → Option Report) : (s.modSlot b f).store = s.store := by cases b <;> rfl

@[simp] theorem State.modSlot_supply (f : Option Report → Option Report) : (s.modSlot b f).supply = s.supply := by cases b <;> rfl

@[simp] theorem State.modSlot_nextTag (f : Option Report → Option Report) : (s.modSlot b f).nextTag = s.nextTag := by cases b <;> rfl

@[simp] theorem State.modSlot_completions (f : Option Report → Option Report) : (s.modSlot b f).completions = s.completions := by cases b <;> rfl

@[simp] theorem State.modSlot_link (f : Option Report → Option Report) : (s.modSlot b f).link = s.link := by cases b <;> rfl

@[simp] theorem State.modSlot_refusals (f : Option Report → Option Report) : (s.modSlot b f).refusals = s.refusals := by cases b <;> rfl

@[simp] theorem State.modSlot_events (f : Option Report → Option Report) : (s.modSlot b f).events = s.events := by cases b <;> rfl

@[simp] theorem State.modSlot_partCnt (f : Option Report → Option Report) : (s.modSlot b f).partCnt = s.partCnt := by cases b <;> rfl

@[simp] theorem State.modSlot_freeCount (f : Option Report → Option Report) : (s.modSlot b f).freeCount = s.freeCount := by cases b <;> rfl

@[simp] theorem State.modSlot_pending (f : Option Report → Option Report) : (s.modSlot b f).pending = s.pending := by cases b <;> rfl

@[simp] theorem State.modMon_bay_other (f : Monitor → Monitor) : (s.modMon b f).bay b.other = s.bay b.other := by
  cases b <;> rfl

theorem State.modMon_bay_ne (f : Monitor → Monitor) (h : c ≠ b) : (s.modMon b f).bay c = s.bay c :=
  State.setBay_bay_ne s b c _ h

@[simp] theorem State.modMon_pins (f : Monitor → Monitor) : ((s.modMon b f).bay c).pins = (s.bay c).pins := by
  cases b <;> cases c <;> rfl

@[simp] theorem State.modMon_cart (f : Monitor → Monitor) : ((s.modMon b f).bay c).cart = (s.bay c).cart := by
  cases b <;> cases c <;> rfl

@[simp] theorem State.modMon_spin (f : Monitor → Monitor) : ((s.modMon b f).bay c).spin = (s.bay c).spin := by
  cases b <;> cases c <;> rfl

@[simp] theorem State.modMon_demod (f : Monitor → Monitor) : ((s.modMon b f).bay c).demod = (s.bay c).demod := by
  cases b <;> cases c <;> rfl

@[simp] theorem State.modMon_pos (f : Monitor → Monitor) : ((s.modMon b f).bay c).pos = (s.bay c).pos := by
  cases b <;> cases c <;> rfl

@[simp] theorem State.modMon_servo (f : Monitor → Monitor) : ((s.modMon b f).bay c).servo = (s.bay c).servo := by
  cases b <;> cases c <;> rfl

@[simp] theorem State.modMon_gate (f : Monitor → Monitor) : ((s.modMon b f).bay c).gate = (s.bay c).gate := by
  cases b <;> cases c <;> rfl

@[simp] theorem State.modMon_sched (f : Monitor → Monitor) : ((s.modMon b f).bay c).sched = (s.bay c).sched := by
  cases b <;> cases c <;> rfl

@[simp] theorem State.modMon_gains (f : Monitor → Monitor) : ((s.modMon b f).bay c).gains = (s.bay c).gains := by
  cases b <;> cases c <;> rfl

@[simp] theorem State.modMon_slot (f : Monitor → Monitor) : ((s.modMon b f).bay c).slot = (s.bay c).slot := by
  cases b <;> cases c <;> rfl

@[simp] theorem State.modMon_mon (f : Monitor → Monitor) : ((s.modMon b f).bay b).mon = f (s.bay b).mon := by
  cases b <;> rfl

@[simp] theorem State.modMon_cnt (f : Monitor → Monitor) : ((s.modMon b f).bay c).cnt = (s.bay c).cnt := by
  cases b <;> cases c <;> rfl

@[simp] theorem State.modMon_sau (f : Monitor → Monitor) : (s.modMon b f).sau = s.sau := by cases b <;> rfl

@[simp] theorem State.modMon_profile (f : Monitor → Monitor) : (s.modMon b f).profile = s.profile := by cases b <;> rfl

@[simp] theorem State.modMon_ledger (f : Monitor → Monitor) : (s.modMon b f).ledger = s.ledger := by cases b <;> rfl

@[simp] theorem State.modMon_sense (f : Monitor → Monitor) : (s.modMon b f).sense = s.sense := by cases b <;> rfl

@[simp] theorem State.modMon_store (f : Monitor → Monitor) : (s.modMon b f).store = s.store := by cases b <;> rfl

@[simp] theorem State.modMon_supply (f : Monitor → Monitor) : (s.modMon b f).supply = s.supply := by cases b <;> rfl

@[simp] theorem State.modMon_nextTag (f : Monitor → Monitor) : (s.modMon b f).nextTag = s.nextTag := by cases b <;> rfl

@[simp] theorem State.modMon_completions (f : Monitor → Monitor) : (s.modMon b f).completions = s.completions := by cases b <;> rfl

@[simp] theorem State.modMon_link (f : Monitor → Monitor) : (s.modMon b f).link = s.link := by cases b <;> rfl

@[simp] theorem State.modMon_refusals (f : Monitor → Monitor) : (s.modMon b f).refusals = s.refusals := by cases b <;> rfl

@[simp] theorem State.modMon_events (f : Monitor → Monitor) : (s.modMon b f).events = s.events := by cases b <;> rfl

@[simp] theorem State.modMon_partCnt (f : Monitor → Monitor) : (s.modMon b f).partCnt = s.partCnt := by cases b <;> rfl

@[simp] theorem State.modMon_freeCount (f : Monitor → Monitor) : (s.modMon b f).freeCount = s.freeCount := by cases b <;> rfl

@[simp] theorem State.modMon_pending (f : Monitor → Monitor) : (s.modMon b f).pending = s.pending := by cases b <;> rfl

@[simp] theorem State.modCnt_bay_other (f : BayCounters → BayCounters) : (s.modCnt b f).bay b.other = s.bay b.other := by
  cases b <;> rfl

theorem State.modCnt_bay_ne (f : BayCounters → BayCounters) (h : c ≠ b) : (s.modCnt b f).bay c = s.bay c :=
  State.setBay_bay_ne s b c _ h

@[simp] theorem State.modCnt_pins (f : BayCounters → BayCounters) : ((s.modCnt b f).bay c).pins = (s.bay c).pins := by
  cases b <;> cases c <;> rfl

@[simp] theorem State.modCnt_cart (f : BayCounters → BayCounters) : ((s.modCnt b f).bay c).cart = (s.bay c).cart := by
  cases b <;> cases c <;> rfl

@[simp] theorem State.modCnt_spin (f : BayCounters → BayCounters) : ((s.modCnt b f).bay c).spin = (s.bay c).spin := by
  cases b <;> cases c <;> rfl

@[simp] theorem State.modCnt_demod (f : BayCounters → BayCounters) : ((s.modCnt b f).bay c).demod = (s.bay c).demod := by
  cases b <;> cases c <;> rfl

@[simp] theorem State.modCnt_pos (f : BayCounters → BayCounters) : ((s.modCnt b f).bay c).pos = (s.bay c).pos := by
  cases b <;> cases c <;> rfl

@[simp] theorem State.modCnt_servo (f : BayCounters → BayCounters) : ((s.modCnt b f).bay c).servo = (s.bay c).servo := by
  cases b <;> cases c <;> rfl

@[simp] theorem State.modCnt_gate (f : BayCounters → BayCounters) : ((s.modCnt b f).bay c).gate = (s.bay c).gate := by
  cases b <;> cases c <;> rfl

@[simp] theorem State.modCnt_sched (f : BayCounters → BayCounters) : ((s.modCnt b f).bay c).sched = (s.bay c).sched := by
  cases b <;> cases c <;> rfl

@[simp] theorem State.modCnt_gains (f : BayCounters → BayCounters) : ((s.modCnt b f).bay c).gains = (s.bay c).gains := by
  cases b <;> cases c <;> rfl

@[simp] theorem State.modCnt_slot (f : BayCounters → BayCounters) : ((s.modCnt b f).bay c).slot = (s.bay c).slot := by
  cases b <;> cases c <;> rfl

@[simp] theorem State.modCnt_mon (f : BayCounters → BayCounters) : ((s.modCnt b f).bay c).mon = (s.bay c).mon := by
  cases b <;> cases c <;> rfl

@[simp] theorem State.modCnt_cnt (f : BayCounters → BayCounters) : ((s.modCnt b f).bay b).cnt = f (s.bay b).cnt := by
  cases b <;> rfl

@[simp] theorem State.modCnt_sau (f : BayCounters → BayCounters) : (s.modCnt b f).sau = s.sau := by cases b <;> rfl

@[simp] theorem State.modCnt_profile (f : BayCounters → BayCounters) : (s.modCnt b f).profile = s.profile := by cases b <;> rfl

@[simp] theorem State.modCnt_ledger (f : BayCounters → BayCounters) : (s.modCnt b f).ledger = s.ledger := by cases b <;> rfl

@[simp] theorem State.modCnt_sense (f : BayCounters → BayCounters) : (s.modCnt b f).sense = s.sense := by cases b <;> rfl

@[simp] theorem State.modCnt_store (f : BayCounters → BayCounters) : (s.modCnt b f).store = s.store := by cases b <;> rfl

@[simp] theorem State.modCnt_supply (f : BayCounters → BayCounters) : (s.modCnt b f).supply = s.supply := by cases b <;> rfl

@[simp] theorem State.modCnt_nextTag (f : BayCounters → BayCounters) : (s.modCnt b f).nextTag = s.nextTag := by cases b <;> rfl

@[simp] theorem State.modCnt_completions (f : BayCounters → BayCounters) : (s.modCnt b f).completions = s.completions := by cases b <;> rfl

@[simp] theorem State.modCnt_link (f : BayCounters → BayCounters) : (s.modCnt b f).link = s.link := by cases b <;> rfl

@[simp] theorem State.modCnt_refusals (f : BayCounters → BayCounters) : (s.modCnt b f).refusals = s.refusals := by cases b <;> rfl

@[simp] theorem State.modCnt_events (f : BayCounters → BayCounters) : (s.modCnt b f).events = s.events := by cases b <;> rfl

@[simp] theorem State.modCnt_partCnt (f : BayCounters → BayCounters) : (s.modCnt b f).partCnt = s.partCnt := by cases b <;> rfl

@[simp] theorem State.modCnt_freeCount (f : BayCounters → BayCounters) : (s.modCnt b f).freeCount = s.freeCount := by cases b <;> rfl

@[simp] theorem State.modCnt_pending (f : BayCounters → BayCounters) : (s.modCnt b f).pending = s.pending := by cases b <;> rfl

@[simp] theorem State.setSau_bay (x : Option Computation) : (s.setSau x).bay c = s.bay c := by cases c <;> rfl

@[simp] theorem State.setSau_sau (x : Option Computation) : (s.setSau x).sau = x := rfl

@[simp] theorem State.setSau_profile (x : Option Computation) : (s.setSau x).profile = s.profile := rfl

@[simp] theorem State.setSau_ledger (x : Option Computation) : (s.setSau x).ledger = s.ledger := rfl

@[simp] theorem State.setSau_sense (x : Option Computation) : (s.setSau x).sense = s.sense := rfl

@[simp] theorem State.setSau_store (x : Option Computation) : (s.setSau x).store = s.store := rfl

@[simp] theorem State.setSau_supply (x : Option Computation) : (s.setSau x).supply = s.supply := rfl

@[simp] theorem State.setSau_nextTag (x : Option Computation) : (s.setSau x).nextTag = s.nextTag := rfl

@[simp] theorem State.setSau_completions (x : Option Computation) : (s.setSau x).completions = s.completions := rfl

@[simp] theorem State.setSau_link (x : Option Computation) : (s.setSau x).link = s.link := rfl

@[simp] theorem State.setSau_refusals (x : Option Computation) : (s.setSau x).refusals = s.refusals := rfl

@[simp] theorem State.setSau_events (x : Option Computation) : (s.setSau x).events = s.events := rfl

@[simp] theorem State.setSau_partCnt (x : Option Computation) : (s.setSau x).partCnt = s.partCnt := rfl

@[simp] theorem State.setSau_freeCount (x : Option Computation) : (s.setSau x).freeCount = s.freeCount := rfl

@[simp] theorem State.setSau_pending (x : Option Computation) : (s.setSau x).pending = s.pending := rfl

@[simp] theorem State.setProfile_bay (x : List Nat) : (s.setProfile x).bay c = s.bay c := by cases c <;> rfl

@[simp] theorem State.setProfile_sau (x : List Nat) : (s.setProfile x).sau = s.sau := rfl

@[simp] theorem State.setProfile_profile (x : List Nat) : (s.setProfile x).profile = x := rfl

@[simp] theorem State.setProfile_ledger (x : List Nat) : (s.setProfile x).ledger = s.ledger := rfl

@[simp] theorem State.setProfile_sense (x : List Nat) : (s.setProfile x).sense = s.sense := rfl

@[simp] theorem State.setProfile_store (x : List Nat) : (s.setProfile x).store = s.store := rfl

@[simp] theorem State.setProfile_supply (x : List Nat) : (s.setProfile x).supply = s.supply := rfl

@[simp] theorem State.setProfile_nextTag (x : List Nat) : (s.setProfile x).nextTag = s.nextTag := rfl

@[simp] theorem State.setProfile_completions (x : List Nat) : (s.setProfile x).completions = s.completions := rfl

@[simp] theorem State.setProfile_link (x : List Nat) : (s.setProfile x).link = s.link := rfl

@[simp] theorem State.setProfile_refusals (x : List Nat) : (s.setProfile x).refusals = s.refusals := rfl

@[simp] theorem State.setProfile_events (x : List Nat) : (s.setProfile x).events = s.events := rfl

@[simp] theorem State.setProfile_partCnt (x : List Nat) : (s.setProfile x).partCnt = s.partCnt := rfl

@[simp] theorem State.setProfile_freeCount (x : List Nat) : (s.setProfile x).freeCount = s.freeCount := rfl

@[simp] theorem State.setProfile_pending (x : List Nat) : (s.setProfile x).pending = s.pending := rfl

@[simp] theorem State.setLedger_bay (x : Ledger) : (s.setLedger x).bay c = s.bay c := by cases c <;> rfl

@[simp] theorem State.setLedger_sau (x : Ledger) : (s.setLedger x).sau = s.sau := rfl

@[simp] theorem State.setLedger_profile (x : Ledger) : (s.setLedger x).profile = s.profile := rfl

@[simp] theorem State.setLedger_ledger (x : Ledger) : (s.setLedger x).ledger = x := rfl

@[simp] theorem State.setLedger_sense (x : Ledger) : (s.setLedger x).sense = s.sense := rfl

@[simp] theorem State.setLedger_store (x : Ledger) : (s.setLedger x).store = s.store := rfl

@[simp] theorem State.setLedger_supply (x : Ledger) : (s.setLedger x).supply = s.supply := rfl

@[simp] theorem State.setLedger_nextTag (x : Ledger) : (s.setLedger x).nextTag = s.nextTag := rfl

@[simp] theorem State.setLedger_completions (x : Ledger) : (s.setLedger x).completions = s.completions := rfl

@[simp] theorem State.setLedger_link (x : Ledger) : (s.setLedger x).link = s.link := rfl

@[simp] theorem State.setLedger_refusals (x : Ledger) : (s.setLedger x).refusals = s.refusals := rfl

@[simp] theorem State.setLedger_events (x : Ledger) : (s.setLedger x).events = s.events := rfl

@[simp] theorem State.setLedger_partCnt (x : Ledger) : (s.setLedger x).partCnt = s.partCnt := rfl

@[simp] theorem State.setLedger_freeCount (x : Ledger) : (s.setLedger x).freeCount = s.freeCount := rfl

@[simp] theorem State.setLedger_pending (x : Ledger) : (s.setLedger x).pending = s.pending := rfl

@[simp] theorem State.setSense_bay (x : Sense) : (s.setSense x).bay c = s.bay c := by cases c <;> rfl

@[simp] theorem State.setSense_sau (x : Sense) : (s.setSense x).sau = s.sau := rfl

@[simp] theorem State.setSense_profile (x : Sense) : (s.setSense x).profile = s.profile := rfl

@[simp] theorem State.setSense_ledger (x : Sense) : (s.setSense x).ledger = s.ledger := rfl

@[simp] theorem State.setSense_sense (x : Sense) : (s.setSense x).sense = x := rfl

@[simp] theorem State.setSense_store (x : Sense) : (s.setSense x).store = s.store := rfl

@[simp] theorem State.setSense_supply (x : Sense) : (s.setSense x).supply = s.supply := rfl

@[simp] theorem State.setSense_nextTag (x : Sense) : (s.setSense x).nextTag = s.nextTag := rfl

@[simp] theorem State.setSense_completions (x : Sense) : (s.setSense x).completions = s.completions := rfl

@[simp] theorem State.setSense_link (x : Sense) : (s.setSense x).link = s.link := rfl

@[simp] theorem State.setSense_refusals (x : Sense) : (s.setSense x).refusals = s.refusals := rfl

@[simp] theorem State.setSense_events (x : Sense) : (s.setSense x).events = s.events := rfl

@[simp] theorem State.setSense_partCnt (x : Sense) : (s.setSense x).partCnt = s.partCnt := rfl

@[simp] theorem State.setSense_freeCount (x : Sense) : (s.setSense x).freeCount = s.freeCount := rfl

@[simp] theorem State.setSense_pending (x : Sense) : (s.setSense x).pending = s.pending := rfl

@[simp] theorem State.setStore_bay (x : Store) : (s.setStore x).bay c = s.bay c := by cases c <;> rfl

@[simp] theorem State.setStore_sau (x : Store) : (s.setStore x).sau = s.sau := rfl

@[simp] theorem State.setStore_profile (x : Store) : (s.setStore x).profile = s.profile := rfl

@[simp] theorem State.setStore_ledger (x : Store) : (s.setStore x).ledger = s.ledger := rfl

@[simp] theorem State.setStore_sense (x : Store) : (s.setStore x).sense = s.sense := rfl

@[simp] theorem State.setStore_store (x : Store) : (s.setStore x).store = x := rfl

@[simp] theorem State.setStore_supply (x : Store) : (s.setStore x).supply = s.supply := rfl

@[simp] theorem State.setStore_nextTag (x : Store) : (s.setStore x).nextTag = s.nextTag := rfl

@[simp] theorem State.setStore_completions (x : Store) : (s.setStore x).completions = s.completions := rfl

@[simp] theorem State.setStore_link (x : Store) : (s.setStore x).link = s.link := rfl

@[simp] theorem State.setStore_refusals (x : Store) : (s.setStore x).refusals = s.refusals := rfl

@[simp] theorem State.setStore_events (x : Store) : (s.setStore x).events = s.events := rfl

@[simp] theorem State.setStore_partCnt (x : Store) : (s.setStore x).partCnt = s.partCnt := rfl

@[simp] theorem State.setStore_freeCount (x : Store) : (s.setStore x).freeCount = s.freeCount := rfl

@[simp] theorem State.setStore_pending (x : Store) : (s.setStore x).pending = s.pending := rfl

@[simp] theorem State.setSupply_bay (x : Supply) : (s.setSupply x).bay c = s.bay c := by cases c <;> rfl

@[simp] theorem State.setSupply_sau (x : Supply) : (s.setSupply x).sau = s.sau := rfl

@[simp] theorem State.setSupply_profile (x : Supply) : (s.setSupply x).profile = s.profile := rfl

@[simp] theorem State.setSupply_ledger (x : Supply) : (s.setSupply x).ledger = s.ledger := rfl

@[simp] theorem State.setSupply_sense (x : Supply) : (s.setSupply x).sense = s.sense := rfl

@[simp] theorem State.setSupply_store (x : Supply) : (s.setSupply x).store = s.store := rfl

@[simp] theorem State.setSupply_supply (x : Supply) : (s.setSupply x).supply = x := rfl

@[simp] theorem State.setSupply_nextTag (x : Supply) : (s.setSupply x).nextTag = s.nextTag := rfl

@[simp] theorem State.setSupply_completions (x : Supply) : (s.setSupply x).completions = s.completions := rfl

@[simp] theorem State.setSupply_link (x : Supply) : (s.setSupply x).link = s.link := rfl

@[simp] theorem State.setSupply_refusals (x : Supply) : (s.setSupply x).refusals = s.refusals := rfl

@[simp] theorem State.setSupply_events (x : Supply) : (s.setSupply x).events = s.events := rfl

@[simp] theorem State.setSupply_partCnt (x : Supply) : (s.setSupply x).partCnt = s.partCnt := rfl

@[simp] theorem State.setSupply_freeCount (x : Supply) : (s.setSupply x).freeCount = s.freeCount := rfl

@[simp] theorem State.setSupply_pending (x : Supply) : (s.setSupply x).pending = s.pending := rfl

@[simp] theorem State.setNextTag_bay (x : Nat) : (s.setNextTag x).bay c = s.bay c := by cases c <;> rfl

@[simp] theorem State.setNextTag_sau (x : Nat) : (s.setNextTag x).sau = s.sau := rfl

@[simp] theorem State.setNextTag_profile (x : Nat) : (s.setNextTag x).profile = s.profile := rfl

@[simp] theorem State.setNextTag_ledger (x : Nat) : (s.setNextTag x).ledger = s.ledger := rfl

@[simp] theorem State.setNextTag_sense (x : Nat) : (s.setNextTag x).sense = s.sense := rfl

@[simp] theorem State.setNextTag_store (x : Nat) : (s.setNextTag x).store = s.store := rfl

@[simp] theorem State.setNextTag_supply (x : Nat) : (s.setNextTag x).supply = s.supply := rfl

@[simp] theorem State.setNextTag_nextTag (x : Nat) : (s.setNextTag x).nextTag = x := rfl

@[simp] theorem State.setNextTag_completions (x : Nat) : (s.setNextTag x).completions = s.completions := rfl

@[simp] theorem State.setNextTag_link (x : Nat) : (s.setNextTag x).link = s.link := rfl

@[simp] theorem State.setNextTag_refusals (x : Nat) : (s.setNextTag x).refusals = s.refusals := rfl

@[simp] theorem State.setNextTag_events (x : Nat) : (s.setNextTag x).events = s.events := rfl

@[simp] theorem State.setNextTag_partCnt (x : Nat) : (s.setNextTag x).partCnt = s.partCnt := rfl

@[simp] theorem State.setNextTag_freeCount (x : Nat) : (s.setNextTag x).freeCount = s.freeCount := rfl

@[simp] theorem State.setNextTag_pending (x : Nat) : (s.setNextTag x).pending = s.pending := rfl

@[simp] theorem State.setCompletions_bay (x : List Completion) : (s.setCompletions x).bay c = s.bay c := by cases c <;> rfl

@[simp] theorem State.setCompletions_sau (x : List Completion) : (s.setCompletions x).sau = s.sau := rfl

@[simp] theorem State.setCompletions_profile (x : List Completion) : (s.setCompletions x).profile = s.profile := rfl

@[simp] theorem State.setCompletions_ledger (x : List Completion) : (s.setCompletions x).ledger = s.ledger := rfl

@[simp] theorem State.setCompletions_sense (x : List Completion) : (s.setCompletions x).sense = s.sense := rfl

@[simp] theorem State.setCompletions_store (x : List Completion) : (s.setCompletions x).store = s.store := rfl

@[simp] theorem State.setCompletions_supply (x : List Completion) : (s.setCompletions x).supply = s.supply := rfl

@[simp] theorem State.setCompletions_nextTag (x : List Completion) : (s.setCompletions x).nextTag = s.nextTag := rfl

@[simp] theorem State.setCompletions_completions (x : List Completion) : (s.setCompletions x).completions = x := rfl

@[simp] theorem State.setCompletions_link (x : List Completion) : (s.setCompletions x).link = s.link := rfl

@[simp] theorem State.setCompletions_refusals (x : List Completion) : (s.setCompletions x).refusals = s.refusals := rfl

@[simp] theorem State.setCompletions_events (x : List Completion) : (s.setCompletions x).events = s.events := rfl

@[simp] theorem State.setCompletions_partCnt (x : List Completion) : (s.setCompletions x).partCnt = s.partCnt := rfl

@[simp] theorem State.setCompletions_freeCount (x : List Completion) : (s.setCompletions x).freeCount = s.freeCount := rfl

@[simp] theorem State.setCompletions_pending (x : List Completion) : (s.setCompletions x).pending = s.pending := rfl

@[simp] theorem State.setLink_bay (x : Link) : (s.setLink x).bay c = s.bay c := by cases c <;> rfl

@[simp] theorem State.setLink_sau (x : Link) : (s.setLink x).sau = s.sau := rfl

@[simp] theorem State.setLink_profile (x : Link) : (s.setLink x).profile = s.profile := rfl

@[simp] theorem State.setLink_ledger (x : Link) : (s.setLink x).ledger = s.ledger := rfl

@[simp] theorem State.setLink_sense (x : Link) : (s.setLink x).sense = s.sense := rfl

@[simp] theorem State.setLink_store (x : Link) : (s.setLink x).store = s.store := rfl

@[simp] theorem State.setLink_supply (x : Link) : (s.setLink x).supply = s.supply := rfl

@[simp] theorem State.setLink_nextTag (x : Link) : (s.setLink x).nextTag = s.nextTag := rfl

@[simp] theorem State.setLink_completions (x : Link) : (s.setLink x).completions = s.completions := rfl

@[simp] theorem State.setLink_link (x : Link) : (s.setLink x).link = x := rfl

@[simp] theorem State.setLink_refusals (x : Link) : (s.setLink x).refusals = s.refusals := rfl

@[simp] theorem State.setLink_events (x : Link) : (s.setLink x).events = s.events := rfl

@[simp] theorem State.setLink_partCnt (x : Link) : (s.setLink x).partCnt = s.partCnt := rfl

@[simp] theorem State.setLink_freeCount (x : Link) : (s.setLink x).freeCount = s.freeCount := rfl

@[simp] theorem State.setLink_pending (x : Link) : (s.setLink x).pending = s.pending := rfl

@[simp] theorem State.setRefusals_bay (x : RefusalLog) : (s.setRefusals x).bay c = s.bay c := by cases c <;> rfl

@[simp] theorem State.setRefusals_sau (x : RefusalLog) : (s.setRefusals x).sau = s.sau := rfl

@[simp] theorem State.setRefusals_profile (x : RefusalLog) : (s.setRefusals x).profile = s.profile := rfl

@[simp] theorem State.setRefusals_ledger (x : RefusalLog) : (s.setRefusals x).ledger = s.ledger := rfl

@[simp] theorem State.setRefusals_sense (x : RefusalLog) : (s.setRefusals x).sense = s.sense := rfl

@[simp] theorem State.setRefusals_store (x : RefusalLog) : (s.setRefusals x).store = s.store := rfl

@[simp] theorem State.setRefusals_supply (x : RefusalLog) : (s.setRefusals x).supply = s.supply := rfl

@[simp] theorem State.setRefusals_nextTag (x : RefusalLog) : (s.setRefusals x).nextTag = s.nextTag := rfl

@[simp] theorem State.setRefusals_completions (x : RefusalLog) : (s.setRefusals x).completions = s.completions := rfl

@[simp] theorem State.setRefusals_link (x : RefusalLog) : (s.setRefusals x).link = s.link := rfl

@[simp] theorem State.setRefusals_refusals (x : RefusalLog) : (s.setRefusals x).refusals = x := rfl

@[simp] theorem State.setRefusals_events (x : RefusalLog) : (s.setRefusals x).events = s.events := rfl

@[simp] theorem State.setRefusals_partCnt (x : RefusalLog) : (s.setRefusals x).partCnt = s.partCnt := rfl

@[simp] theorem State.setRefusals_freeCount (x : RefusalLog) : (s.setRefusals x).freeCount = s.freeCount := rfl

@[simp] theorem State.setRefusals_pending (x : RefusalLog) : (s.setRefusals x).pending = s.pending := rfl

@[simp] theorem State.setEvents_bay (x : Events) : (s.setEvents x).bay c = s.bay c := by cases c <;> rfl

@[simp] theorem State.setEvents_sau (x : Events) : (s.setEvents x).sau = s.sau := rfl

@[simp] theorem State.setEvents_profile (x : Events) : (s.setEvents x).profile = s.profile := rfl

@[simp] theorem State.setEvents_ledger (x : Events) : (s.setEvents x).ledger = s.ledger := rfl

@[simp] theorem State.setEvents_sense (x : Events) : (s.setEvents x).sense = s.sense := rfl

@[simp] theorem State.setEvents_store (x : Events) : (s.setEvents x).store = s.store := rfl

@[simp] theorem State.setEvents_supply (x : Events) : (s.setEvents x).supply = s.supply := rfl

@[simp] theorem State.setEvents_nextTag (x : Events) : (s.setEvents x).nextTag = s.nextTag := rfl

@[simp] theorem State.setEvents_completions (x : Events) : (s.setEvents x).completions = s.completions := rfl

@[simp] theorem State.setEvents_link (x : Events) : (s.setEvents x).link = s.link := rfl

@[simp] theorem State.setEvents_refusals (x : Events) : (s.setEvents x).refusals = s.refusals := rfl

@[simp] theorem State.setEvents_events (x : Events) : (s.setEvents x).events = x := rfl

@[simp] theorem State.setEvents_partCnt (x : Events) : (s.setEvents x).partCnt = s.partCnt := rfl

@[simp] theorem State.setEvents_freeCount (x : Events) : (s.setEvents x).freeCount = s.freeCount := rfl

@[simp] theorem State.setEvents_pending (x : Events) : (s.setEvents x).pending = s.pending := rfl

@[simp] theorem State.setPartCnt_bay (x : PartCounters) : (s.setPartCnt x).bay c = s.bay c := by cases c <;> rfl

@[simp] theorem State.setPartCnt_sau (x : PartCounters) : (s.setPartCnt x).sau = s.sau := rfl

@[simp] theorem State.setPartCnt_profile (x : PartCounters) : (s.setPartCnt x).profile = s.profile := rfl

@[simp] theorem State.setPartCnt_ledger (x : PartCounters) : (s.setPartCnt x).ledger = s.ledger := rfl

@[simp] theorem State.setPartCnt_sense (x : PartCounters) : (s.setPartCnt x).sense = s.sense := rfl

@[simp] theorem State.setPartCnt_store (x : PartCounters) : (s.setPartCnt x).store = s.store := rfl

@[simp] theorem State.setPartCnt_supply (x : PartCounters) : (s.setPartCnt x).supply = s.supply := rfl

@[simp] theorem State.setPartCnt_nextTag (x : PartCounters) : (s.setPartCnt x).nextTag = s.nextTag := rfl

@[simp] theorem State.setPartCnt_completions (x : PartCounters) : (s.setPartCnt x).completions = s.completions := rfl

@[simp] theorem State.setPartCnt_link (x : PartCounters) : (s.setPartCnt x).link = s.link := rfl

@[simp] theorem State.setPartCnt_refusals (x : PartCounters) : (s.setPartCnt x).refusals = s.refusals := rfl

@[simp] theorem State.setPartCnt_events (x : PartCounters) : (s.setPartCnt x).events = s.events := rfl

@[simp] theorem State.setPartCnt_partCnt (x : PartCounters) : (s.setPartCnt x).partCnt = x := rfl

@[simp] theorem State.setPartCnt_freeCount (x : PartCounters) : (s.setPartCnt x).freeCount = s.freeCount := rfl

@[simp] theorem State.setPartCnt_pending (x : PartCounters) : (s.setPartCnt x).pending = s.pending := rfl

@[simp] theorem State.setFreeCount_bay (x : Nat) : (s.setFreeCount x).bay c = s.bay c := by cases c <;> rfl

@[simp] theorem State.setFreeCount_sau (x : Nat) : (s.setFreeCount x).sau = s.sau := rfl

@[simp] theorem State.setFreeCount_profile (x : Nat) : (s.setFreeCount x).profile = s.profile := rfl

@[simp] theorem State.setFreeCount_ledger (x : Nat) : (s.setFreeCount x).ledger = s.ledger := rfl

@[simp] theorem State.setFreeCount_sense (x : Nat) : (s.setFreeCount x).sense = s.sense := rfl

@[simp] theorem State.setFreeCount_store (x : Nat) : (s.setFreeCount x).store = s.store := rfl

@[simp] theorem State.setFreeCount_supply (x : Nat) : (s.setFreeCount x).supply = s.supply := rfl

@[simp] theorem State.setFreeCount_nextTag (x : Nat) : (s.setFreeCount x).nextTag = s.nextTag := rfl

@[simp] theorem State.setFreeCount_completions (x : Nat) : (s.setFreeCount x).completions = s.completions := rfl

@[simp] theorem State.setFreeCount_link (x : Nat) : (s.setFreeCount x).link = s.link := rfl

@[simp] theorem State.setFreeCount_refusals (x : Nat) : (s.setFreeCount x).refusals = s.refusals := rfl

@[simp] theorem State.setFreeCount_events (x : Nat) : (s.setFreeCount x).events = s.events := rfl

@[simp] theorem State.setFreeCount_partCnt (x : Nat) : (s.setFreeCount x).partCnt = s.partCnt := rfl

@[simp] theorem State.setFreeCount_freeCount (x : Nat) : (s.setFreeCount x).freeCount = x := rfl

@[simp] theorem State.setFreeCount_pending (x : Nat) : (s.setFreeCount x).pending = s.pending := rfl

@[simp] theorem State.modLink_bay (f : Link → Link) : (s.modLink f).bay c = s.bay c := by cases c <;> rfl

@[simp] theorem State.modLink_sau (f : Link → Link) : (s.modLink f).sau = s.sau := rfl

@[simp] theorem State.modLink_profile (f : Link → Link) : (s.modLink f).profile = s.profile := rfl

@[simp] theorem State.modLink_ledger (f : Link → Link) : (s.modLink f).ledger = s.ledger := rfl

@[simp] theorem State.modLink_sense (f : Link → Link) : (s.modLink f).sense = s.sense := rfl

@[simp] theorem State.modLink_store (f : Link → Link) : (s.modLink f).store = s.store := rfl

@[simp] theorem State.modLink_supply (f : Link → Link) : (s.modLink f).supply = s.supply := rfl

@[simp] theorem State.modLink_nextTag (f : Link → Link) : (s.modLink f).nextTag = s.nextTag := rfl

@[simp] theorem State.modLink_completions (f : Link → Link) : (s.modLink f).completions = s.completions := rfl

@[simp] theorem State.modLink_link (f : Link → Link) : (s.modLink f).link = f s.link := rfl

@[simp] theorem State.modLink_refusals (f : Link → Link) : (s.modLink f).refusals = s.refusals := rfl

@[simp] theorem State.modLink_events (f : Link → Link) : (s.modLink f).events = s.events := rfl

@[simp] theorem State.modLink_partCnt (f : Link → Link) : (s.modLink f).partCnt = s.partCnt := rfl

@[simp] theorem State.modLink_freeCount (f : Link → Link) : (s.modLink f).freeCount = s.freeCount := rfl

@[simp] theorem State.modLink_pending (f : Link → Link) : (s.modLink f).pending = s.pending := rfl

@[simp] theorem State.modSense_bay (f : Sense → Sense) : (s.modSense f).bay c = s.bay c := by cases c <;> rfl

@[simp] theorem State.modSense_sau (f : Sense → Sense) : (s.modSense f).sau = s.sau := rfl

@[simp] theorem State.modSense_profile (f : Sense → Sense) : (s.modSense f).profile = s.profile := rfl

@[simp] theorem State.modSense_ledger (f : Sense → Sense) : (s.modSense f).ledger = s.ledger := rfl

@[simp] theorem State.modSense_sense (f : Sense → Sense) : (s.modSense f).sense = f s.sense := rfl

@[simp] theorem State.modSense_store (f : Sense → Sense) : (s.modSense f).store = s.store := rfl

@[simp] theorem State.modSense_supply (f : Sense → Sense) : (s.modSense f).supply = s.supply := rfl

@[simp] theorem State.modSense_nextTag (f : Sense → Sense) : (s.modSense f).nextTag = s.nextTag := rfl

@[simp] theorem State.modSense_completions (f : Sense → Sense) : (s.modSense f).completions = s.completions := rfl

@[simp] theorem State.modSense_link (f : Sense → Sense) : (s.modSense f).link = s.link := rfl

@[simp] theorem State.modSense_refusals (f : Sense → Sense) : (s.modSense f).refusals = s.refusals := rfl

@[simp] theorem State.modSense_events (f : Sense → Sense) : (s.modSense f).events = s.events := rfl

@[simp] theorem State.modSense_partCnt (f : Sense → Sense) : (s.modSense f).partCnt = s.partCnt := rfl

@[simp] theorem State.modSense_freeCount (f : Sense → Sense) : (s.modSense f).freeCount = s.freeCount := rfl

@[simp] theorem State.modSense_pending (f : Sense → Sense) : (s.modSense f).pending = s.pending := rfl

@[simp] theorem State.modStore_bay (f : Store → Store) : (s.modStore f).bay c = s.bay c := by cases c <;> rfl

@[simp] theorem State.modStore_sau (f : Store → Store) : (s.modStore f).sau = s.sau := rfl

@[simp] theorem State.modStore_profile (f : Store → Store) : (s.modStore f).profile = s.profile := rfl

@[simp] theorem State.modStore_ledger (f : Store → Store) : (s.modStore f).ledger = s.ledger := rfl

@[simp] theorem State.modStore_sense (f : Store → Store) : (s.modStore f).sense = s.sense := rfl

@[simp] theorem State.modStore_store (f : Store → Store) : (s.modStore f).store = f s.store := rfl

@[simp] theorem State.modStore_supply (f : Store → Store) : (s.modStore f).supply = s.supply := rfl

@[simp] theorem State.modStore_nextTag (f : Store → Store) : (s.modStore f).nextTag = s.nextTag := rfl

@[simp] theorem State.modStore_completions (f : Store → Store) : (s.modStore f).completions = s.completions := rfl

@[simp] theorem State.modStore_link (f : Store → Store) : (s.modStore f).link = s.link := rfl

@[simp] theorem State.modStore_refusals (f : Store → Store) : (s.modStore f).refusals = s.refusals := rfl

@[simp] theorem State.modStore_events (f : Store → Store) : (s.modStore f).events = s.events := rfl

@[simp] theorem State.modStore_partCnt (f : Store → Store) : (s.modStore f).partCnt = s.partCnt := rfl

@[simp] theorem State.modStore_freeCount (f : Store → Store) : (s.modStore f).freeCount = s.freeCount := rfl

@[simp] theorem State.modStore_pending (f : Store → Store) : (s.modStore f).pending = s.pending := rfl

end Sys2Proof.Machine
end

