-- ==== Sys2Proof/Laws/Link.lean ====
section
/-! SUPPORT. What the Link Interface's shared operations can do: a whole frame handed over, a reply made ready, a refusal. -/

namespace Sys2Proof.Machine

variable (s : State)

/-- R165 to R172: the five things a whole frame can meet. -/
theorem deliver_cases (frame : List Byte) (take : State → State) :
    (s.link.resetN = false → deliver frame take s = s) ∧
    (s.link.resetN = true → s.link.phase = .preparing ∨ s.link.lockout = true →
      deliver frame take s = s.modLink fun l => { l with lfrm := false, lockout := false }) ∧
    (s.link.resetN = true → s.link.phase = .holding → s.link.lockout = false → s.link.resetOnRead = true →
      deliver frame take s = releaseFrame (partReset s)) ∧
    (LinkTakes frame s → deliver frame take s = take (s.modLink Link.framed)) ∧
    (s.link.resetN = true → s.link.phase = .receiving → s.link.lockout = false → s.link.mayCarry frame = false →
      deliver frame take s = endFrame (releaseFrame s)) := by
  refine ⟨fun h => by simp [deliver, h], fun h g => ?_, fun h p l r => by simp [deliver, h, p, l, r], fun h => ?_, fun h p l m => ?_⟩
  · have hg : ((decide (s.link.phase = .preparing)) || s.link.lockout) = true := by simpa using g
    simp [deliver, h, hg, releaseFrame]
  · obtain ⟨h1, h2, h3, h4, h5⟩ := h
    have h4' : (decide (s.link.phase = .holding) && s.link.resetOnRead) = false := by simpa using h4
    have h5' : s.link.mayCarry frame = true := by
      by_cases hp : s.link.phase = .receiving
      · obtain ⟨a, c⟩ := h5 hp
        simp [Link.mayCarry, a, List.isPrefixOf_iff_prefix.mpr c]
      · simp [Link.mayCarry, hp]
    simp [deliver, h1, h2, h3, h4', h5']
  · simp [deliver, h, p, l, m]

/-- R168: a reply made ready is the link alone, its bytes held, none read. -/
theorem reply_spec (kind : Nat) (code bay : Byte) (payload : List Byte) :
    reply kind code bay payload s =
      { s with
        link :=
          { s.link with
            phase := .holding, buffer := [], overflow := false, held := replyFrame kind code bay payload, readIndex := 0, lrdy := true
            resetOnRead := false } } := rfl

/-- A reply to a whole frame: the interface holds it, with the lines at rest. -/
theorem reply_framed (kind : Nat) (code bay : Byte) (payload : List Byte) (h : s.link.resetN = true) (ha : AttnExact s) :
    reply kind code bay payload (s.modLink Link.framed) = s.answer (replyFrame kind code bay payload) := by
  simp only [AttnExact] at ha
  simp [reply, State.modLink, State.setLink, Link.framed, State.answer, Link.answered, h, ha]

/-- R183, R184: a refusal of a whole frame, with the record it gives the log. -/
theorem refuseRecording_framed (code bay : Byte) (r : RefusalRecord) (h : s.link.resetN = true) (ha : AttnExact s) :
    refuseRecording code bay r (s.modLink Link.framed) = s.refusedWith code bay r := by
  simp only [AttnExact] at ha
  simp [refuseRecording, reply, State.modLink, State.setLink, State.setRefusals, countPart, State.setPartCnt, Link.framed,
    State.refusedWith, State.answer, Link.answered, RefusalLog.add, h, ha, replyFrame, u8, count, Const.counterMax, attnDue,
    pendingSet, conditions, byteOf]

/-- R183, R184: a refusal of a whole frame, recorded as it is echoed. -/
theorem refuse_framed (code bay : Byte) (r : Reason) (h : s.link.resetN = true) (ha : AttnExact s) :
    refuse code bay r (s.modLink Link.framed) = s.refusedAs code bay r := refuseRecording_framed s code bay ⟨code, bay, r⟩ h ha

/-- R184: the log after a refusal. -/
theorem RefusalLog.add_spec (l : RefusalLog) (r : RefusalRecord) :
    (l.add r).latest = some r ∧ (l.count = 0 → (l.add r).first = some r ∧ (l.add r).count = 1) ∧
      (l.count ≠ 0 → (l.add r).first = l.first ∧ (l.add r).count = bump 255 l.count) := by
  unfold RefusalLog.add
  split
  · next h => exact ⟨rfl, fun _ => ⟨rfl, rfl⟩, fun g => absurd h g⟩
  · next h => exact ⟨rfl, fun g => absurd g h, fun _ => ⟨rfl, rfl⟩⟩

/-- R171: after a part reset no line of the part is asserted, and everything else is what State.reset and the input lines give. -/
theorem partReset_spec :
    (partReset s).link.lack = false ∧ (partReset s).link.lrdy = false ∧ (partReset s).link.attn = false ∧
      (partReset s).link.phase = .idle ∧ (partReset s).ledger = State.reset.ledger ∧ (partReset s).sense = State.reset.sense ∧
      (partReset s).completions = [] ∧ (partReset s).nextTag = 1 ∧ (partReset s).pending = s.pending ∧
      ∀ b, ((partReset s).bay b).pins = (s.bay b).pins ∧ ((partReset s).bay b).spin = State.reset.bayA.spin ∧
        ((partReset s).bay b).sched = State.reset.bayA.sched ∧ ((partReset s).bay b).cart.latch = false ∧
        ((partReset s).bay b).gate.wperm = false := by
  refine ⟨rfl, rfl, rfl, rfl, rfl, rfl, rfl, rfl, rfl, fun b => ?_⟩
  cases b <;> exact ⟨rfl, rfl, rfl, rfl, rfl⟩

/-- R182: an operation request is refused without effect, or accepted and the event settled. -/
theorem requestOp_spec (b : Bay) (k : OpKind) :
    (∀ r, opRefusal b k s = some r → requestOp b k s = refuse (byteOf k.code) (toBay b) r s) ∧
      (opRefusal b k s = none → requestOp b k s = settle (acceptOp b k s)) := by
  constructor
  · intro r h; simp [requestOp, h]
  · intro h; simp [requestOp, h]

/-- A taking that is not due leaves the bay as it is. -/
theorem takeRun_idle (b : Bay) (n : Nat) (h : mayTake (s.bay b).sched = true → (s.bay b).sched.queue = []) : takeRun b n s = s := by
  cases n with
  | zero => rfl
  | succ n =>
    simp only [takeRun]
    split
    · next hm => simp [h hm]
    · rfl

theorem State.modGate_self (b : Bay) (f : Gate → Gate) (h : f (s.bay b).gate = (s.bay b).gate) : s.modGate b f = s := by
  unfold State.modGate
  rw [h]
  cases b <;> rfl

theorem Gate.wperm_self {g : Gate} (h : g.wperm = true) : { g with wperm := true } = g := by cases g; cases h; rfl

/-- The gates worked out where WPERM is already exact change nothing. -/
theorem judgeGate_exact (b : Bay) (h : (s.bay b).gate.wperm = permitDue (s.bay b) s.supply.state) : judgeGate b s = s := by
  unfold judgeGate
  split
  · next hp => exact State.modGate_self s b _ (Gate.wperm_self (by rw [h, hp]))
  · next hp => rw [h]; simp [hp]

/-- An event whose end changes no condition settles where it stands. -/
theorem settle_exact (hp : PermitExact s) (ht : TakingsDone s) : settle s = s := by
  have hA : judgeGate .A s = s := judgeGate_exact s .A (hp .A)
  have hB : judgeGate .B s = s := judgeGate_exact s .B (hp .B)
  simp only [settle, judgeGates, hA, hB, judgeTaking]
  rw [takeRun_idle s .A _ (ht .A), takeRun_idle s .B _ (ht .B)]

/-! ## Positions of a WRITE SENSE LIST -/

/-- Positions are good when all lie in 6..15 and none is named twice (R129). -/
theorem badPositions_eq_false (ps : List Nat) : badPositions ps = false ↔ (∀ p ∈ ps, 6 ≤ p ∧ p ≤ 15) ∧ ps.Nodup := by
  induction ps with
  | nil => simp [badPositions]
  | cons p ps ih =>
    simp only [badPositions, Bool.or_eq_false_iff, decide_eq_false_iff_not, ih, List.forall_mem_cons, List.nodup_cons,
      List.contains_eq_mem, Nat.not_lt]
    tauto

/-- A list of items is good when the positions of the items that are read are (R129, R178). -/
theorem badItems_eq_false (items : List SenseItem) :
    badItems items = false ↔
      (∀ x ∈ itemsRead items, 6 ≤ x.position.toNat ∧ x.position.toNat ≤ 15) ∧
        ((itemsRead items).map fun x => x.position.toNat).Nodup := by
  simp [badItems, badPositions_eq_false]

end Sys2Proof.Machine
end

