-- ==== Sys2Proof/Laws/Ops.lean ====
section
/-! SUPPORT. What the shared operations of Ops.lean can do, said once for each. -/

namespace Sys2Proof.Machine

variable (s : State) (b : Bay)

/-! ## Drive code and phase drives -/

/-- A spindle driven with a code has it, its phase drives off at code 0 (R25), and nothing else changed. -/
theorem Spindle.driven_spec (code : Nat) (x : Spindle) :
    x.driven code = { x with drive := code, phases := if code = 0 then .off else x.state.phases } := rfl

@[simp] theorem Spindle.driven_state (code : Nat) (x : Spindle) : (x.driven code).state = x.state := rfl

@[simp] theorem Spindle.driven_drive (code : Nat) (x : Spindle) : (x.driven code).drive = code := rfl

@[simp] theorem Spindle.driven_sbrk (code : Nat) (x : Spindle) : (x.driven code).sbrk = x.sbrk := rfl

@[simp] theorem Spindle.driven_phases (code : Nat) (x : Spindle) : (x.driven code).phases = x.state.phasesAt code := rfl

/-! ## Attention, lamp, scheduler -/

/-- ATTN worked out afresh is the line alone. -/
theorem refreshAttn_spec : refreshAttn s = { s with link := { s.link with attn := attnDue s } } := rfl

theorem refreshAttn_exact : AttnExact (refreshAttn s) := rfl

/-- A latch sets one class and the line. -/
theorem latchEvent_spec (c : LatchedClass) :
    latchEvent c s =
      refreshAttn { s with events := { s.events with latched := s.events.latched ||| bitSet (classBit c) } } := rfl

/-- The lamp driven to a mode is in it, and nothing else of the controller moves. -/
theorem Cartridge.drive_spec (m : LampMode) (c : Cartridge) : (c.drive m).lampMode = m ∧ c.sameButLamp (c.drive m) := by
  unfold Cartridge.drive Cartridge.sameButLamp
  split
  · next h => exact ⟨h.symm, rfl⟩
  · cases m <;> exact ⟨rfl, rfl⟩

/-- The lamp worked out again: the lamp alone, in the mode that R21 gives. -/
theorem lampUpdate_spec :
    (lampUpdate b s).bay b.other = s.bay b.other ∧
      (lampUpdate b s).bay b = { s.bay b with cart := ((lampUpdate b s).bay b).cart } ∧
      (s.bay b).cart.sameButLamp ((lampUpdate b s).bay b).cart ∧
      ((lampUpdate b s).bay b).cart.lampMode = lampModeOf (s.bay b).cart (s.bay b).sched := by
  have h := Cartridge.drive_spec (lampModeOf (s.bay b).cart (s.bay b).sched) (s.bay b).cart
  refine ⟨by simp [lampUpdate], ?_, by simpa [lampUpdate] using h.2, by simpa [lampUpdate] using h.1⟩
  cases b <;> rfl

@[simp] theorem lampUpdate_ledger : (lampUpdate b s).ledger = s.ledger := by simp [lampUpdate]

@[simp] theorem lampUpdate_link : (lampUpdate b s).link = s.link := by simp [lampUpdate]

@[simp] theorem lampUpdate_completions : (lampUpdate b s).completions = s.completions := by simp [lampUpdate]

@[simp] theorem lampUpdate_events : (lampUpdate b s).events = s.events := by simp [lampUpdate]

/-- A change of a scheduler: its record, the lamp, the line. -/
theorem changeSched_spec (f : Sched → Sched) :
    ((changeSched b f s).bay b).sched = f (s.bay b).sched ∧ (changeSched b f s).bay b.other = s.bay b.other ∧
      (changeSched b f s).bay b =
        { s.bay b with cart := ((changeSched b f s).bay b).cart, sched := f (s.bay b).sched } ∧
      (s.bay b).cart.sameButLamp ((changeSched b f s).bay b).cart ∧ AttnExact (changeSched b f s) := by
  refine ⟨?_, ?_, ?_, ?_, rfl⟩ <;> cases b
  · rfl
  · rfl
  · rfl
  · rfl
  · rfl
  · rfl
  · exact (Cartridge.drive_spec _ _).2
  · exact (Cartridge.drive_spec _ _).2

@[simp] theorem changeSched_ledger (f : Sched → Sched) : (changeSched b f s).ledger = s.ledger := by cases b <;> rfl

@[simp] theorem changeSched_completions (f : Sched → Sched) : (changeSched b f s).completions = s.completions := by cases b <;> rfl

/-! ## Completion records -/

/-- R161: the list gains the record at its tail, a full list loses its oldest, counted; the line; nothing else. -/
theorem appendRecord_spec (r : Completion) :
    appendRecord r s =
      refreshAttn
        { s with
          completions := recorded s.completions r
          partCnt :=
            if s.completions.length < 8 then s.partCnt
            else { s.partCnt with completionOverwrites := bump 65535 s.partCnt.completionOverwrites } } := by
  unfold appendRecord recorded
  by_cases h : s.completions.length < 8
  · have h0 : s.completions.length + 1 - 8 = 0 := by omega
    simp [h, h0, Const.completionSize, State.setCompletions]
  · simp [h, Const.completionSize, State.setCompletions, countPart, State.setPartCnt, count, Const.counterMax, List.drop_append]

/-- The list never holds more than eight records. -/
theorem recorded_length (l : List Completion) (r : Completion) : (recorded l r).length = min 8 (l.length + 1) := by
  simp only [recorded, List.length_drop, List.length_append, List.length_cons, List.length_nil]
  omega

@[simp] theorem appendRecord_completions (r : Completion) : (appendRecord r s).completions = recorded s.completions r := by
  rw [appendRecord_spec]; rfl

@[simp] theorem appendRecord_bay (r : Completion) (c : Bay) : (appendRecord r s).bay c = s.bay c := by
  rw [appendRecord_spec]; cases c <;> rfl

@[simp] theorem appendRecord_ledger (r : Completion) : (appendRecord r s).ledger = s.ledger := by rw [appendRecord_spec]; rfl

/-- R151: with nothing in flight nothing happens; else the record, the slot freed, HALTING made HALTED. -/
theorem completeOp_spec (o : OpOutcome) :
    ((s.bay b).sched.inflight = none → completeOp b o s = s) ∧
      ∀ op, (s.bay b).sched.inflight = some op →
        (completeOp b o s).completions = recorded s.completions ⟨op.tag, b, op.kind, o, detailOf (s.bay b) op.kind o⟩ ∧
        ((completeOp b o s).bay b).sched =
          { (s.bay b).sched with
            inflight := none, state := if (s.bay b).sched.state = .halting then .halted else (s.bay b).sched.state } ∧
        (completeOp b o s).bay b.other = s.bay b.other ∧ (completeOp b o s).ledger = s.ledger := by
  constructor
  · intro h; simp [completeOp, h]
  · intro op h
    simp only [completeOp, h, writeRecord]
    refine ⟨by simp, ?_, ?_, by simp⟩
    · rw [(changeSched_spec _ b _).1]; simp
    · rw [(changeSched_spec _ b _).2.1]; simp

/-- R159: the records of a cancelled queue, oldest first, and nothing else of the bays or the ledger. -/
theorem cancelAll_spec (ops : List Op) :
    ∀ s : State, (cancelAll b ops s).completions = recordedAll s.completions (ops.map fun op =>
        ⟨op.tag, b, op.kind, .cancelled, detailOf (s.bay b) op.kind .cancelled⟩) ∧
      (∀ c, (cancelAll b ops s).bay c = s.bay c) ∧ (cancelAll b ops s).ledger = s.ledger := by
  induction ops with
  | nil => intro s; exact ⟨rfl, fun _ => rfl, rfl⟩
  | cons op ops ih =>
    intro s
    obtain ⟨h1, h2, h3⟩ := ih (writeRecord b op .cancelled s)
    refine ⟨?_, fun c => ?_, ?_⟩
    · simp only [cancelAll, h1]; simp [writeRecord, recordedAll]
    · simp only [cancelAll, h2]; simp [writeRecord]
    · simp only [cancelAll, h3]; simp [writeRecord]

/-! ## The write window and the servo history -/

/-- A history reset: the servo's history, the SAU's work of the bay, the qualification (R67, R71, R116). -/
theorem historyReset_spec :
    ((historyReset b s).bay b).servo =
        { (s.bay b).servo with v := 0, fresh := true, lastValid := none, lastNum := none, k := 0, lastOk := false } ∧
      ((historyReset b s).bay b).slot = none ∧ ((historyReset b s).bay b).gate = { (s.bay b).gate with qualified := false } ∧
      ((historyReset b s).bay b).pos = (s.bay b).pos ∧ ((historyReset b s).bay b).spin = (s.bay b).spin ∧
      (historyReset b s).bay b.other = s.bay b.other ∧ (historyReset b s).ledger = s.ledger ∧
      ∀ c, (historyReset b s).sau = some c → c.bay = b → c.discard = true := by
  refine ⟨by cases b <;> rfl, by cases b <;> rfl, by cases b <;> rfl, by cases b <;> rfl, by cases b <;> rfl, by cases b <;> rfl,
    by cases b <;> rfl, ?_⟩
  intro c h hb
  have h' : (s.sau.map fun x => if x.bay = b then { x with discard := true } else x) = some c := by cases b <;> exact h
  rw [Option.map_eq_some_iff] at h'
  obtain ⟨x, -, hx⟩ := h'
  split at hx
  · rw [← hx]
  · next hne => rw [← hx] at hb; exact absurd hb hne

/-! ## The ledger's answers reach their consumers -/

@[simp] theorem enterAligning_ledger : (enterAligning b s).ledger = s.ledger := by unfold enterAligning; split <;> simp

@[simp] theorem historyReset_ledger : (historyReset b s).ledger = s.ledger := (historyReset_spec s b).2.2.2.2.2.2.1

@[simp] theorem setTarget_ledger (t : Nat) : (setTarget b t s).ledger = s.ledger := by
  unfold setTarget clearQualified; dsimp only; split <;> simp

@[simp] theorem switchHead_ledger (h : Nat) : (switchHead b h s).ledger = s.ledger := by unfold switchHead; split <;> simp

@[simp] theorem enterSeeking_ledger (o : SeekOwner) : (enterSeeking b o s).ledger = s.ledger := by simp [enterSeeking]

@[simp] theorem clampAct_ledger (n : Nat) : (clampAct b n s).ledger = s.ledger := by simp [clampAct]

@[simp] theorem enterLoading_ledger : (enterLoading b s).ledger = s.ledger := by simp [enterLoading, speedLostUpdate]

@[simp] theorem tryLoading_ledger : (tryLoading b s).ledger = s.ledger := by unfold tryLoading; split <;> simp

@[simp] theorem actuatorGranted_ledger (n : Nat) : (actuatorGranted b n s).ledger = s.ledger := by
  unfold actuatorGranted
  dsimp only
  split
  · split <;> simp
  · simp

@[simp] theorem changeCart_ledger (f : Cartridge → Cartridge) : (changeCart b f s).ledger = s.ledger := by simp [changeCart]

@[simp] theorem startPulse_ledger (n : Nat) : (startPulse b n s).ledger = s.ledger := by
  unfold startPulse
  dsimp only
  split
  · split <;> simp [countBay]
  · rfl

@[simp] theorem tellGrant_ledger (g : Grant) : (tellGrant s g).ledger = s.ledger := by
  rcases g with ⟨c | c | c, n⟩ <;> simp [tellGrant]

/-- Telling consumers of their grants changes no holding and no request. -/
@[simp] theorem tellGrants_ledger (gs : List Grant) : (tellGrants gs s).ledger = s.ledger := by
  unfold tellGrants
  induction gs generalizing s with
  | nil => rfl
  | cons g gs ih => simp [List.foldl_cons, ih]

@[simp] theorem completeOp_ledger (o : OpOutcome) : (completeOp b o s).ledger = s.ledger := by
  unfold completeOp; split <;> simp [writeRecord]

@[simp] theorem completeIf_ledger (p : OpKind → Bool) (o : OpOutcome) : (completeIf b p o s).ledger = s.ledger := by
  unfold completeIf; split <;> simp

@[simp] theorem tellNoBudget_ledger (c : Consumer) : (tellNoBudget c s).ledger = s.ledger := by
  rcases c with c | c | c <;> simp only [tellNoBudget] <;> (try split) <;> simp

/-- What a request, a reduction, a withdrawal leave of the ledger is what the ledger's own operation gives. -/
@[simp] theorem ask_ledger (c : Consumer) (r : Req) : (ask c r s).ledger = (s.ledger.request c r).ledger := by
  unfold ask; dsimp only; split <;> simp

@[simp] theorem lowerHolding_ledger (c : Consumer) (n : Nat) : (lowerHolding c n s).ledger = (s.ledger.lower c n).1 := by
  simp [lowerHolding]

@[simp] theorem withdrawRequest_ledger (c : Consumer) : (withdrawRequest c s).ledger = (s.ledger.withdraw c).1 := by
  simp [withdrawRequest]

end Sys2Proof.Machine
end

