-- ==== Sys2Proof/Tests/Slice0.lean ====
section
/-! SUPPORT. Tests of one step each, from the spec's own examples, the smoke tests of WellFormed, and for every statement that has
hypotheses the witnesses that meet them. -/

namespace Sys2Proof.Tests

open Sys2Proof Sys2Proof.Machine Sys2Proof.Laws

/-! ## States to test on -/

/-- Lamp, permit and ATTN as the rest of the state gives them. -/
def fix (s : State) : State :=
  let bay (x : BayState) : BayState :=
    { x with cart := { x.cart with lampMode := lampModeOf x.cart x.sched }, gate := { x.gate with wperm := permitDue x s.supply.state } }
  let s := { s with bayA := bay s.bayA, bayB := bay s.bayB }
  { s with link := { s.link with attn := attnDue s } }

/-- A drive code that goes with a spindle state. -/
def driveIn : SpinState → Nat
  | .aligning => 60
  | .ramping => 180
  | .locking | .locked | .unlocked => 24
  | .stopped | .waitPower | .braking | .fault => 0

/-- A bay with a writable type S cartridge in, its spindle and its positioner in these states, its reserve qualified. -/
def bayIn (spin : SpinState) (pos : PosState) : BayState :=
  { State.reset.bayA with
    pins := { pres := true, btn := false, park := pos = .parked, wgate := false }
    cart :=
      { State.reset.bayA.cart with
        state := .seated, media := some { kind := .S, lastTrack := some 305, heads := 2, writeProtected := false } }
    spin :=
      { State.reset.bayA.spin with
        state := spin, attempt := 1, drive := driveIn spin, sbrk := spin.brakes, phases := spin.phases, tachRef := true, tachTimer := some 500000
        purpose := if spin = .braking then some .stop else none, brakeLimit := if spin = .braking then some 10000000 else none
        stageTimer := some 4000000, speedLost := some 1000000 }
    pos :=
      { State.reset.bayA.pos with
        state := pos, target := 100, loadWait := some 2000000, loadTimer := some 300000, seekTimer := some 150000
        unloadTimer := some 500000, retractTimer := some 500000 }
    mon := { qualified := true, reserveCount := 3, overcurrent := false, overCount := 0 } }

/-- Bay A with these holdings, in the state after reset otherwise. -/
def has (x : BayState) (h : Holdings) : State :=
  fix { State.reset with bayA := x, ledger := { State.reset.ledger with holdA := h } }

/-- Bay A at rest with a cartridge. -/
def atRestA : State := has (bayIn .stopped .parked) ⟨0, 0, 0⟩

/-- Bay A locked and following track 100. -/
def followingA : State := has (bayIn .locked .following) ⟨40, 30, 0⟩

/-- A state with its bay A's scheduler changed. -/
def withSched (f : Sched → Sched) (s : State) : State := fix (s.modSched .A f)

/-- A state with its bay A's cartridge changed. -/
def withCart (f : Cartridge → Cartridge) (s : State) : State := fix (s.modCart .A f)

/-- A state with its bay A's spindle changed. -/
def withSpin (f : Spindle → Spindle) (s : State) : State := fix (s.modSpin .A f)

/-- A state with its bay A's positioner changed. -/
def withPos (f : Positioner → Positioner) (s : State) : State := fix (s.modPos .A f)

/-- A state with its bay A's gate changed. -/
def withGate (f : Gate → Gate) (s : State) : State := fix (s.modGate .A f)

/-- A state with its bay A's lines changed. -/
def withPins (f : BayPins → BayPins) (s : State) : State := fix (s.modPins .A f)

/-- A state with its bay A's judgements changed. -/
def withMon (f : Monitor → Monitor) (s : State) : State := fix (s.modMon .A f)

/-- A state with this capacity, the supply being NORMAL. -/
def withBudget (c : Nat) (s : State) : State := { s with ledger := { s.ledger with capacity := c, effective := c } }

/-- A state with this wait list. -/
def withWait (w : List WaitEntry) (s : State) : State := { s with ledger := { s.ledger with wait := w } }

/-- A state whose converter is at this conversion. -/
def withConv (c : Converter) (s : State) : State := { s with sense := { s.sense with conv := c, scan := some ⟨0, true⟩ } }

/-- The next state of a command. -/
def after (c : Instr) (s : State) : State :=
  match exec c s with
  | .next t => t
  | .fault _ | .refused _ => State.reset

/-- The reply held after a command. -/
def reply (c : Instr) (s : State) : List Byte := (after c s).link.held

/-- The operation in flight with this kind. -/
def flying (k : OpKind) (s : State) : State := withSched (fun x => { x with inflight := some ⟨77, k⟩ }) s

/-- A queue of so many CLOSE WRITEs. -/
def queued (n : Nat) (s : State) : State :=
  withSched (fun x => { x with state := .halted, cause := some .request, queue := (List.range n).map fun i => ⟨i + 2, .closeWrite⟩ }) s

/-! ## WellFormed: each check refuses an ill-formed command -/

theorem test_wf_profile_needs_16_values : (Instr.writeProfile [1, 2, 3]).wf = false := by decide
theorem test_wf_profile_takes_16_values : (Instr.writeProfile (List.replicate 16 9)).wf = true := by decide
theorem test_wf_sense_list_takes_10_entries : (Instr.writeSenseList (List.replicate 10 ⟨6, 1, 0, 0⟩)).wf = true := by decide
theorem test_wf_sense_list_refuses_11_entries : (Instr.writeSenseList (List.replicate 11 ⟨6, 1, 0, 0⟩)).wf = false := by decide
/-- The frame of R174's example passes every check, so it is no refused frame. -/
theorem test_wf_good_frame_is_not_refused : (Instr.frameRefused [1, 1, 0, 254]).wf = false := by decide
theorem test_wf_bad_check_byte_is_refused : (Instr.frameRefused [1, 1, 0, 253]).wf = true := by decide
theorem test_wf_empty_frame_is_no_frame : (Instr.frameRefused []).wf = false := by decide
theorem test_wf_tach_pulse_needs_a_period :
    (Instr.tachPulse .A 0).wf = false ∧ (Instr.tachPulse .A 1).wf = true ∧ (Instr.tachPulse .A 500000).wf = true ∧
      (Instr.tachPulse .A 500001).wf = false := by decide

/-! ## No word of the table spells a command -/

theorem test_no_row_gives_bits : decodeTableWord 32 0 = none ∧ (State.reset.withFetchWord 32 0).pending = [] := by decide

/-! ## Frames, byte by byte from R174 and R180 -/

/-- R174: a SPIN UP addressed to bay A. -/
theorem test_frame_spinUp : checkFrame [1, 1, 0, 254] false = .taken (.spinUp .A) := by decide
/-- R180: SEEK to track 260 on head 1 of bay B; 5 + 2 + 3 + 1 + 4 + 1 = 16. -/
theorem test_frame_seek : checkFrame [5, 2, 3, 240, 1, 4, 1] false = .taken (.seek .B 260 1) := by decide
/-- R180, R175: SET TRIM -2 of bay A; 22 + 1 + 1 + 254 = 278 = 256 + 22. -/
theorem test_frame_setTrim : checkFrame [22, 1, 1, 234, 254] false = .taken (.setTrim .A (-2)) := by decide
/-- R180: SET BUDGET 300; 32 + 2 + 1 + 44 = 79. -/
theorem test_frame_setBudget : checkFrame [32, 0, 2, 177, 1, 44] false = .taken (.setBudget 300) := by decide
/-- R178: one unused entry at position 9; 35 + 4 + 9 + 128 = 176. -/
theorem test_frame_writeSenseList : checkFrame [35, 0, 4, 80, 9, 0, 0, 128] false = .taken (.writeSenseList [⟨9, 0, 0, 128⟩]) := by decide
/-- R180: READ STATUS may go to the part; 49. -/
theorem test_frame_readStatus : checkFrame [49, 0, 0, 207] false = .taken (.readStatus .part) := by decide
/-- R166, check g: IDENTIFY addressed to bay A; 48 + 1 = 49. -/
theorem test_frame_bad_bay : checkFrame [48, 1, 0, 207] false = .refused .badBay := by decide
/-- R166, checks a to f: three bytes; the overflow mark; the sum; the length byte; the code; the payload length. -/
theorem test_frame_bad_frame :
    checkFrame [1, 1, 254] false = .refused .badFrame ∧ checkFrame [1, 1, 0, 254] true = .refused .badFrame ∧
    checkFrame [1, 1, 0, 255] false = .refused .badFrame ∧ checkFrame [1, 1, 1, 253] false = .refused .badFrame ∧
    checkFrame [9, 1, 0, 246] false = .refused .badFrame ∧ checkFrame [1, 1, 1, 0, 253] false = .refused .badFrame := by decide

/-! ## The worked cases of the spec -/

/-- R174: the reply QUEUED with tag 7 is 2, 1, 1, 1, 7. -/
theorem test_reply_queued : reply (.spinUp .A) { atRestA with nextTag := 7 } = [2, 1, 1, 1, 7] := by decide

/-- R53, third row: sum 110, holding 30, ranged 60..100: granted 100, sum 180. -/
theorem test_seek_granted_100 :
    (after (.seek .A 200 0) { followingA with ledger := { followingA.ledger with holdB := ⟨40, 0, 0⟩ } }).ledger.sum = 180 := by decide
/-- R53, second row: sum 250, holding 30, ranged 60..100: granted 80, sum 300. -/
theorem test_seek_granted_80 :
    (after (.seek .A 200 0) { followingA with ledger := { followingA.ledger with holdB := ⟨180, 0, 0⟩ } }).hold (.actuator .A) = 80 := by
  decide
/-- R53, fourth row: sum 180, fixed 180 does not fit and waits. -/
theorem test_spinUp_waits :
    (after (.spinUp .A) { atRestA with ledger := { atRestA.ledger with holdB := ⟨180, 0, 0⟩ } }).ledger.wait = [⟨.spindle .A, .fixed 180⟩] := by
  decide

/-- R29 at trim 0: the drive code of a LOCKED spindle under 40. -/
theorem test_drive_in_locked :
    [16700, 16665, 16650, 16500, 16800, 18000].map (fun p => (after (.tachPulse .A p) followingA).bayA.spin.drive) =
      [32, 24, 20, 0, 40, 40] := by decide
/-- R25: with drive code 0, here of a short revolution in LOCKED, the phase drives are off; with another they are commutated again. -/
theorem test_phases_off_without_drive :
    (after (.tachPulse .A 16500) followingA).bayA.spin.phases = .off ∧
      (after (.tachPulse .A 16700) (after (.tachPulse .A 16500) followingA)).bayA.spin.phases = .commutated := by decide
/-- R29 at trim 0: the drive code of a LOCKING spindle under 180. -/
theorem test_drive_in_locking :
    [16700, 16800, 18000].map (fun p => (after (.tachPulse .A p) (has (bayIn .locking .parked) ⟨180, 0, 0⟩)).bayA.spin.drive) =
      [32, 57, 180] := by decide

/-- A positioner and servo for the cases of section 4.6, with type D media. -/
def servoA (pos : PosState) (hold target : Nat) (last v : Int) (lastNum : Nat) (r : Report) : State :=
  let x := bayIn .locked pos
  { has
      { x with
        cart := { x.cart with media := some { kind := .D, lastTrack := some 611, heads := 2, writeProtected := false } }
        pos := { x.pos with target := target, owner := .operation }
        servo := { x.servo with P := last, v := v, fresh := false, lastValid := some last, lastNum := some lastNum } }
      ⟨40, hold, 0⟩ with
    sau := some { bay := .A, report := r, gains := ⟨24, 12, 40, 12⟩, profile := Const.profileDefault, discard := false } }

/-- Section 4.6, a seek wedge at nominal values: P 12,813, v 200, I 30. -/
theorem test_servo_seek_nominal :
    (after .sauCompletion (servoA .seeking 90 260 12613 0 17 ⟨18, some 200, 700, 300⟩)).bayA.servo =
      { P := 12813, v := 200, fresh := false, lastValid := some 12813, k := 0, lastNum := some 18, lastOk := true, pes := 0,
        pesValid := false, I := 30 } := by decide
/-- Section 4.6, a seek outward, clamped to its grant of 60: P 19,994, v -100, I -60. -/
theorem test_servo_seek_clamped :
    let x := (after .sauCompletion (servoA .seeking 60 100 20094 0 17 ⟨18, some 312, 900, 100⟩)).bayA.servo
    (x.P, x.v, x.I) = (19994, -100, -60) := by decide
/-- Section 4.6, following on track: P 16,650, v -2, PES 10, I -2. The bursts give f = 10 (R74: 32 * 160 / 512). -/
theorem test_servo_following :
    let x := (after .sauCompletion (servoA .following 30 260 16652 0 17 ⟨18, some 260, 336, 176⟩)).bayA.servo
    (x.P, x.v, x.pes, x.I) = (16650, -2, 10, -2) := by decide
/-- Section 4.6, arrival: P 16,620 and v 12 give PES -20, I -15, and SETTLING. The bursts give f = -20 (32 * -320 / 512). -/
theorem test_servo_arrival :
    let t := after .sauCompletion (servoA .seeking 80 260 16608 0 17 ⟨18, some 260, 96, 416⟩)
    (t.bayA.servo.pes, t.bayA.servo.I, t.bayA.pos.state) = (-20, -15, .settling) := by decide
/-- Section 4.6, a run of invalid wedges while following: P 8,002, v 2, I -3. -/
theorem test_servo_invalid :
    let s := servoA .following 30 125 8000 2 19 ⟨20, none, 500, 500⟩
    let x := (after .sauCompletion (s.modServo .A fun y => { y with I := -6 })).bayA.servo
    (x.P, x.v, x.k, x.I) = (8002, 2, 1, -3) := by decide
/-- R77: the nearest tracks of its table. -/
theorem test_nearest_track :
    [(12813 : Int), 12832, -32].map (fun p => nearest p 64) = [200, 201, -1] := by decide

/-- A state whose converter is about to deliver a rail sample, the supply in this state. -/
def railA (p : Nat) (st : SupplyState) (good : Bool) (n : Nat) : State :=
  fix { withConv (.list p) followingA with
        supply := { followingA.supply with state := st, good12 := good, goodScans := n }
        ledger := { followingA.ledger with effective := effectiveOf 300 st } }

/-- Section 7.6, scans 40, 41 and 43: NORMAL at 760, SAG at 735 with E 225, FAIL at 670 with E 0. -/
theorem test_supply_dip :
    ((after (.conversionCompletion 760) (railA 0 .normal false 0)).supply.state,
     (after (.conversionCompletion 735) (railA 0 .normal false 0)).ledger.effective,
     (after (.conversionCompletion 670) (railA 0 .sag false 0)).ledger.effective) = (.normal, 225, 0) := by decide
/-- Section 7.6, scans 46 and 49: a 5 V sample of 690 breaks the run; the third good scan returns to NORMAL. -/
theorem test_supply_return :
    ((after (.conversionCompletion 690) (railA 1 .fail true 1)).supply.goodScans,
     (after (.conversionCompletion 855) (railA 1 .fail true 2)).supply.state) = (0, .normal) := by decide
/-- Section 7.7: position 6, channel 9 at x4: raw 300 is stored as 1023. -/
theorem test_sample_saturates :
    let s := withConv (.list 6) { followingA with sense := { followingA.sense with active := [some ⟨9, 2, false, false, true⟩] } }
    ((after (.conversionCompletion 300) s).store.image[6]?.map Slot.value, (after (.conversionCompletion 200) s).store.image[6]?.map Slot.value) =
      (some 1023, some 800) := by decide

/-- R193: 8 + 12 + 5 = 25 bytes of payload. -/
theorem test_identify_length : (reply .identify atRestA).length = 29 := by decide
/-- R192: 21 counters of 2 bytes. -/
theorem test_counters_length : (reply .readCounters atRestA).length = 46 := by decide
/-- R177: an empty list gives no records and a count of 0. -/
theorem test_completions_empty : reply .readCompletions atRestA = [1, 55, 0, 2, 0, 0] := by decide
/-- R176: a SPIN UP with 100 of capacity fails NO_BUDGET, 37, as attempt 1 (R152, R177). -/
theorem test_completion_no_budget :
    reply .readCompletions (after (.spinUp .A) (withBudget 100 atRestA)) =
      [1, 55, 0, 9, 1, 1, 1, 1, 37, 1, 0, 1, 0] := by decide
/-- R58: SET BUDGET of 1,000 is clamped to 400. -/
theorem test_budget_clamped : reply (.setBudget 1000) atRestA = [1, 32, 0, 2, 1, 144] := by decide
/-- R3: MED1 open and MED0 closed is type S, last track 305. -/
theorem test_media_type_S :
    (after (.debounceExpiry .A false true false)
      (withCart (fun c => { c with state := .seating, debounce := some 1 }) State.reset)).bayA.cart.media =
      some { kind := .S, lastTrack := some 305, heads := 2, writeProtected := false } := by decide
/-- R41, R153: in LOADING with PARK still true, overcurrent fails the LOAD HEADS before the heads go back. -/
theorem test_overcurrent_fails_the_load :
    let x := bayIn .locked .loading
    let s := withConv (.list 4) (withMon (fun m => { m with overCount := 1 })
      (flying .loadHeads (withPins (fun p => { p with park := true }) (has x ⟨40, 30, 0⟩))))
    let t := after (.conversionCompletion 901) s
    (t.completions.map Completion.outcome, t.bayA.pos.state) = ([.failed .overcurrent], .parked) := by decide
/-- R21: from one flashing condition to another the rhythm goes on. -/
theorem test_flash_rhythm_goes_on :
    let s := withCart (fun c => { c with state := .jammed, lamp := true, flashTimer := some 7 }) followingA
    let c := (after (.presFall .A) s).bayA.cart
    (c.state, c.lampMode, c.lamp, c.flashTimer) = (.empty, .flashing, true, some 7) := by decide
/-- R160: an EJECT that waits on a positioner in FAULT is still in flight when the reply of BAY RESET is prepared. -/
theorem test_bay_reset_names_the_eject :
    let s := withPins (fun p => { p with park := true }) (withCart (fun c => { c with state := .releasePending })
      (flying .eject (withBudget 110 (has (bayIn .stopped .fault) ⟨0, 0, 0⟩))))
    reply (.bayReset .A) s = [1, 20, 1, 2, 0, 77] := by decide
/-- R166: the refusal log records code 0 for a frame of one byte. -/
theorem test_one_byte_frame_logs_code_0 :
    (after (.frameRefused [9]) atRestA).refusals.first = some ⟨0, 0, .badFrame⟩ := by decide
/-- R129, R178: an unused entry leaves its position unused. -/
theorem test_unused_entries :
    reply (.writeSenseList [⟨6, 0, 0, 128⟩, ⟨15, 0, 0, 128⟩]) atRestA =
      [1, 35, 0, 40] ++ (List.range 10).flatMap fun i => [byteOf (6 + i), 0, 0, 128] := by decide
/-- R129, R178: position 5, position 16, a position named twice; 6 and 15; the same positions in unused entries are not read. -/
theorem test_bad_items :
    (badItems [⟨5, 0, 0, 0⟩] && badItems [⟨16, 0, 0, 127⟩] && badItems [⟨6, 0, 0, 0⟩, ⟨7, 0, 0, 128⟩, ⟨6, 1, 0, 0⟩]) = true ∧
      (badItems [⟨6, 0, 0, 0⟩, ⟨15, 0, 0, 0⟩] || badItems [⟨5, 0, 0, 128⟩, ⟨16, 0, 0, 255⟩] ||
        badItems [⟨6, 0, 0, 0⟩, ⟨6, 0, 0, 128⟩]) = false := by decide
/-- R21: a bay with an operation in flight has its lamp steady. -/
theorem test_lamp_steady_in_flight : (after (.spinUp .A) atRestA).bayA.cart.lampMode = .steady := by decide
/-- A step takes the command in front and leaves the rest. -/
theorem test_step_takes_the_front :
    (match step { atRestA with pending := [.identify, .readEvents] } with
      | .next t => (t.pending, t.link.held.length)
      | .fault _ | .refused _ => ([], 0)) = ([.readEvents], 29) := by decide

/-! ## Witnesses: states that meet the hypotheses of the statements, clause by clause -/

/-- A step from this state is a next state. -/
abbrev Steps (s : State) : Prop := ∃ t, step s = .next t

/-- The command in front. -/
def run (c : Instr) (s : State) : State := { s with pending := [c] }

theorem exec_next (c : Instr) (s : State) : ∃ t, exec c s = .next t := by cases c <;> exact ⟨_, rfl⟩

theorem steps (c : Instr) (s : State) : Steps (run c s) := exec_next c { s with pending := [] }

theorem witness_StepKeepsLedgerSound :
    let s := run (.setBudget 140) (withBudget 140 (has (bayIn .locked .seeking) ⟨40, 100, 0⟩))
    LedgerSound s ∧ Steps s := ⟨⟨by decide, by decide⟩, steps _ _⟩
/-- A following head at the whole of its 30, unloaded. -/
theorem witness_StepKeepsActuatorsSound :
    let s := run (.unloadHeads .A) (withPos (fun p => { p with act := -30, source := .rail }) followingA)
    ActuatorsSound s ∧ s.bayA.pos.state = .following ∧ Steps s :=
  ⟨by intro b; cases b <;> exact ⟨by decide, ⟨by decide, by decide⟩, by decide⟩, by decide, steps _ _⟩
/-- A following head whose recovery request waits, and the other bay's load, granted 100 and 30 by a budget raised. -/
theorem witness_StepKeepsActuatorsSound_waiting :
    let s := run (.setBudget 400) (withWait [⟨.actuator .A, .ranged 60 100⟩, ⟨.actuator .B, .fixed 30⟩]
      (withPos (fun p => { p with act := 30, source := .rail, pending := .recovery }) (withBudget 100 followingA)))
    ActuatorsSound s ∧ s.ledger.wait.length = 2 ∧ Steps s :=
  ⟨by intro b; cases b <;> exact ⟨by decide, ⟨by decide, by decide⟩, by decide⟩, by decide, steps _ _⟩
theorem witness_StepKeepsStoresBounded :
    let s := run .readCompletions
      { atRestA with
        completions := List.replicate 8 ⟨255, .A, .eject, .success, none⟩
        store := { atRestA.store with ring := List.replicate 96 ⟨15, 11, 1023, 255⟩ } }
    StoresBounded s ∧ Steps s := ⟨⟨by decide, by decide, by decide, by decide⟩, steps _ _⟩
theorem witness_StepKeepsAttnExact :
    let s := run (.clearEvents 0x1000) (fix { atRestA with events := { latched := 0x1000, mask := 0x1000 } })
    AttnExact s ∧ s.link.attn = true ∧ Steps s := ⟨rfl, rfl, steps _ _⟩
theorem witness_StepKeepsSchedulersQuiet_halted :
    let s := run (.runBay .A) (queued 2 atRestA)
    HaltedIdle s ∧ s.bayA.sched.state = .halted ∧ Steps s := ⟨by intro b; cases b <;> decide, by decide, steps _ _⟩
theorem witness_StepKeepsSchedulersQuiet_taking :
    let s := run (.spinUp .A) atRestA
    TakingsDone s ∧ mayTake s.bayA.sched = true ∧ Steps s := ⟨by intro b; cases b <;> decide, by decide, steps _ _⟩
theorem witness_StepKeepsSchedulersQuiet_release :
    let s := run (.pulseTimerExpiry .A) (withCart (fun c => { c with state := .ejecting, phase := some .pulse, latch := true }) atRestA)
    ReleaseQuiet s ∧ s.bayA.cart.state = .ejecting ∧ Steps s := ⟨by intro b; cases b <;> decide, by decide, steps _ _⟩
theorem witness_StepKeepsHeadsRegulated :
    let s := run (.spinDown .A) followingA
    HeadsRegulated s ∧ s.bayA.pos.state.defersBrake = true ∧ Steps s := ⟨by intro b; cases b <;> decide, by decide, steps _ _⟩
theorem witness_StepKeepsSpindleOutputs :
    let s := run (.bayReset .A) (withMon (fun m => { m with overcurrent := true }) (has (bayIn .fault .parked) ⟨0, 0, 0⟩))
    SpindleOutputs s ∧ OvercurrentOff s ∧ s.bayA.mon.overcurrent = true ∧ Steps s :=
  ⟨by intro b; cases b <;> decide, by intro b; cases b <;> decide, by decide, steps _ _⟩
theorem witness_StepKeepsLatchSafe :
    let s := run (.pulseTimerExpiry .A)
      (withCart (fun c => { c with state := .ejecting, phase := some .pulse, latch := true, pulseTimer := some 1 })
        (has (bayIn .stopped .parked) ⟨0, 0, 120⟩))
    LatchSafe s ∧ WaitDistinct s ∧ s.bayA.cart.latch = true ∧ Steps s :=
  ⟨by intro b; cases b <;> decide, List.nodup_nil, by decide, steps _ _⟩
theorem witness_StepKeepsPermitExact :
    let s := run (.wgateRise .A) (withGate (fun g => { g with window := true, qualified := true }) followingA)
    PermitExact s ∧ s.bayA.gate.wperm = true ∧ Steps s := ⟨by intro b; cases b <;> decide, by decide, steps _ _⟩
theorem witness_StepKeepsPoolAndTags :
    let s := run (.spinUp .A) (queued 11 { atRestA with nextTag := 255 })
    PoolBounded s ∧ TagsDistinct s ∧ Steps s :=
  ⟨⟨by decide, by intro b; cases b <;> decide⟩, ⟨by decide, by decide⟩, steps _ _⟩
/-- Twelve queued operations cancelled; eight records read. -/
theorem witness_StepAccountsForOperations :
    ∀ c ∈ [Instr.abortBay .A, .readCompletions],
      let s := run c { queued 12 atRestA with completions := List.replicate 8 ⟨255, .A, .eject, .success, none⟩ }
      (∀ x, s.pending.head? = some x → ¬ResetsPart x s) ∧ (heldOps s).length = 12 ∧ Steps s := by
  intro c h
  refine ⟨?_, rfl, steps _ _⟩
  simp only [List.mem_cons, List.not_mem_nil, or_false] at h
  rintro x hx (hp | hp | ⟨-, hr, -⟩)
  · rcases h with rfl | rfl <;> cases hx <;> cases hp
  · rcases h with rfl | rfl <;> cases hx <;> cases hp
  · rcases h with rfl | rfl <;> exact absurd hr (by decide)
theorem witness_StepKeepsLampExact :
    let s := run (.abortBay .A) (flying .eject atRestA)
    LampExact s ∧ s.bayA.cart.lampMode = .steady ∧ Steps s := ⟨by intro b; cases b <;> decide, by decide, steps _ _⟩
theorem witness_StepKeepsLinkSound :
    let s := run (.linkStrobe false true 1)
      { atRestA with link := { atRestA.link with phase := .receiving, buffer := List.replicate 64 0, lfrm := true } }
    LinkSound s ∧ Steps s := ⟨⟨by decide, by decide⟩, steps _ _⟩

/-- The largest fields that the frame of a SEEK can carry. -/
theorem witness_FramesCarryTheirRequests :
    let i := Instr.seek .B 0xFFFF 0xFF
    i.isRequest = true ∧ i.wf = true := by decide
theorem witness_LinkChecksFollowTheCodeTable_bad_bay :
    (4 ≤ [48, 1, 0, 207].length ∧ byteSum [48, 1, 0, 207] = 0) ∧
      ∃ row ∈ codeTable, row.code = 48 ∧ 0 ∈ row.lengths ∧ row.addressing.permits 1 = false := by decide
theorem witness_StrobedFrameActsAsItsRequest :
    (∃ i : Instr, i.isRequest = true ∧ i.wf = true ∧ atRestA.link.resetN = true ∧ atRestA.link.lockout = false ∧
      atRestA.link.phase = .idle) ∧
    (let s := { atRestA with link := { atRestA.link with phase := .holding, held := [1, 55, 0, 0], lrdy := true } };
      s.link.resetN = true ∧ s.link.lockout = false ∧ s.link.phase = .holding ∧ s.link.resetOnRead = false) :=
  ⟨⟨.setTrim .A 0x80, by decide⟩, by decide⟩
theorem witness_BadFramesAreRefused :
    (let s := { atRestA with link := { atRestA.link with phase := .receiving, buffer := [1], lfrm := true } };
      AttnExact s ∧ s.link.resetN = true ∧ s.link.phase = .receiving ∧
        checkFrame s.link.buffer s.link.overflow = .refused .badFrame) ∧
    (AttnExact atRestA ∧ LinkTakes (List.replicate 65 0) atRestA ∧
      checkFrame ((List.replicate 65 0).take 64) (64 < (List.replicate 65 (0 : Byte)).length) = .refused .badFrame) ∧
    (LinkTakes [48, 1, 0, 207] atRestA ∧ checkFrame ([48, 1, 0, 207].take 64) (64 < 4) = .refused .badBay) ∧
    ∀ bytes ∈ [[48], [48, 1]], takesCheck bytes atRestA = true ∧ checkFrame (bytes.take 64) (64 < bytes.length) = .refused .badFrame :=
  ⟨⟨rfl, by decide⟩, ⟨rfl, linkTakes_of_check (by decide), by decide⟩, ⟨linkTakes_of_check (by decide), by decide⟩, by decide⟩
/-- Each row of the strobe table: RESET_N low; receiving with 63 and with 64 bytes; idle; a held reply with one byte and with two
unread; in preparation; locked out. -/
theorem witness_StrobesFollowTheTable :
    (∃ s : State, s.link.resetN = false) ∧
    (∃ s : State, s.link.resetN = true ∧ s.link.lockout = false ∧ s.link.phase = .receiving ∧ s.link.buffer.length = 63) ∧
    (∃ s : State, s.link.resetN = true ∧ s.link.lockout = false ∧ s.link.phase = .receiving ∧ s.link.buffer.length = 64) ∧
    (∃ s : State, s.link.resetN = true ∧ s.link.lockout = false ∧ s.link.phase = .idle) ∧
    (∃ s : State, s.link.resetN = true ∧ s.link.phase = .holding ∧ s.link.readIndex + 1 = s.link.held.length ∧
      s.link.resetOnRead = false) ∧
    (∃ s : State, s.link.resetN = true ∧ s.link.phase = .holding ∧ s.link.readIndex + 1 < s.link.held.length) ∧
    (∃ s : State, s.link.resetN = true ∧ s.link.phase = .preparing ∧ s.link.lockout = false) ∧
    ∃ s : State, s.link.resetN = true ∧ s.link.lockout = true :=
  ⟨⟨{ atRestA with link := { atRestA.link with resetN := false } }, rfl⟩,
   ⟨{ atRestA with link := { atRestA.link with phase := .receiving, buffer := List.replicate 63 0 } }, by decide⟩,
   ⟨{ atRestA with link := { atRestA.link with phase := .receiving, buffer := List.replicate 64 0 } }, by decide⟩,
   ⟨atRestA, by decide⟩,
   ⟨{ atRestA with link := { atRestA.link with phase := .holding, held := [9] } }, by decide⟩,
   ⟨{ atRestA with link := { atRestA.link with phase := .holding, held := [9, 8] } }, by decide⟩,
   ⟨{ atRestA with link := { atRestA.link with phase := .preparing } }, by decide⟩,
   ⟨{ atRestA with link := { atRestA.link with lockout := true } }, by decide⟩⟩
theorem witness_PartResetResetsEveryBlock :
    (LinkTakes (frameOf .resetPart) atRestA ∧ AttnExact atRestA) ∧
    (let s := { atRestA with link := { atRestA.link with phase := .holding, held := [1, 56, 0, 0], readIndex := 3, resetOnRead := true } };
      s.link.resetN = true ∧ s.link.phase = .holding ∧ s.link.resetOnRead = true ∧ s.link.lockout = false ∧
        s.link.readIndex + 1 = s.link.held.length) ∧
    ∃ s : State, s.link.resetN = false :=
  ⟨⟨linkTakes_of_check (by decide), rfl⟩, by decide, { atRestA with link := { atRestA.link with resetN := false } }, rfl⟩

/-- An operation behind eleven others, the tag counter at its end. -/
theorem witness_AcceptedOperationIsQueued :
    let s := queued 11 { atRestA with nextTag := 255 }
    (LinkTakes (frameOf (.spinUp .A)) s ∧ Settled s) ∧ PoolBounded s ∧ OpAccepted .A .spinUp s ∧ mayTake (s.bay .A).sched = false :=
  ⟨ready (by decide), ⟨by decide, by intro b; cases b <;> decide⟩, opAccepted_of_check (by decide), by decide⟩
/-- Check 3: track 306 of a type S cartridge; head 2. -/
theorem witness_UnacceptableOperationIsRefused_value :
    (LinkTakes (frameOf (.seek .A 306 0)) atRestA ∧ Settled atRestA) ∧ ¬SeekFits .A (.seek 306 0) atRestA ∧
      ¬SeekFits .A (.seek 305 2) atRestA :=
  ⟨ready (by decide), by rw [seekFits_iff_check]; decide, by rw [seekFits_iff_check]; decide⟩
/-- Check 4, by cartridge state. -/
theorem witness_UnacceptableOperationIsRefused_state :
    ∀ c ∈ [CartState.empty, .seating, .releasePending, .ejecting, .jammed],
      let s := withCart (fun x => { x with state := c }) atRestA
      (takesCheck (frameOf (.spinUp .A)) s && settledCheck s && seekCheck .A .spinUp s) = true ∧ (s.bay .A).cart.state = c := by decide
/-- Check 5: an EJECT that is prevented. -/
theorem witness_UnacceptableOperationIsRefused_prevented :
    let s := withCart (fun x => { x with prevent := true }) atRestA
    (LinkTakes (frameOf (.eject .A)) s ∧ Settled s) ∧ SeekFits .A .eject s ∧ (s.bay .A).cart.state = .seated ∧
      (s.bay .A).cart.prevent = true :=
  ⟨ready (by decide), by rw [seekFits_iff_check]; decide, by decide⟩
/-- Check 6: twelve slots held beside an idle bay; eight beside one that holds two; sixteen in all. -/
theorem witness_UnacceptableOperationIsRefused_full :
    (let s := queued 12 atRestA;
      (LinkTakes (frameOf (.spinUp .A)) s ∧ Settled s) ∧ slotsHeld (s.bay .A).sched = 12 ∧ slotsHeld (s.bay .B).sched = 0) ∧
    (let s := fix ((queued 8 atRestA).modSched .B fun x => { x with state := .halted, cause := some .request, queue := [⟨98, .eject⟩, ⟨99, .eject⟩] });
      (LinkTakes (frameOf (.spinUp .A)) s ∧ Settled s) ∧ slotsHeld (s.bay .A).sched = 8 ∧ slotsHeld (s.bay .B).sched = 2) :=
  ⟨⟨ready (by decide), by decide⟩, ready (by decide), by decide⟩

/-- A type S cartridge's media record, write-protected or not. -/
def mediaS (p : Bool) : Media := { kind := .S, lastTrack := some 305, heads := 2, writeProtected := p }

/-- What the statement of the operations that complete at their taking asks of a command, an operation, a state and an outcome. -/
def takingCheck (c : Instr) (k : OpKind) (s : State) (o : OpOutcome) : Bool :=
  decide (operationOf c = some (.A, k)) && takesCheck (frameOf c) s && settledCheck s && acceptedCheck .A k s &&
    decide (s.bayA.sched.state = .running ∧ s.bayA.sched.inflight = none ∧ s.bayA.sched.queue = []) && !s.bayA.pins.wgate &&
    decide (atTaking k s.bayA = some o)

theorem witness_OperationsThatCompleteAtTheirTaking_spindle :
    takingCheck (.spinUp .A) .spinUp followingA .success = true ∧
    takingCheck (.spinUp .A) .spinUp (withCart (fun c => { c with media := some (mediaRecord true true false) }) atRestA)
      (.failed .mediaUnknown) = true ∧
    takingCheck (.spinDown .A) .spinDown atRestA .success = true ∧
    takingCheck (.spinDown .A) .spinDown (has (bayIn .fault .parked) ⟨0, 0, 0⟩) (.failed .notReady) = true := by decide
theorem witness_OperationsThatCompleteAtTheirTaking_positioner :
    takingCheck (.loadHeads .A) .loadHeads followingA .success = true ∧
    takingCheck (.loadHeads .A) .loadHeads atRestA (.failed .notReady) = true ∧
    takingCheck (.unloadHeads .A) .unloadHeads atRestA .success = true ∧
    takingCheck (.unloadHeads .A) .unloadHeads (has (bayIn .stopped .fault) ⟨0, 0, 0⟩) (.failed .notReady) = true ∧
    takingCheck (.seek .A 100 0) (.seek 100 0) followingA .success = true ∧
    takingCheck (.seek .A 305 1) (.seek 305 1) atRestA (.failed .notTracking) = true := by decide
theorem witness_OperationsThatCompleteAtTheirTaking_window :
    takingCheck (.openWrite .A) .openWrite followingA .success = true ∧
    takingCheck (.openWrite .A) .openWrite atRestA (.failed .notTracking) = true ∧
    takingCheck (.openWrite .A) .openWrite (withCart (fun c => { c with media := some (mediaS true) }) followingA)
      (.failed .writeProtected) = true ∧
    takingCheck (.closeWrite .A) .closeWrite (withGate (fun g => { g with window := true }) followingA) .success = true := by decide

/-- Granted with a sum of exactly E; waiting with one more; failing at a capacity of 179. -/
theorem witness_SpinUpByTheSpindleState_stopped :
    ∀ s ∈ [{ atRestA with ledger := { atRestA.ledger with holdB := ⟨120, 0, 0⟩ } },
           { atRestA with ledger := { atRestA.ledger with holdB := ⟨121, 0, 0⟩ } }, withBudget 179 atRestA, withBudget 180 atRestA],
      (takesCheck (frameOf (.spinUp .A)) s && settledCheck s && acceptedCheck .A .spinUp s) = true ∧
      ((s.bay .A).sched.state = .running ∧ (s.bay .A).sched.inflight = none ∧ (s.bay .A).sched.queue = []) ∧
      (s.bay .A).spin.state = .stopped ∧ (s.bay .A).mon.overcurrent = false ∧
      ((s.bay .A).cart.media.any fun m => m.kind = .unrecognised) = false ∧ s.ledger.waits (.spindle .A) = false ∧
      (s.bay .A).pos.pending ≠ .load := by decide
theorem witness_SpinUpByTheSpindleState_others :
    ∀ s ∈ [has (bayIn .braking .parked) ⟨0, 0, 0⟩, has (bayIn .fault .parked) ⟨0, 0, 0⟩,
           withMon (fun m => { m with overcurrent := true }) atRestA],
      (takesCheck (frameOf (.spinUp .A)) s && settledCheck s && acceptedCheck .A .spinUp s) = true ∧
      ((s.bay .A).sched.state = .running ∧ (s.bay .A).sched.inflight = none ∧ (s.bay .A).sched.queue = []) ∧
      ((s.bay .A).spin.state = .braking ∨ (s.bay .A).spin.state = .fault ∨
        (s.bay .A).spin.state = .stopped ∧ (s.bay .A).mon.overcurrent = true) ∧
      ((s.bay .A).cart.media.any fun m => m.kind = .unrecognised) = false ∧ s.ledger.waits (.spindle .A) = false ∧
      (s.bay .A).pos.pending ≠ .load := by decide
theorem witness_SpinDownBrakes :
    ∀ s ∈ [has (bayIn .locked .parked) ⟨40, 0, 0⟩, followingA, has (bayIn .unlocked .following) ⟨40, 30, 0⟩],
      (takesCheck (frameOf (.spinDown .A)) s && settledCheck s && acceptedCheck .A .spinDown s) = true ∧
      ((s.bay .A).sched.state = .running ∧ (s.bay .A).sched.inflight = none ∧ (s.bay .A).sched.queue = []) ∧
      (s.bay .A).spin.state.regulated = true ∧ ((s.bay .A).pins.park = false ∨ (s.bay .A).pos.state.loaded = false) ∧
      s.ledger.wait = [] ∧ (s.bay .A).pos.pending = .none := by decide
/-- Granted at exactly E with and without a qualified reserve; waiting one below. -/
theorem witness_LoadHeadsFromParked :
    ∀ s ∈ [withBudget 70 (has (bayIn .locked .parked) ⟨40, 0, 0⟩),
           withMon (fun m => { m with qualified := false }) (has (bayIn .locked .parked) ⟨40, 0, 0⟩),
           withBudget 69 (has (bayIn .locked .parked) ⟨40, 0, 0⟩)],
      (takesCheck (frameOf (.loadHeads .A)) s && settledCheck s && acceptedCheck .A .loadHeads s) = true ∧
      ((s.bay .A).sched.state = .running ∧ (s.bay .A).sched.inflight = none ∧ (s.bay .A).sched.queue = []) ∧
      (s.bay .A).pos.state = .parked ∧ (s.bay .A).spin.state = .locked ∧ s.ledger.wait = [] ∧ 30 ≤ s.ledger.capacity ∧
      s.hold (.actuator .A) = 0 := by decide
/-- Granted at exactly 60, granted 100, waiting one short of 60; the last track of type S. -/
theorem witness_SeekFromFollowing :
    ∀ s ∈ [withBudget 100 followingA, withBudget 300 followingA, withBudget 99 followingA],
      (takesCheck (frameOf (.seek .A 305 1)) s && settledCheck s && acceptedCheck .A (.seek 305 1) s) = true ∧
      ((s.bay .A).sched.state = .running ∧ (s.bay .A).sched.inflight = none ∧ (s.bay .A).sched.queue = []) ∧
      (s.bay .A).pos.state = .following ∧ (305 ≠ (s.bay .A).pos.target ∨ 1 ≠ (s.bay .A).pos.head) ∧ s.ledger.wait = [] ∧
      60 ≤ s.ledger.capacity := by decide
/-- In SETTLING, on its own track and head; on another, the 60 granted at exactly E and one short of it. -/
theorem witness_SeekFromFollowing_settling :
    (∀ x ∈ [(100, 100), (100, 101), (99, (101 : Nat))],
      let s := withBudget x.1 (has (bayIn .locked .settling) ⟨40, 30, 0⟩)
      let f := frameOf (.seek .A (BitVec.ofNat 16 x.2) 0)
      (takesCheck f s && settledCheck s && acceptedCheck .A (.seek x.2 0) s) = true ∧ s.bayA.pos.state = .settling ∧
      (s.bayA.sched.state = .running ∧ s.bayA.sched.inflight = none ∧ s.bayA.sched.queue = []) ∧ s.bayA.pos.head = 0 ∧
      s.bayA.pos.target = 100 ∧ s.ledger.wait = [] ∧
      (s.ledger.sum - s.hold (.actuator .A) + 60 = s.ledger.effective ∨ x.1 = 99)) ∧
    HeadsRegulated (withBudget 100 (has (bayIn .locked .settling) ⟨40, 30, 0⟩)) :=
  ⟨by decide, by intro b; cases b <;> decide⟩
/-- A recovery request that waits alone, one unit short; one behind the other bay's spindle. -/
theorem witness_SeekFromFollowing_recovery :
    ∀ w ∈ [[], [(⟨.spindle .B, .fixed 180⟩ : WaitEntry)]],
      let s := withWait (w ++ [⟨.actuator .A, .ranged 60 100⟩]) (withPos (fun p => { p with pending := .recovery })
        { followingA with ledger := { (withBudget 200 followingA).ledger with holdB := ⟨101, 0, 0⟩ } })
      (takesCheck (frameOf (.seek .A 305 1)) s && settledCheck s && acceptedCheck .A (.seek 305 1) s) = true ∧
      (s.bayA.sched.state = .running ∧ s.bayA.sched.inflight = none ∧ s.bayA.sched.queue = []) ∧
      (s.ledger.wait.map WaitEntry.who).Nodup ∧ s.bayA.pos.state = .following ∧ s.bayA.pos.pending = .recovery ∧
      (⟨.actuator .A, .ranged 60 100⟩ : WaitEntry) ∈ s.ledger.wait ∧
      ((s.ledger.wait.head?).all fun e => s.ledger.effective < s.ledger.sum - s.hold e.who + e.req.need) = true := by decide
theorem witness_UnloadHeadsFromLoaded :
    ∀ s ∈ [followingA, has (bayIn .unlocked .seeking) ⟨40, 100, 0⟩, has (bayIn .locked .loading) ⟨40, 60, 0⟩],
      (takesCheck (frameOf (.unloadHeads .A)) s && settledCheck s && acceptedCheck .A .unloadHeads s) = true ∧
      ((s.bay .A).sched.state = .running ∧ (s.bay .A).sched.inflight = none ∧ (s.bay .A).sched.queue = []) ∧
      (s.bay .A).pos.state.loaded = true ∧ (s.bay .A).pins.park = false ∧ s.ledger.wait = [] ∧
      (s.bay .A).spin.brakeMark = false ∧ (s.bay .A).spin.state.regulated = true := by decide
/-- From SEATED and JAMMED; a grant at exactly E, a wait one short of it, a capacity of 119. -/
theorem witness_EjectAtRest :
    ∀ s ∈ [atRestA, withCart (fun c => { c with state := .jammed }) atRestA, withBudget 120 atRestA, withBudget 119 atRestA,
           { atRestA with ledger := { atRestA.ledger with holdB := ⟨181, 0, 0⟩ } }],
      (takesCheck (frameOf (.eject .A)) s && settledCheck s && acceptedCheck .A .eject s) = true ∧
      ((s.bay .A).sched.state = .running ∧ (s.bay .A).sched.inflight = none ∧ (s.bay .A).sched.queue = []) ∧
      atRest .A s = true ∧ s.ledger.waits (.latch .A) = false ∧ (s.bay .A).pins.wgate = false := by decide

/-- Loaded heads over more than 60 held and over 30; heads on their way; heads off over a turning, a braking and a faulted spindle. -/
theorem witness_EjectAtRest_not :
    ∀ s ∈ [has (bayIn .locked .seeking) ⟨40, 61, 0⟩, has (bayIn .unlocked .loading) ⟨40, 30, 0⟩, has (bayIn .locked .unloading) ⟨40, 30, 0⟩,
           has (bayIn .locked .parked) ⟨40, 0, 0⟩, has (bayIn .locked .fault) ⟨40, 0, 0⟩, has (bayIn .braking .parked) ⟨0, 0, 0⟩,
           has (bayIn .fault .parked) ⟨0, 0, 0⟩],
      (takesCheck (frameOf (.eject .A)) s && settledCheck s && acceptedCheck .A .eject s) = true ∧
      (s.bayA.sched.state = .running ∧ s.bayA.sched.inflight = none ∧ s.bayA.sched.queue = []) ∧ atRest .A s = false ∧
      s.ledger.wait = [] ∧ s.bayA.pins.wgate = false ∧ s.bayA.spin.state ≠ .waitPower ∧ s.bayA.pos.pending ≠ .load ∧
      (s.bayA.pos.state.defersBrake = true →
        s.bayA.spin.state.regulated = true ∧ s.bayA.pins.park = false ∧ s.bayA.spin.brakeMark = false) := by decide

theorem witness_HaltRunAndStepMode :
    ∀ s ∈ [atRestA, flying .spinUp atRestA, queued 0 atRestA],
      (takesCheck (frameOf (.haltBay .A)) s && takesCheck (frameOf (.runBay .A)) s && takesCheck (frameOf (.setStepMode .A true)) s &&
        settledCheck s) = true ∧ ((s.bay .A).sched.queue = [] ∨ (s.bay .A).sched.inflight.isSome = true) := by decide
/-- A queue headed by an operation that completes at its taking, alone with step mode off, or with step mode on. -/
theorem witness_HaltRunAndStepMode_recorded :
    ∀ x ∈ [(OpKind.closeWrite, OpOutcome.success, false, ([] : List Op)), (.openWrite, .failed .notTracking, true, [⟨8, .eject⟩])],
      let s := withSched (fun y => { y with state := .halted, cause := some .request, step := x.2.2.1, queue := ⟨7, x.1⟩ :: x.2.2.2 })
        atRestA
      (takesCheck (frameOf (.runBay .A)) s && settledCheck s) = true ∧ s.bayA.sched.state = .halted ∧
        s.bayA.sched.inflight = none ∧ atTaking x.1 s.bayA = some x.2.1 ∧ (s.bayA.sched.step = true ∨ x.2.2.2 = []) ∧
        s.bayA.pins.wgate = false := by decide
/-- A SPIN UP at the head, the spindle in BRAKING; in STOPPED, granted at exactly E and one short of it. -/
theorem witness_HaltRunAndStepMode_spinUp :
    ∀ x ∈ [(SpinState.braking, 400), (.stopped, 180), (.stopped, (181 : Nat))],
      let s := withSched (fun y => { y with state := .halted, cause := some .request, queue := [⟨7, .spinUp⟩, ⟨8, .eject⟩] })
        { has (bayIn x.1 .parked) ⟨0, 0, 0⟩ with
          ledger := { (withBudget (max 180 (360 - x.2)) atRestA).ledger with holdB := ⟨x.2 - 180, 0, 0⟩ } }
      (takesCheck (frameOf (.runBay .A)) s && settledCheck s) = true ∧ s.bayA.sched.state = .halted ∧
        s.bayA.sched.inflight = none ∧ (s.bayA.cart.media.any fun m => m.kind = .unrecognised) = false ∧
        s.ledger.waits (.spindle .A) = false ∧ s.bayA.pos.pending ≠ .load ∧ s.bayA.cart.state = .seated ∧
        (s.bayA.spin.state = .braking ∨ s.bayA.spin.state = .stopped ∧ s.bayA.mon.overcurrent = false ∧ 180 ≤ s.ledger.capacity) ∧
        (x.2 = 180 → s.ledger.sum + 180 = s.ledger.effective) ∧ (x.2 = 181 → s.ledger.sum + 180 = s.ledger.effective + 1) := by decide
theorem witness_AbortBayCancelsAndStops_queue :
    (LinkTakes (frameOf (.abortBay .A)) (queued 12 atRestA) ∧ Settled (queued 12 atRestA)) ∧
      (queued 12 atRestA).bayA.sched.inflight = none ∧
      (let s := flying .eject atRestA; (LinkTakes (frameOf (.abortBay .A)) s ∧ Settled s) ∧ s.bayA.sched.inflight = some ⟨77, .eject⟩) :=
  ⟨ready (by decide), rfl, ready (by decide), rfl⟩
theorem witness_AbortBayCancelsAndStops_mechanisms :
    (let s := flying (.seek 200 0) (has (bayIn .locked .seeking) ⟨40, 100, 0⟩);
     (LinkTakes (frameOf (.abortBay .A)) s ∧ Settled s) ∧ s.bayA.pos.state = .seeking ∧ s.bayA.pos.pending = .none ∧
       s.bayA.sched.inflight = some ⟨77, .seek 200 0⟩) ∧
    (let s := flying .spinUp (has (bayIn .ramping .parked) ⟨180, 0, 0⟩);
     (LinkTakes (frameOf (.abortBay .A)) s ∧ Settled s) ∧ s.bayA.spin.state = .ramping ∧ s.bayA.pos.pending ≠ .load ∧
       s.bayA.cart.phase ≠ some .pulse ∧ s.ledger.wait = [] ∧ s.bayA.sched.inflight = some ⟨77, .spinUp⟩) :=
  ⟨⟨ready (by decide), by decide⟩, ready (by decide), by decide⟩
/-- A load wait; LOADING; ACQUIRING; a SEEK that waits for its grant, from FOLLOWING and from SETTLING; one that settles; a SPIN UP that
waits for power, and one in BRAKING. -/
theorem witness_AbortBayCancelsAndStops_more :
    (∀ s ∈ [flying .loadHeads (withPos (fun p => { p with pending := .load }) (has (bayIn .locked .parked) ⟨40, 30, 0⟩)),
            flying .loadHeads (has (bayIn .locked .loading) ⟨40, 30, 0⟩), flying .loadHeads (has (bayIn .locked .acquiring) ⟨40, 30, 0⟩),
            withWait [⟨.actuator .A, .ranged 60 100⟩] (flying (.seek 200 1) (withPos (fun p => { p with pending := .seek 200 1 }) followingA)),
            withWait [⟨.actuator .A, .ranged 60 100⟩]
              (flying (.seek 200 1) (withPos (fun p => { p with pending := .seek 200 1 }) (has (bayIn .locked .settling) ⟨40, 30, 0⟩))),
            flying (.seek 200 0) (has (bayIn .locked .settling) ⟨40, 100, 0⟩),
            withWait [⟨.spindle .A, .fixed 180⟩] (flying .spinUp (has (bayIn .waitPower .parked) ⟨0, 0, 0⟩)),
            flying .spinUp (withSpin (fun x => { x with purpose := some .retry }) (has (bayIn .braking .parked) ⟨0, 0, 0⟩))],
      (takesCheck (frameOf (.abortBay .A)) s && settledCheck s) = true ∧ s.bayA.cart.state = .seated ∧
        s.bayA.sched.inflight.isSome = true ∧ s.bayA.pins.park = decide (s.bayA.pos.state = .parked)) ∧
    let s := flying (.seek 200 0) (has (bayIn .locked .settling) ⟨40, 100, 0⟩)
    s.bayA.pos.state = .settling ∧ s.bayA.pos.pending = .none ∧ (OpKind.seek 200 0).isSeek = true := by decide
/-- Heads loaded; a jam over the brake; a SPIN UP that waits for power, and one that aligns; an EJECT over a positioner in FAULT; heads on
the ramp with PARK true, under a LOAD HEADS and under a SEEK. -/
theorem witness_BayResetMakesTheBaySafe :
    ∀ s ∈ [followingA, withCart (fun c => { c with state := .jammed }) (has (bayIn .braking .parked) ⟨0, 0, 0⟩),
           withWait [⟨.spindle .A, .fixed 180⟩] (flying .spinUp (has (bayIn .waitPower .parked) ⟨0, 0, 0⟩)),
           flying .spinUp (has (bayIn .aligning .parked) ⟨180, 0, 0⟩),
           withPins (fun p => { p with park := true }) (flying .eject (has (bayIn .stopped .fault) ⟨0, 0, 0⟩)),
           withPins (fun p => { p with park := true }) (flying .loadHeads (has (bayIn .locked .loading) ⟨40, 30, 0⟩)),
           withPins (fun p => { p with park := true }) (flying (.seek 200 0) (has (bayIn .locked .seeking) ⟨40, 100, 0⟩))],
      (takesCheck (frameOf (.bayReset .A)) s && settledCheck s) = true ∧
        ∀ b ∈ [Bay.A, .B], (s.bay b).pos.state.defersBrake = true → (s.bay b).spin.state.regulated = true := by decide
theorem witness_PreventTrimAndGainsAreSet :
    (LinkTakes (frameOf (.setPrevent .A true)) atRestA ∧ Settled atRestA) ∧
    (LinkTakes (frameOf (.setPrevent .A true)) State.reset ∧ Settled State.reset ∧ State.reset.bayA.cart.state = .empty) ∧
    LinkTakes (frameOf (.setTrim .A 0x80)) atRestA ∧
    (let s := withPins (fun p => { p with wgate := true })
      (fix ((withGate (fun g => { g with window := true, qualified := true }) followingA).modServo .A fun x => { x with pesValid := true, pes := 12 }));
     LinkTakes (frameOf (.setGains .A 300 300 300 11)) s ∧ AttnExact s ∧ PermitExact s ∧ s.bayA.gate.wperm = true) :=
  ⟨ready (by decide), ⟨linkTakes_of_check (by decide), settled_of_check (by decide), rfl⟩, linkTakes_of_check (by decide),
   linkTakes_of_check (by decide), rfl, by intro b; cases b <;> decide, by decide⟩
/-- A sum of 101 against the least capacity 100, and one of 100. -/
theorem witness_SetBudgetSetsTheCapacity :
    (let s := has (bayIn .locked .seeking) ⟨40, 61, 0⟩;
     (LinkTakes (frameOf (.setBudget 0)) s ∧ Settled s) ∧ max 100 (min 400 (0 : BitVec 16).toNat) < s.ledger.sum) ∧
    (let s := has (bayIn .locked .seeking) ⟨40, 60, 0⟩;
     (LinkTakes (frameOf (.setBudget 0)) s ∧ Settled s) ∧ s.ledger.sum ≤ max 100 (min 400 (0 : BitVec 16).toNat) ∧ s.ledger.wait = []) :=
  ⟨⟨ready (by decide), by decide⟩, ready (by decide), by decide⟩
theorem witness_SetBudgetSetsTheCapacity_waiting :
    let s := withWait [⟨.spindle .A, .fixed 180⟩] (flying .spinUp (has (bayIn .waitPower .parked) ⟨0, 0, 0⟩))
    (LinkTakes (frameOf (.setBudget 179)) s ∧ Settled s) ∧ s.ledger.wait = [⟨.spindle .A, .fixed 180⟩] ∧ s.ledger.sum ≤ 179 ∧
      s.bayA.spin.state = .waitPower ∧ s.bayA.sched.inflight = some ⟨77, .spinUp⟩ ∧ s.bayA.sched.state = .running ∧
      s.bayA.sched.queue = [] := ⟨ready (by decide), by decide⟩
/-- A waiting spindle at the head: granted at exactly E, one short of it; the other spindle behind it, granted at exactly E, one short. -/
theorem witness_SetBudgetSetsTheCapacity_reexamined :
    ∀ x ∈ [(180, false), (181, false), (360, true), (359, (true : Bool))],
      let s := { withWait ([⟨.spindle .A, .fixed 180⟩] ++ if x.2 then [⟨.spindle .B, .fixed 180⟩] else [])
                   { has (bayIn .waitPower .parked) ⟨0, 0, 0⟩ with bayB := (fix { atRestA with bayA := bayIn .waitPower .parked }).bayA }
                 with ledger := { (withWait ([⟨.spindle .A, .fixed 180⟩] ++ if x.2 then [⟨.spindle .B, .fixed 180⟩] else []) atRestA).ledger
                                  with holdB := ⟨0, if x.2 then 0 else x.1 - 180, 0⟩ } }
      let c : BitVec 16 := if x.2 then BitVec.ofNat 16 x.1 else 180
      (takesCheck (frameOf (.setBudget c)) s && settledCheck s) = true ∧ s.bayA.spin.state = .waitPower ∧
        s.bayB.spin.state = .waitPower ∧ s.hold (.spindle .A) = 0 ∧ s.hold (.spindle .B) = 0 ∧
        180 ≤ max 100 (min 400 c.toNat) ∧ s.ledger.sum ≤ max 100 (min 400 c.toNat) ∧
        s.ledger.wait.head? = some ⟨.spindle .A, .fixed 180⟩ ∧
        ((after (.setBudget c) s).bayA.spin.state = if x.1 = 181 then SpinState.waitPower else SpinState.aligning) ∧
        ((after (.setBudget c) s).bayB.spin.state = if x.1 = 360 then SpinState.aligning else SpinState.waitPower) := by decide
theorem witness_WriteProfileReplacesTheTable :
    (let c := Instr.writeProfile (List.replicate 16 0xFFFF);
     (LinkTakes (frameOf c) followingA ∧ Settled followingA) ∧ followingA.bayA.pos.state ≠ .seeking) ∧
    (let s := has (bayIn .locked .settling) ⟨40, 100, 0⟩;
     (LinkTakes (frameOf (.writeProfile (List.replicate 16 0))) s ∧ Settled s) ∧ s.bayA.pos.state = .settling) :=
  ⟨⟨ready (by decide), by decide⟩, ready (by decide), by decide⟩
theorem witness_PlainReadsChangeNothing :
    AttnExact followingA ∧
      ∀ c ∈ [Instr.readProfile .part, .readProfile (.bay .A), .readEvents, .identify, .readSenseList],
        takesCheck (frameOf c) followingA = true := ⟨rfl, by decide⟩
/-- Six entries in the wait list, the most there can be. -/
theorem witness_StatusRecords :
    let s := withWait [⟨.spindle .A, .fixed 180⟩, ⟨.spindle .B, .fixed 180⟩, ⟨.actuator .A, .ranged 60 100⟩, ⟨.actuator .B, .fixed 30⟩,
      ⟨.latch .A, .fixed 120⟩, ⟨.latch .B, .fixed 120⟩] followingA
    AttnExact s ∧ takesCheck (frameOf (.readStatus (.bay .A))) s = true ∧ takesCheck (frameOf (.readStatus .part)) s = true :=
  ⟨rfl, by decide⟩
/-- Position 5, position 16, a position named twice; the positions 6 and 15, used and unused; a bad position in an unused entry, and one
that a used entry names; between scans and during one. -/
theorem witness_SenseListWrittenAndResumed :
    (∀ c ∈ [[(⟨5, 0, 0, 0⟩ : SenseItem)], [⟨16, 0, 0, 0⟩], [⟨6, 0, 0, 0⟩, ⟨6, 1, 0, 0⟩], [⟨6, 11, 3, 7⟩, ⟨15, 255, 255, 127⟩],
            [⟨6, 11, 3, 128⟩, ⟨15, 255, 255, 0⟩], [⟨6, 11, 3, 7⟩, ⟨6, 0, 0, 128⟩], [⟨3, 0, 0, 255⟩], []],
      (takesCheck (frameOf (.writeSenseList c)) atRestA && takesCheck (frameOf (.writeSenseList c)) (withConv (.list 0) atRestA) &&
        takesCheck (frameOf .resumeSense) atRestA) = true ∧ c.length ≤ 10) ∧
    AttnExact atRestA ∧ AttnExact (withConv (.list 0) atRestA) ∧ atRestA.sense.scan = none ∧
      (withConv (.list 0) atRestA).sense.scan.isSome = true ∧ atRestA.sense.active.length = 10 ∧ atRestA.store.image.length = 16 :=
  ⟨by decide, rfl, rfl, rfl, rfl, rfl, rfl⟩
theorem witness_SampleModeAndLimitsAreSet :
    AttnExact atRestA ∧ takesCheck (frameOf (.setSampleMode 2 0)) atRestA = true ∧ takesCheck (frameOf (.setSampleMode 1 255)) atRestA = true ∧
      takesCheck (frameOf (.setLimits 739 0 740 741 599 600 0xFFFF)) atRestA = true ∧
      takesCheck (frameOf (.setLimits 740 0 740 741 599 600 0)) atRestA = true := ⟨rfl, by decide⟩
theorem witness_SampleNowConvertsOnce :
    LinkTakes (frameOf (.sampleNow 0xFF 0xFF)) atRestA ∧
    (let s := { withConv (.now 11 3) atRestA with link := { atRestA.link with phase := .preparing } };
     s.sense.conv = .now 11 3 ∧ s.sense.waiting = none ∧ s.link.withheld = none) ∧
    (let s := { withConv (.now 0 0) atRestA with link := { atRestA.link with phase := .preparing, withheld := some 1, lfrm := true } };
     s.sense.conv = .now 0 0 ∧ s.sense.waiting = none ∧ s.link.withheld = some 1 ∧ s.link.lfrm = true ∧ s.link.lockout = false) :=
  ⟨linkTakes_of_check (by decide), by decide, by decide⟩
/-- A ring of twelve and of ninety-six records; the first position 15. -/
theorem witness_ReadSamplesReadsTheStore :
    AttnExact atRestA ∧ takesCheck (frameOf (.readSamples 2 0)) atRestA = true ∧ takesCheck (frameOf (.readSamples 0 15)) atRestA = true ∧
    atRestA.store.image.length = 16 ∧
    (let s := { atRestA with store := { atRestA.store with ring := List.replicate 96 ⟨15, 11, 1023, 255⟩ } };
     AttnExact s ∧ takesCheck (frameOf (.readSamples 1 0)) s = true ∧ s.store.ring.length = 96) :=
  ⟨rfl, by decide, by decide, rfl, rfl, by decide, rfl⟩
theorem witness_EventMaskAndClear :
    LinkTakes (frameOf (.setEventMask 0xFFFF)) atRestA ∧
      (let s := { atRestA with events := { latched := 0x1FF8, mask := 0 } }; LinkTakes (frameOf (.clearEvents 0xFFFF)) s) :=
  ⟨linkTakes_of_check (by decide), linkTakes_of_check (by decide)⟩
theorem witness_DestructiveReads :
    let s := fix
      { atRestA with
        completions := List.replicate 8 ⟨255, .A, .eject, .success, none⟩
        partCnt := { atRestA.partCnt with refusedRequests := 65535 } }
    AttnExact s ∧ (takesCheck (frameOf .readCounters) s && takesCheck (frameOf .readRefusals) s && takesCheck (frameOf .readCompletions) s) = true ∧
      s.completions.length ≤ 8 := ⟨rfl, by decide⟩

theorem witness_CartridgeSeats :
    (LampExact State.reset ∧ State.reset.bayA.cart.state = .empty) ∧ (LampExact atRestA ∧ atRestA.bayA.cart.state ≠ .empty) ∧
    (let s := withCart (fun c => { c with state := .seating, debounce := some 1 }) State.reset;
     Settled s ∧ s.bayA.cart.state = .seating ∧ s.bayA.cart.debounce.isSome = true ∧ s.bayA.gate.window = false) :=
  ⟨⟨by intro b; cases b <;> decide, rfl⟩, ⟨by intro b; cases b <;> decide, by decide⟩, settled_of_check (by decide), by decide⟩
/-- A press begun; a press ended after its five seconds; one ended before, by the cartridge state. -/
theorem witness_ButtonAndLamp :
    ∀ x ∈ [(CartState.seated, false, none), (.seated, true, none), (.seated, true, some 1), (.empty, true, some 1), (.seating, true, some 1),
           (.releasePending, true, some 1), (.ejecting, true, some (1 : Nat))],
      let s := withCart (fun c =>
        { c with state := x.1, pressed := x.2.1, pressTimer := x.2.2, levelTimer := some 1, prevent := true, flashTimer := some 1 }) atRestA
      settledCheck s = true ∧ s.bayA.cart.levelTimer.isSome = true ∧ s.bayA.cart.pressed = x.2.1 ∧ s.bayA.cart.pressTimer = x.2.2 ∧
        s.bayA.cart.state = x.1 ∧ s.bayA.cart.prevent = true ∧ s.bayA.cart.flashTimer.isSome = true := by decide
/-- From SEATED, prevent on and off, and from JAMMED; at rest and under loaded heads; the long press and the short one. -/
theorem witness_ButtonReleasesTheCartridge :
    ∀ s ∈ [withCart (fun c => { c with pressTimer := some 1, prevent := true }) (withBudget 120 atRestA),
           withCart (fun c => { c with pressTimer := some 1 }) followingA,
           withCart (fun c => { c with pressTimer := some 1, levelTimer := some 1, pressed := true }) (withBudget 120 atRestA),
           withCart (fun c => { c with state := .jammed, pressTimer := some 1, levelTimer := some 1, pressed := true, prevent := true })
             (withBudget 120 atRestA),
           withCart (fun c => { c with state := .jammed, pressTimer := some 1 }) followingA],
      settledCheck s = true ∧ (s.ledger.wait.map WaitEntry.who).Nodup ∧ s.ledger.wait = [] ∧ s.bayA.cart.latch = false ∧
        s.bayB.cart.latch = false ∧ (s.bayA.cart.state = .seated ∨ s.bayA.cart.state = .jammed) ∧ s.bayA.sched.inflight = none ∧
        s.bayA.pins.wgate = false ∧ s.bayA.cart.pressTimer.isSome = true ∧
        (atRest .A s = true ∧ s.ledger.sum - s.hold (.latch .A) + 120 ≤ s.ledger.effective ∧ 120 ≤ s.ledger.capacity ∨
          s.bayA.pos.state.loaded = true ∧ s.bayA.pins.park = false ∧ s.bayA.spin.state.regulated = true) := by decide
/-- With an operation in flight: loaded heads under each of the three; a load wait; a SPIN UP that aligns, that brakes; a
SPIN DOWN in BRAKING. -/
theorem witness_ButtonReleasesTheCartridge_inFlight :
    ∀ s ∈ [flying .loadHeads (has (bayIn .locked .acquiring) ⟨40, 30, 0⟩), flying (.seek 200 0) (has (bayIn .locked .seeking) ⟨40, 100, 0⟩),
           flying .unloadHeads (has (bayIn .unlocked .following) ⟨40, 30, 0⟩),
           flying .loadHeads (withPos (fun p => { p with pending := .load }) (has (bayIn .locked .parked) ⟨40, 30, 0⟩)),
           flying .spinUp (has (bayIn .aligning .parked) ⟨180, 0, 0⟩), flying .spinUp (has (bayIn .braking .parked) ⟨0, 0, 0⟩),
           flying .spinDown (has (bayIn .braking .parked) ⟨0, 0, 0⟩)],
      let s := withCart (fun c => { c with pressTimer := some 1 }) (withBudget 400 s)
      settledCheck s = true ∧ (s.ledger.wait.map WaitEntry.who).Nodup ∧ s.ledger.wait = [] ∧ s.bayA.cart.state = .seated ∧
        s.bayA.cart.pressTimer.isSome = true ∧ s.bayA.pins.wgate = false ∧ s.bayA.sched.inflight.isSome = true ∧
        (s.bayA.pos.state.loaded = true →
          s.bayA.pins.park = false ∧ s.bayA.spin.state.regulated = true ∧ s.bayA.spin.brakeMark = false) := by decide
/-- A SPIN UP that waits for power alone, its latch's 120 granted at exactly E, one short, over C; one behind the other bay's spindle. -/
theorem witness_ButtonReleasesTheCartridge_waiting :
    ∀ x ∈ [(([] : List WaitEntry), 180, 60), ([], 180, 61), ([], 119, 0), ([⟨.spindle .B, .fixed 180⟩], 200, (100 : Nat))],
      let s := withWait (x.1 ++ [⟨.spindle .A, .fixed 180⟩]) (withCart (fun c => { c with pressTimer := some 1 })
        (flying .spinUp { has (bayIn .waitPower .parked) ⟨0, 0, 0⟩ with
          ledger := { (withBudget x.2.1 atRestA).ledger with holdB := ⟨x.2.2, 0, 0⟩ } }))
      settledCheck s = true ∧ (s.ledger.wait.map WaitEntry.who).Nodup ∧ s.bayA.cart.state = .seated ∧
        s.bayA.cart.pressTimer.isSome = true ∧ s.bayA.pins.wgate = false ∧ s.bayA.sched.inflight = some ⟨77, .spinUp⟩ ∧
        s.bayA.spin.state = .waitPower ∧ s.bayA.pos.state = .parked ∧ s.bayA.pos.pending ≠ .load ∧
        (⟨.spindle .A, .fixed 180⟩ : WaitEntry) ∈ s.ledger.wait ∧ (∀ e ∈ s.ledger.wait, e.who ≠ .latch .A) ∧
        (after (.longPress .A) s).bayA.cart.state =
          (if x.2.1 = 119 then CartState.seated else if x.2.2 = 60 then CartState.ejecting else CartState.releasePending) := by decide
/-- The pulse; the waits after the second pulse, granted at exactly E and waiting one short of it; the wait after the third. -/
theorem witness_LatchPulseAndWait :
    ∀ x ∈ [(EjectPhase.pulse, 1, 120), (.wait, 2, 120), (.wait, 2, 121), (.wait, 3, (120 : Nat))],
      let s := withCart (fun c =>
          { c with state := .ejecting, phase := some x.1, pulseCount := x.2.1, pulseTimer := some 1, waitTimer := some 1,
                   latch := x.1 = .pulse })
        { withBudget x.2.2 atRestA with ledger := { (withBudget 240 atRestA).ledger with holdB := ⟨x.2.2, 0, 0⟩ } }
      settledCheck s = true ∧ s.bayA.cart.state = .ejecting ∧ s.ledger.waits (.latch .A) = false ∧ s.bayA.cart.phase = some x.1 ∧
        s.bayA.cart.pulseCount = x.2.1 ∧ atRest .A s = true ∧ 120 ≤ s.ledger.capacity ∧ s.ledger.wait = [] ∧
        s.bayA.gate.window = false ∧ (s.bayA.sched.inflight.map Op.kind) ≠ some .spinUp ∧ s.bayA.cart.pulseTimer.isSome = true ∧
        s.bayA.cart.waitTimer.isSome = true := by decide
/-- Every cartridge state; a release pending with one pulse; a seated cartridge at rest and under loaded heads. -/
theorem witness_DepartureOfTheCartridge :
    ∀ s ∈ [State.reset, withCart (fun c => { c with state := .seating }) atRestA, atRestA, followingA,
           withCart (fun c => { c with state := .releasePending, pulseCount := 1 }) atRestA,
           withCart (fun c => { c with state := .ejecting, phase := some .wait, pulseCount := 1 }) (flying .eject atRestA),
           withCart (fun c => { c with state := .jammed }) atRestA],
      settledCheck s = true ∧ (s.ledger.wait.map WaitEntry.who).Nodup ∧ s.ledger.wait = [] ∧ s.bayA.pins.wgate = false ∧
        s.bayA.sched.queue = [] := by decide

/-- With an operation in flight: not at rest; at rest under an EJECT not yet pulsed and under a SPIN UP that waits for power; with
another queued. -/
theorem witness_DepartureOfTheCartridge_inFlight :
    ∀ x ∈ [(flying .spinUp (has (bayIn .ramping .parked) ⟨180, 0, 0⟩), false), (flying (.seek 200 0) (has (bayIn .locked .seeking) ⟨40, 100, 0⟩), false),
           (withCart (fun c => { c with state := .releasePending }) (flying .eject (has (bayIn .braking .parked) ⟨0, 0, 0⟩)), false),
           (withCart (fun c => { c with state := .releasePending }) (flying .eject atRestA), true),
           (withSched (fun y => { y with queue := [⟨9, .spinDown⟩] }) (flying .openWrite atRestA), (true : Bool))],
      settledCheck x.1 = true ∧ (x.1.ledger.wait.map WaitEntry.who).Nodup ∧ x.1.ledger.wait = [] ∧ x.1.bayA.pins.wgate = false ∧
        x.1.bayA.sched.inflight.isSome = true ∧ atRest .A x.1 = x.2 ∧
        (x.1.bayA.cart.state = .seated ∨ x.1.bayA.cart.state = .releasePending ∧ x.1.bayA.cart.pulseCount = 0) := by decide

/-- The least and the greatest period; the edge of the end of RAMPING; the edges of the lock window. -/
theorem witness_TachPulseRunsTheLoop :
    (∀ s ∈ [has (bayIn .ramping .parked) ⟨180, 0, 0⟩, has (bayIn .locking .parked) ⟨180, 0, 0⟩, followingA,
            withSpin (fun x => { x with outside := 1 }) followingA, has (bayIn .unlocked .following) ⟨40, 30, 0⟩,
            withSpin (fun x => { x with inside := 7 }) (has (bayIn .unlocked .following) ⟨40, 30, 0⟩),
            withSpin (fun x => { x with tachRef := false }) atRestA],
      settledCheck s = true ∧ s.bayA.pos.pending ≠ .load) ∧
    ∀ p ∈ [1, 16584, 16583, 16750, 16751, 18334, 18335, 500000], 1 ≤ p ∧ p ≤ 500000 := by decide
theorem witness_TachPulseRunsTheLoop_eighth :
    let s := flying .spinUp (withSpin (fun x => { x with inside := 7 }) (has (bayIn .locking .parked) ⟨180, 0, 0⟩))
    Settled s ∧ s.bayA.spin.tachRef = true ∧ s.bayA.spin.state = .locking ∧ s.bayA.spin.inside = 7 ∧
      ((16750 : Nat) - (16667 + 4 * s.bayA.spin.trim) : Int).natAbs ≤ 83 ∧ s.hold (.spindle .A) = 180 ∧ s.ledger.wait = [] ∧
      s.bayA.pos.pending ≠ .load ∧ s.bayA.sched.queue = [] ∧ s.bayA.sched.inflight = some ⟨77, .spinUp⟩ ∧ s.bayA.gate.window = false ∧
      s.bayA.cart.phase ≠ some .pulse :=
  ⟨settled_of_check (by decide), by decide⟩
/-- The other spindle waits: its 180 fit at exactly E behind the lock, or are one short. -/
theorem witness_TachPulseRunsTheLoop_grant :
    ∀ e ∈ [220, 219],
      let s := withWait [⟨.spindle .B, .fixed 180⟩] (withBudget e (withSpin (fun x => { x with inside := 7 })
        { has (bayIn .locking .parked) ⟨180, 0, 0⟩ with bayB := (fix { atRestA with bayA := bayIn .waitPower .parked }).bayA }))
      settledCheck s = true ∧ s.bayA.spin.tachRef = true ∧ s.bayA.spin.state = .locking ∧ s.bayA.spin.inside = 7 ∧
        s.hold (.spindle .A) = 180 ∧ s.ledger.wait = [⟨.spindle .B, .fixed 180⟩] ∧ s.bayB.spin.state = .waitPower ∧
        s.hold (.spindle .B) = 0 ∧ s.bayA.pos.pending ≠ .load ∧ s.bayA.sched.queue = [] ∧ s.bayA.gate.window = false ∧
        s.bayA.cart.phase ≠ some .pulse ∧
        (after (.tachPulse .A 16750) s).bayB.spin.state = (if e = 220 then SpinState.aligning else SpinState.waitPower) := by decide
theorem witness_TachTimerExpiryActs :
    (∀ s ∈ [followingA, withSpin (fun x => { x with outside := 1 }) followingA, has (bayIn .ramping .parked) ⟨180, 0, 0⟩, atRestA],
      settledCheck s = true ∧ s.bayA.spin.tachTimer.isSome = true ∧ s.bayA.spin.state ≠ .braking ∧ s.bayA.cart.phase ≠ some .pulse ∧
        s.ledger.waits (.latch .A) = false) ∧
    ∀ x ∈ [(BrakePurpose.stop, OpKind.spinDown), (.stop, .spinUp), (.retry, .spinUp), (.spinFail, .spinUp), (.overcurrent, .eject)],
      let s := flying x.2 (withSpin (fun y => { y with purpose := some x.1, attempt := 2 }) (has (bayIn .braking .parked) ⟨0, 0, 0⟩))
      settledCheck s = true ∧ s.bayA.spin.tachTimer.isSome = true ∧ s.bayA.spin.state = .braking ∧ s.ledger.wait = [] ∧
        s.bayA.pos.pending ≠ .load ∧ s.bayA.cart.state ≠ .releasePending ∧ s.bayA.cart.state ≠ .ejecting ∧ s.bayA.sched.queue = [] ∧
        s.bayA.gate.window = false ∧ s.bayA.spin.purpose = some x.1 ∧ s.bayA.spin.startMark = false ∧ s.bayA.spin.attempt < 3 ∧
        180 ≤ s.ledger.capacity ∧ s.ledger.sum - s.hold (.spindle .A) + 180 ≤ s.ledger.effective := by decide
/-- Under a start mark, each purpose, overcurrent or not: the 180 granted at exactly E, one short, over C. -/
theorem witness_TachTimerExpiryActs_startMark :
    ∀ x ∈ [(BrakePurpose.stop, false, 180, 0, SpinState.aligning), (.stop, false, 180, 1, .waitPower), (.stop, false, 179, 0, .stopped),
           (.stop, true, 400, 0, .fault), (.overcurrent, true, 400, (0 : Nat), .fault)],
      let s := withMon (fun m => { m with overcurrent := x.2.1 }) (flying .spinUp (withSpin (fun y =>
          { y with purpose := some x.1, startMark := true })
        { has (bayIn .braking .parked) ⟨0, 0, 0⟩ with
          ledger := { (withBudget x.2.2.1 atRestA).ledger with holdB := ⟨x.2.2.2.1, 0, 0⟩ } }))
      settledCheck s = true ∧ s.bayA.spin.tachTimer.isSome = true ∧ s.bayA.spin.state = .braking ∧ s.bayA.spin.startMark = true ∧
        s.bayA.spin.purpose = some x.1 ∧ s.bayA.sched.inflight = some ⟨77, .spinUp⟩ ∧ s.ledger.waits (.spindle .A) = false ∧
        s.bayA.pos.pending ≠ .load ∧ s.bayA.cart.state = .seated ∧ s.bayA.sched.queue = [] ∧ s.bayA.gate.window = false ∧
        (after (.tachTimerExpiry .A) s).bayA.spin.state = x.2.2.2.2 := by decide
/-- Under a pending release with its EJECT, a SPIN DOWN or a cancelled SPIN UP in flight: the 120 granted at exactly E, one short, over C;
heads in FAULT. -/
theorem witness_TachTimerExpiryActs_release :
    ∀ x ∈ [(OpKind.eject, PosState.parked, 120, 0, CartState.ejecting), (.spinDown, .parked, 120, 1, .releasePending),
           (.eject, .parked, 119, 0, .seated), (.spinUp, .fault, 400, (0 : Nat), .releasePending)],
      let s := withCart (fun c => { c with state := .releasePending }) (flying x.1
        { has (bayIn .braking x.2.1) ⟨0, 0, 0⟩ with
          ledger := { (withBudget x.2.2.1 atRestA).ledger with holdB := ⟨x.2.2.2.1, 0, 0⟩ } })
      settledCheck s = true ∧ s.bayA.spin.tachTimer.isSome = true ∧ s.bayA.spin.state = .braking ∧
        s.bayA.cart.state = .releasePending ∧ s.bayA.spin.purpose = some .stop ∧ s.bayA.spin.startMark = false ∧
        s.ledger.waits (.latch .A) = false ∧ s.bayA.pos.pending ≠ .load ∧ s.bayA.sched.queue = [] ∧
        (after (.tachTimerExpiry .A) s).bayA.cart.state = x.2.2.2.2 := by decide
theorem witness_SpindleTimersAct :
    (∀ st ∈ [SpinState.aligning, .ramping, .locking],
      let s := has (bayIn st .parked) ⟨180, 0, 0⟩
      settledCheck s = true ∧ s.bayA.spin.stageTimer.isSome = true ∧ s.ledger.wait = [] ∧ s.bayA.pos.pending ≠ .load ∧
        s.bayA.cart.state = .seated ∧ s.bayA.spin.state = st) ∧
    (let s := has (bayIn .braking .parked) ⟨0, 0, 0⟩;
     settledCheck s = true ∧ s.bayA.spin.brakeLimit.isSome = true ∧ s.bayA.spin.state = .braking ∧ s.bayA.pos.pending ≠ .load ∧
       s.bayA.cart.state ≠ .ejecting ∧ s.ledger.waits (.latch .A) = false) ∧
    (let s := has (bayIn .unlocked .seeking) ⟨40, 61, 0⟩;
     settledCheck s = true ∧ s.bayA.spin.speedLost.isSome = true ∧ s.bayA.spin.state = .unlocked ∧ s.bayA.pos.state.loaded = true ∧
       s.bayA.pins.park = false ∧ s.ledger.wait = [] ∧ s.bayA.spin.brakeMark = false ∧ s.bayA.cart.state = .seated) := by decide

/-- A computation of bay A, marked for discard or not. -/
def busyA (discard : Bool) (r : Report) (s : State) : State :=
  { s with sau := some { bay := .A, report := r, gains := ⟨24, 12, 40, 12⟩, profile := Const.profileDefault, discard := discard } }

/-- The first and the last window; a free and a busy SAU; a completion with each slot full. -/
theorem witness_WedgeReportsReachTheSau :
    (∀ n ∈ [0, 47],
      ({ followingA with bayA := { followingA.bayA with demod := { followingA.bayA.demod with window := some n } } } : State).bayA.demod.window =
        some n) ∧
    (let s := busyA true ⟨0, none, 0, 0⟩ (followingA.modSlot .B fun _ => some ⟨1, none, 0, 0⟩);
     Settled s ∧ s.sau.isSome = true ∧ s.bayB.slot = some ⟨1, none, 0, 0⟩) ∧
    (let s := busyA true ⟨0, none, 0, 0⟩ (followingA.modSlot .A fun _ => some ⟨1, none, 0, 0⟩);
     Settled s ∧ s.bayB.slot = none ∧ s.bayA.slot = some ⟨1, none, 0, 0⟩) ∧
    (let s := busyA false ⟨0, none, 0, 0⟩ atRestA; Settled s ∧ s.bayA.pos.state.loaded = false) ∧
    ∀ s ∈ [busyA false ⟨1, none, 0, 0⟩ (followingA.modSlot .B fun _ => some ⟨1, none, 0, 0⟩),
           busyA false ⟨1, none, 0, 0⟩ (followingA.modSlot .A fun _ => some ⟨2, none, 0, 0⟩), busyA false ⟨1, none, 0, 0⟩ followingA],
      settledCheck s = true ∧ (s.sau.any fun c => c.bay = .A ∧ c.discard = false) = true ∧ s.bayA.pos.state.loaded = true ∧
        s.ledger.wait = [] ∧ s.bayA.sched.queue = [] ∧ (after .sauCompletion s).bayA.pos.state.loaded = true :=
  ⟨by decide, ⟨settled_of_check (by decide), by decide⟩, ⟨settled_of_check (by decide), by decide⟩,
   ⟨settled_of_check (by decide), by decide⟩, by decide⟩
/-- Wedge 0 behind wedge 47, its burst sum at 64 and at 63; eight wedges of reckoning but one; the last track; the position at either end
of its range. -/
theorem witness_ComputedWedgeMovesTheServo :
    (let c : Report := ⟨0, some 305, 64, 0⟩;
     let s := busyA false c (followingA.modServo .A fun x =>
       { x with fresh := false, lastValid := some 6400, lastNum := some 47, k := 7 });
     Settled s ∧ s.bayA.pos.state = .following ∧ s.bayA.pos.pending = .none ∧ s.bayA.servo.lastNum = some ((c.number + 47) % 48) ∧
       64 ≤ c.burstA + c.burstB ∧ ((s.bayA.cart.media.bind Media.lastTrack).any fun top => 305 ≤ top) = true ∧ s.bayA.servo.k < 8 ∧
       s.bayA.pins.wgate = false ∧ s.bayA.pos.offTrack < 3 ∧ s.bayA.pos.clean < 63) ∧
    (let c : Report := ⟨0, some 305, 63, 0⟩;
     let s := busyA false c (withPos (fun p => { p with servoLost := 7 }) (followingA.modServo .A fun x => { x with lastNum := some 47 }));
     Settled s ∧ s.bayA.pos.state = .following ∧ s.bayA.servo.lastNum = some ((c.number + 47) % 48) ∧
       (s.sau.bind fun x => validAt x s) = none ∧ s.bayA.pins.park = false ∧ s.ledger.wait = [] ∧ s.bayA.spin.brakeMark = false ∧
       s.bayA.cart.state = .seated ∧ s.bayA.spin.state = .locked ∧ s.bayA.pos.servoLost = 7) ∧
    (∀ p ∈ [(-32 : Int), 65504],
      let s := busyA false ⟨0, none, 0, 0⟩ (followingA.modServo .A fun x => { x with P := p, lastNum := some 47 })
      settledCheck s = true ∧ -32 ≤ s.bayA.servo.P ∧ s.bayA.servo.P ≤ 65504) ∧
    (let s := busyA false ⟨0, none, 0, 0⟩ (has (bayIn .locked .loading) ⟨40, 25, 0⟩);
     s.bayA.pos.state.loaded = true ∧ 25 ≤ s.hold (.actuator .A) ∧ s.bayA.sched.queue = [] ∧ s.ledger.wait = []) :=
  ⟨⟨settled_of_check (by decide), by decide⟩, ⟨settled_of_check (by decide), by decide⟩, by decide, by decide⟩
/-- A computation of bay A, applied at its completion. -/
def computed (r : Report) : Computation :=
  { bay := .A, report := r, gains := ⟨24, 12, 40, 12⟩, profile := Const.profileDefault, discard := false }

/-- A loaded bay A over a computation, its holding, its positioner changed. -/
def wedgeA (st : PosState) (hold : Nat) (r : Report) (f : Positioner → Positioner) (k : Option OpKind) : State :=
  withSched (fun x => { x with inflight := k.map fun k => ⟨77, k⟩ })
    (withPos f { has (bayIn .locked st) ⟨40, hold, 0⟩ with sau := some (computed r) })

/-- The premises that the statement's wedge parts share, for a wedge of this track. -/
def wedgeCheck (st : PosState) (r : Report) (track : Option Nat) (s : State) : Bool :=
  settledCheck s && computingCheck (computed r) st s && decide (validAt (computed r) s = track)

/-- The least holding of LOADING, the last track and the least burst sum; the first, the third and the fourth wedge of ACQUIRING. -/
theorem witness_ComputedWedgeMovesTheServo_load :
    (let s := wedgeA .loading 25 ⟨0, some 305, 64, 0⟩ id (some .loadHeads);
     wedgeCheck .loading ⟨0, some 305, 64, 0⟩ (some 305) s = true ∧ 25 ≤ s.hold (.actuator .A)) ∧
    ∀ x ∈ [(0, some OpKind.loadHeads, PosState.acquiring), (2, some .loadHeads, .acquiring), (3, some .loadHeads, .following),
           (3, none, .following)],
      let s := wedgeA .acquiring 30 ⟨47, some 305, 64, 0⟩ (fun p => { p with acquire := x.1 }) x.2.1
      wedgeCheck .acquiring ⟨47, some 305, 64, 0⟩ (some 305) s = true ∧ s.bayA.sched.queue = [] ∧
        s.bayA.cart.media.bind Media.lastTrack = some 305 ∧
        (after .sauCompletion s).bayA.pos.state = x.2.2 := by decide
/-- A distance of 31 steps, of 32, and of 305 tracks. -/
theorem witness_ComputedWedgeMovesTheServo_seek :
    ∀ x ∈ [((⟨0, some 100, 1, 63⟩ : Report), 100, PosState.settling), (⟨0, some 100, 0, 64⟩, 100, .seeking),
           (⟨0, some 0, 32, 32⟩, 305, .seeking)],
      let s := wedgeA .seeking 100 x.1 (fun p => { p with target := x.2.1 }) (some (.seek x.2.1 0))
      wedgeCheck .seeking x.1 x.1.track s = true ∧ (after .sauCompletion s).bayA.pos.state = x.2.2 ∧
        ((profileBins[0]?).any fun e => e.1 ≤ 32 / 64 && 32 / 64 ≤ e.2) = true ∧
        ((profileBins[14]?).any fun e => e.1 ≤ 305 && 305 ≤ e.2) = true := by decide
/-- An error of 6 steps as the second and as the third near wedge, by every owner and every side of 30 held; an error of 7. -/
theorem witness_ComputedWedgeMovesTheServo_settle :
    ∀ x ∈ [((⟨0, some 100, 38, 26⟩ : Report), 1, 100, SeekOwner.operation), (⟨0, some 100, 38, 26⟩, 2, 100, .operation),
           (⟨0, some 100, 38, 26⟩, 2, 31, .aborted), (⟨0, some 100, 38, 26⟩, 2, 60, .recovery), (⟨0, some 100, 38, 26⟩, 2, 30, .none),
           (⟨0, some 100, 39, 25⟩, 2, 100, .operation)],
      let s := wedgeA .settling x.2.2.1 x.1 (fun p => { p with settle := x.2.1, owner := x.2.2.2 })
        (if x.2.2.2 = .operation ∨ x.2.2.2 = .aborted then some (.seek 100 0) else none)
      wedgeCheck .settling x.1 (some 100) s = true ∧ s.bayA.pos.pending = .none ∧ s.bayA.sched.queue = [] ∧ s.ledger.wait = [] ∧
        (after .sauCompletion s).bayA.servo.pes = (if x.1.burstA = 38 then 6 else 7) ∧
        (after .sauCompletion s).bayA.pos.state = (if x.1.burstA = 38 ∧ x.2.1 = 2 then PosState.following else PosState.settling) := by
  decide
/-- The fourth wedge 49 steps off, behind no recovery, behind one that does not fit by one unit, behind two; the sixty-fourth clean wedge, at
48 steps. -/
theorem witness_ComputedWedgeMovesTheServo_offTrack :
    ∀ x ∈ [((⟨0, some 101, 17, 47⟩ : Report), 0, 100, PosState.seeking), (⟨0, some 101, 17, 47⟩, 1, 99, .following),
           (⟨0, some 101, 17, 47⟩, 2, 100, .unloading), (⟨0, some 101, 16, 48⟩, 2, 100, .following)],
      let s := { wedgeA .following 30 x.1 (fun p => { p with offTrack := 3, clean := 63, recovery := x.2.1 }) none with
        ledger := { (wedgeA .following 30 x.1 id none).ledger with capacity := 101, effective := 101, holdB := ⟨101 - x.2.2.1, 0, 0⟩ } }
      wedgeCheck .following x.1 (some 101) s = true ∧ s.bayA.pos.pending = .none ∧ s.ledger.wait = [] ∧ s.bayA.pins.park = false ∧
        s.bayA.spin.brakeMark = false ∧ s.bayA.cart.state = .seated ∧ s.bayA.spin.state.regulated = true ∧
        s.ledger.sum - s.hold (.actuator .A) + 60 = 201 - x.2.2.1 ∧
        (after .sauCompletion s).bayA.servo.pes = (if x.1.burstA = 17 then 49 else 48) ∧
        (after .sauCompletion s).bayA.pos.state = x.2.2.2 := by decide
/-- An invalid wedge of each state, the position at either end of its range, six wedges lost before it. -/
theorem witness_ComputedWedgeMovesTheServo_invalid :
    ∀ st ∈ [PosState.loading, .acquiring, .seeking, .settling], ∀ p ∈ [(-32 : Int), 65504],
      let s := (wedgeA st 25 ⟨47, some 306, 64, 0⟩ (fun p => { p with servoLost := 6 }) none).modServo .A fun x => { x with P := p }
      wedgeCheck st ⟨47, some 306, 64, 0⟩ none s = true ∧ -32 ≤ s.bayA.servo.P ∧ s.bayA.servo.P ≤ 65504 ∧
        s.bayA.pos.servoLost < 7 ∧ 25 ≤ s.hold (.actuator .A) := by decide
/-- In FOLLOWING: no track field; a burst sum of 63; track 306 of a cartridge that ends at 305; no media record. -/
theorem witness_ComputedWedgeMovesTheServo_following :
    ∀ x ∈ [((⟨0, none, 500, 500⟩ : Report), true), (⟨0, some 305, 63, 0⟩, true), (⟨0, some 306, 64, 0⟩, true), (⟨0, some 100, 64, 64⟩, false)],
      let s := withCart (fun y => { y with media := if x.2 then y.media else none })
        ((wedgeA .following 30 x.1 (fun p => { p with servoLost := 6 }) none).modServo .A fun y => { y with lastNum := some 47 })
      settledCheck s = true ∧ s.sau = some (computed x.1) ∧ s.bayA.servo.lastNum = some 47 ∧ validAt (computed x.1) s = none ∧
        s.bayA.pins.wgate = false ∧ s.bayA.pins.park = false ∧ s.ledger.wait = [] ∧ s.bayA.spin.brakeMark = false ∧
        s.bayA.cart.state = .seated ∧ s.bayA.spin.state = .locked ∧ (after .sauCompletion s).bayA.cnt.missedWedges = 1 := by decide
/-- R117, R118, R120: WGATE still high, the third near wedge of a SEEK with OPEN WRITE and CLOSE WRITE behind it is a write fault. -/
theorem test_settle_before_queued_writes :
    (after .sauCompletion (withPins (fun p => { p with wgate := true })
      (withSched (fun x => { x with inflight := some ⟨77, .seek 100 0⟩, queue := [⟨78, .openWrite⟩, ⟨79, .closeWrite⟩] })
        (wedgeA .settling 60 ⟨0, some 100, 64, 64⟩ (fun p => { p with settle := 2, owner := .operation }) none)))).bayA.cnt.writeFaults =
      1 := by decide
/-- A gap of 1 and of 47 in LOADING and of 47 in FOLLOWING; a gap that brings the servo-lost count to 7, and to 8 in each state that keeps
it. -/
theorem witness_ComputedWedgeMovesTheServo_gap :
    ∀ x ∈ [(PosState.loading, 2, 7), (.loading, 0, 7), (.following, 2, 6), (.settling, 2, 7), (.acquiring, 8, 1), (.seeking, 9, 0),
            (.following, 0, (0 : Nat))],
      let r : Report := ⟨x.2.1, some 100, 64, 64⟩
      let s := (wedgeA x.1 30 r (fun p => { p with servoLost := x.2.2 }) none).modServo .A fun y => { y with lastNum := some 0 }
      settledCheck s = true ∧ s.sau = some (computed r) ∧ s.bayA.servo.lastNum = some 0 ∧ 0 < gapBehind 0 r.number ∧
        s.bayA.pos.state.loaded = true ∧ s.bayA.pos.servoLost < 8 ∧ s.bayA.pins.park = false ∧ s.ledger.wait = [] ∧
        s.bayA.spin.brakeMark = false ∧ s.bayA.cart.state = .seated ∧ s.bayA.spin.state = .locked := by decide
theorem test_gap_behind :
    gapBehind 0 2 = 1 ∧ gapBehind 0 0 = 47 ∧ gapBehind 0 8 = 7 ∧ gapBehind 0 9 = 8 ∧ gapBehind 47 1 = 1 := by decide
/-- R72, R92: a gap of 1 at a count of 7 ends in UNLOADING, at a count of 6 in FOLLOWING. -/
theorem test_gap_counts_servo_lost :
    ∀ x ∈ [(6, PosState.following), (7, .unloading)],
      (after .sauCompletion ((wedgeA .following 30 ⟨2, some 100, 64, 64⟩ (fun p => { p with servoLost := x.1 }) none).modServo .A fun y =>
        { y with lastNum := some 0 })).bayA.pos.state = x.2 := by decide
theorem witness_LoadAndSeekTimersAct :
    (∀ q ∈ [true, false],
      let s := flying .loadHeads (withMon (fun m => { m with qualified := q }) (withPos (fun p => { p with pending := .load })
        (has (bayIn .locked .parked) ⟨40, 30, 0⟩)))
      settledCheck s = true ∧ s.bayA.pos.loadWait.isSome = true ∧ s.bayA.pos.state = .parked ∧ s.bayA.pos.pending = .load ∧
        s.bayA.mon.qualified = q ∧ s.ledger.wait = [] ∧ s.bayA.sched.queue = []) ∧
    (let s := flying .loadHeads (has (bayIn .locked .loading) ⟨40, 60, 0⟩);
     settledCheck s = true ∧ s.bayA.pos.loadTimer.isSome = true ∧ s.bayA.pos.state = .loading ∧ s.bayA.pins.park = false ∧
       s.ledger.wait = [] ∧ s.hold (.actuator .A) ≤ 60 ∧ s.bayA.spin.brakeMark = false ∧ s.bayA.cart.state = .seated ∧
       (s.bayA.sched.inflight.map Op.kind) ≠ some .spinUp ∧ s.bayA.spin.state.regulated = true) ∧
    ∀ o ∈ [SeekOwner.operation, .recovery, .aborted],
      let s := flying (.seek 200 0) (withPos (fun p => { p with owner := o }) (has (bayIn .locked .settling) ⟨40, 100, 0⟩))
      settledCheck s = true ∧ s.bayA.pos.seekTimer.isSome = true ∧ s.bayA.pos.state = .settling ∧ s.bayA.sched.queue = [] ∧
        s.bayA.pos.owner = o ∧ s.bayA.sched.inflight = some ⟨77, .seek 200 0⟩ := by decide
/-- Each positioner state that the three commands act on: no brake order waiting; one marked; one of a pending release; a pending release
over a STOPPED spindle, its 120 granted at exactly E, one short, over C. -/
theorem witness_HeadsComeHome :
    (∀ st ∈ [PosState.unloading, .retracting, .parked, .following], ∀ x ∈ [(false, CartState.seated), (true, .seated), (false, .releasePending)],
      let s := withCart (fun c => { c with state := x.2 }) (withSpin (fun y => { y with brakeMark := x.1 })
        (flying .unloadHeads (has (bayIn .locked st) ⟨40, 30, 0⟩)))
      settledCheck s = true ∧ s.ledger.wait = [] ∧ s.bayA.cart.phase ≠ some .pulse ∧ s.bayA.pins.wgate = false ∧
        (s.bayA.sched.inflight.map Op.kind) ≠ some .spinUp ∧ s.bayA.sched.queue = [] ∧ s.bayA.pos.state = st ∧
        s.bayA.pos.pending ≠ .load ∧ s.bayA.pos.unloadTimer.isSome = true ∧ s.bayA.pos.retractTimer.isSome = true ∧
        s.bayA.spin.state.turning = true ∧ (s.bayA.spin.brakeMark = x.1 ∧ s.bayA.cart.state = x.2) ∧
        (st = .unloading →
          (after (.parkRise .A) s).bayA.spin.state = if x.1 || x.2 = .releasePending then SpinState.braking else SpinState.locked)) ∧
    ∀ x ∈ [(120, 0, CartState.ejecting), (120, 1, .releasePending), (119, (0 : Nat), .seated)],
      let s := withCart (fun c => { c with state := .releasePending }) (flying .eject
        { has (bayIn .stopped .retracting) ⟨0, 0, 0⟩ with
          ledger := { (withBudget x.1 atRestA).ledger with holdB := ⟨x.2.1, 0, 0⟩ } })
      settledCheck s = true ∧ s.ledger.wait = [] ∧ s.bayA.cart.phase ≠ some .pulse ∧ s.bayA.sched.queue = [] ∧
        s.bayA.spin.state = .stopped ∧ s.bayA.cart.state = .releasePending ∧
        (after (.parkRise .A) s).bayA.cart.state = x.2.2 := by decide
/-- A load wait with its 30 held; one whose request waits behind the other bay's spindle; each RUNNING and HALTING. -/
theorem witness_HeadsComeHome_loadWait :
    ∀ x ∈ [((30 : Nat), ([] : List WaitEntry)), (0, [⟨.spindle .B, .fixed 180⟩, ⟨.actuator .A, .fixed 30⟩])], ∀ h ∈ [true, false],
      let s := withWait x.2 (withSched (fun y => { y with state := if h then .halting else .running, cause := if h then some .request else none })
        (flying .loadHeads (withPos (fun p => { p with pending := .load, loadWait := some 5 }) (has (bayIn .locked .parked) ⟨40, x.1, 0⟩))))
      settledCheck s = true ∧ s.bayA.pos.state = .parked ∧ s.bayA.pos.pending = .load ∧
        s.bayA.sched.inflight = some ⟨77, .loadHeads⟩ ∧ s.bayA.sched.queue = [] ∧ s.bayA.spin.brakeMark = false ∧
        s.bayA.cart.state = .seated ∧ (after (.parkFall .A) s).completions = [⟨77, .A, .loadHeads, .failed .notReady, none⟩] := by
  decide
theorem witness_WriteGateEdges :
    (PermitExact (withGate (fun g => { g with window := true, qualified := true }) followingA) ∧ PermitExact atRestA) ∧
    (let s := withPins (fun p => { p with wgate := true }) (withGate (fun g => { g with window := true, qualified := true }) followingA);
     (LinkTakes (frameOf (.closeWrite .A)) s ∧ Settled s ∧ OpAccepted .A .closeWrite s ∧ SchedFree (s.bay .A).sched) ∧
       s.bayA.gate.wperm = true ∧ s.bayA.pins.wgate = true) :=
  ⟨⟨by intro b; cases b <;> decide, by intro b; cases b <;> decide⟩, opReady (by decide), by decide⟩
/-- A ring of 95 and of 96; the positions 6 and 15; a scan in progress and none. -/
theorem witness_ScanRunsTheList :
    (atRestA.sense.scanTimer.isSome = true ∧ atRestA.sense.scan = none ∧ atRestA.sense.waiting = none ∧
      (withConv (.list 0) atRestA).sense.scan.isSome = true) ∧
    ∀ x ∈ [(6, 95), (15, (96 : Nat))],
      let s := withConv (.list x.1)
        { atRestA with
          sense := { atRestA.sense with active := List.replicate 10 (some ⟨11, 3, true, true, true⟩) }
          store := { atRestA.store with mode := .history, ring := List.replicate x.2 ⟨15, 11, 1023, 255⟩ } }
      settledCheck s = true ∧ s.sense.conv = .list x.1 ∧ 6 ≤ x.1 ∧ x.1 ≤ 15 ∧
        s.sense.active[x.1 - 6]? = some (some ⟨11, 3, true, true, true⟩) ∧ s.store.ring.length ≤ 96 ∧ s.store.image.length = 16 := by decide
/-- The fixed positions 0, 4 and 5, with the programmable part and without; position 6 with a used one behind it; the last used one; 15;
each with and without a SAMPLE NOW that waits and a scan start owed. -/
theorem witness_ScanRunsTheList_goesOn :
    ∀ x ∈ [(0, true), (4, false), (5, false), (5, true), (6, true), (10, true), (15, (true : Bool))], ∀ y ∈ [false, true],
      let s :=
        { atRestA with
          sense :=
            { atRestA.sense with
              conv := .list x.1, scan := some ⟨x.1, x.2⟩, waiting := if y then some (11, 3) else none, scanDue := y
              active := [some ⟨6, 0, false, false, false⟩, none, none, none, some ⟨9, 1, false, false, true⟩, none, none, none, none,
                if x.1 = 15 then some ⟨11, 3, false, false, false⟩ else none] } }
      settledCheck s = true ∧ s.sense.conv = .list x.1 ∧ x.1 ≤ 15 ∧ s.sense.scan = some ⟨x.1, x.2⟩ ∧ s.sense.active.length = 10 ∧
        (6 ≤ x.1 → (s.sense.active[x.1 - 6]?.join.any fun e => !e.endMark && !e.haltMark) = true) ∧
        ((after (.conversionCompletion 700) s).sense.conv = .now 11 3 ↔ y = true) := by decide
/-- The three supply states; in FAIL the count at its two sides of the third good scan, outside FAIL at 3. -/
theorem witness_SupplySamplesJudgeTheRails :
    ∀ x ∈ [(SupplyState.normal, 3), (.sag, 3), (.fail, 2), (.fail, (1 : Nat))],
      settledCheck (railA 0 x.1 true x.2) = true ∧ (railA 0 x.1 true x.2).sense.conv = .list 0 ∧
        settledCheck (railA 1 x.1 true x.2) = true ∧ (railA 1 x.1 true x.2).sense.conv = .list 1 ∧
        ((railA 1 x.1 true x.2).supply.state = .fail → (railA 1 x.1 true x.2).supply.goodScans ≤ 2) ∧
        (after (.conversionCompletion 700) (railA 1 x.1 true x.2)).supply.goodScans = 3 - (3 - x.2 - if x.1 = .fail then 1 else 0) := by
  decide
/-- The +12 V sample one below its limit, in SAG; the +5 V sample one below its own, in NORMAL. -/
theorem witness_SupplyFailureMakesBothBaysSafe :
    ∀ x ∈ [(0, SupplyState.sag, (679 : BitVec 10)), (1, .normal, 699)],
      let s := railA x.1 x.2.1 false 0
      settledCheck s = true ∧ s.supply.state ≠ .fail ∧
        (s.sense.conv = .list 0 ∧ x.2.2.toNat < s.supply.limits.fail ∨ s.sense.conv = .list 1 ∧ x.2.2.toNat < s.supply.limits.logicFail) ∧
        (after (.conversionCompletion x.2.2) s).ledger.effective = 0 := by decide
/-- The third sample at reserve-ok; a loss one below reserve-low under loaded heads; the second sample above the overcurrent limit. -/
theorem witness_ReserveAndCurrentSamples :
    (let s := fix (withConv (.list 2) (withMon (fun m => { m with qualified := false, reserveCount := 2 }) followingA));
     Settled s ∧ s.sense.conv = .list 2 ∧ s.bayA.mon.reserveCount ≤ 3 ∧ s.supply.limits.reserveOk ≤ (600 : BitVec 10).toNat) ∧
    (let s := withConv (.list 2) followingA;
     Settled s ∧ s.sense.conv = .list 2 ∧ s.bayA.mon.reserveCount ≤ 3 ∧ (539 : BitVec 10).toNat < s.supply.limits.reserveLow ∧
       s.bayA.pos.state.loaded = true) ∧
    (let s := withConv (.list 4) (withMon (fun m => { m with overCount := 1 }) followingA);
     Settled s ∧ SpindleOutputs s ∧ s.sense.conv = .list 4 ∧ s.bayA.mon.overCount ≤ 1 ∧
       s.supply.limits.overcurrent < (901 : BitVec 10).toNat) :=
  ⟨⟨settled_of_check (by decide), by decide⟩, ⟨settled_of_check (by decide), by decide⟩, settled_of_check (by decide),
   by intro b; cases b <;> decide, by decide⟩

end Sys2Proof.Tests
end

section
namespace Sys2Proof.Machine

/-! ### What a grant told to its consumer leaves (R32, R94, R98, R15)

The consumers are told of their grants in the middle of nearly every operation, and of either bay. `Granted` says once what no grant
changes. -/

/-- What a grant leaves of a bay: its lines, its scheduler, its settings, its judgements, its window and its permit, and of the
cartridge all but a latch pulse that starts. -/
structure BayState.Granted (x y : BayState) : Prop where
  pins : y.pins = x.pins
  sched : y.sched = x.sched
  demod : y.demod = x.demod
  gains : y.gains = x.gains
  mon : y.mon = x.mon
  window : y.gate.window = x.gate.window
  wperm : y.gate.wperm = x.gate.wperm
  held : y.gate.held = x.gate.held
  media : y.cart.media = x.cart.media
  prevent : y.cart.prevent = x.cart.prevent
  trim : y.spin.trim = x.spin.trim
  attempt : y.spin.attempt = x.spin.attempt

/-- What a grant leaves of the part: every bay as above, the ledger, and all that is not the SAU's. -/
structure Granted (s t : State) : Prop where
  bay : ∀ c, (s.bay c).Granted (t.bay c)
  ledger : t.ledger = s.ledger
  profile : t.profile = s.profile
  sense : t.sense = s.sense
  store : t.store = s.store
  supply : t.supply = s.supply
  nextTag : t.nextTag = s.nextTag
  completions : t.completions = s.completions
  link : t.link = s.link
  refusals : t.refusals = s.refusals
  events : t.events = s.events
  partCnt : t.partCnt = s.partCnt
  pending : t.pending = s.pending
  freeCount : t.freeCount = s.freeCount

namespace BayState.Granted

theorem refl (x : BayState) : x.Granted x := by constructor <;> rfl

theorem trans {x y z : BayState} (h : x.Granted y) (k : y.Granted z) : x.Granted z := by
  cases h; cases k; constructor <;> simp_all

end BayState.Granted

namespace Granted

theorem refl (s : State) : Granted s s := ⟨fun _ => .refl _, rfl, rfl, rfl, rfl, rfl, rfl, rfl, rfl, rfl, rfl, rfl, rfl, rfl⟩

theorem trans {s t u : State} (h : Granted s t) (k : Granted t u) : Granted s u := by
  have hb := fun c => (h.bay c).trans (k.bay c)
  cases h; cases k; constructor <;> simp_all

/-- A change of one bay that leaves what a grant leaves. -/
theorem setBay {s : State} {b : Bay} {x : BayState} (h : (s.bay b).Granted x) : Granted s (s.setBay b x) := by
  refine ⟨fun c => ?_, ?_, ?_, ?_, ?_, ?_, ?_, ?_, ?_, ?_, ?_, ?_, ?_, ?_⟩
  · rcases Bay.cases_eq b c with rfl | rfl
    · simpa using h
    · simpa using BayState.Granted.refl _
  all_goals simp

theorem setSau (s : State) (x : Option Computation) : Granted s (s.setSau x) :=
  ⟨fun c => by simpa using .refl _, rfl, rfl, rfl, rfl, rfl, rfl, rfl, rfl, rfl, rfl, rfl, rfl, rfl⟩

end Granted

variable {s : State} (b : Bay)

theorem granted_modPos (s : State) (f : Positioner → Positioner) : Granted s (s.modPos b f) := .setBay (by constructor <;> rfl)

theorem granted_modCnt (s : State) (f : BayCounters → BayCounters) : Granted s (s.modCnt b f) := .setBay (by constructor <;> rfl)

theorem granted_modSpin {s : State} {f : Spindle → Spindle} (h : (f (s.bay b).spin).trim = (s.bay b).spin.trim)
    (h' : (f (s.bay b).spin).attempt = (s.bay b).spin.attempt) : Granted s (s.modSpin b f) :=
  .setBay (by constructor <;> first | rfl | assumption)

theorem granted_clearQualified (s : State) : Granted s (clearQualified b s) := .setBay (by constructor <;> rfl)

theorem granted_dropSauWork (s : State) : Granted s (dropSauWork b s) :=
  (Granted.setBay (by constructor <;> rfl)).trans (.setSau _ _)

theorem granted_historyReset (s : State) : Granted s (historyReset b s) :=
  ((Granted.setBay (by constructor <;> rfl)).trans (granted_dropSauWork b _)).trans (granted_clearQualified b _)

theorem granted_setTarget (s : State) (n : Nat) : Granted s (setTarget b n s) := by
  unfold setTarget
  dsimp only
  split
  · exact granted_modPos b s _
  · exact (granted_modPos b s _).trans (granted_clearQualified b _)

theorem granted_speedLostUpdate (s : State) : Granted s (speedLostUpdate b s) := by
  unfold speedLostUpdate
  exact granted_modSpin b rfl rfl

theorem granted_enterAligning (s : State) : Granted s (enterAligning b s) := by
  unfold enterAligning
  split
  · exact granted_modSpin b rfl rfl
  · exact .refl s

theorem granted_enterLoading (s : State) : Granted s (enterLoading b s) :=
  ((granted_historyReset b s).trans (granted_modPos b _ _)).trans (granted_speedLostUpdate b _)

theorem granted_tryLoading (s : State) : Granted s (tryLoading b s) := by
  unfold tryLoading
  split
  · exact granted_enterLoading b s
  · exact .refl s

theorem granted_switchHead (s : State) (h : Nat) : Granted s (switchHead b h s) := by
  unfold switchHead
  split
  · exact .refl s
  · exact (granted_modPos b s _).trans (granted_historyReset b _)

theorem granted_actuatorGranted (s : State) (n : Nat) : Granted s (actuatorGranted b n s) := by
  unfold actuatorGranted
  dsimp only
  refine Granted.trans (t := clampAct b n s) (granted_modPos b s _) ?_
  split
  · split
    · exact ((granted_setTarget b _ _).trans (granted_switchHead b _ _)).trans (granted_modPos b _ _)
    · exact granted_modPos b _ _
    · exact .refl _
  · exact granted_tryLoading b _

/-- The lamp worked out afresh leaves of the cartridge all but the lamp. -/
theorem granted_lampUpdate (s : State) : Granted s (lampUpdate b s) := by
  have h : (s.bay b).cart.sameButLamp ((s.bay b).cart.drive (lampModeOf (s.bay b).cart (s.bay b).sched)) := (Cartridge.drive_spec _ _).2
  refine .setBay ?_
  rw [← h]
  constructor <;> rfl

theorem granted_changeCart {s : State} {f : Cartridge → Cartridge} (h : (f (s.bay b).cart).media = (s.bay b).cart.media)
    (h' : (f (s.bay b).cart).prevent = (s.bay b).cart.prevent) : Granted s (changeCart b f s) :=
  (Granted.setBay (by constructor <;> first | rfl | assumption)).trans (granted_lampUpdate b _)

theorem granted_startPulse (s : State) (n : Nat) : Granted s (startPulse b n s) := by
  unfold startPulse
  dsimp only
  split
  · split
    · exact (granted_modCnt b s _).trans (granted_changeCart b rfl rfl)
    · exact granted_changeCart b rfl rfl
  · exact .refl s

theorem granted_tellGrant (s : State) (g : Grant) : Granted s (tellGrant s g) := by
  rcases g with ⟨c | c | c, n⟩
  · exact granted_enterAligning c s
  · exact granted_actuatorGranted c s n
  · exact granted_startPulse c s n

theorem granted_tellGrants (gs : List Grant) (s : State) : Granted s (tellGrants gs s) := by
  unfold tellGrants
  induction gs generalizing s with
  | nil => exact .refl s
  | cons g gs ih => exact (granted_tellGrant s g).trans (ih _)

end Sys2Proof.Machine
end

section
namespace Sys2Proof.Machine

/-! ### The wait list and the grants of the ledger (R48, R51 to R57) -/

theorem Ledger.waits_eq_false {l : Ledger} {c : Consumer} : l.waits c = false ↔ c ∉ l.wait.map WaitEntry.who := by
  simp [Ledger.waits, List.any_eq_false]

/-- At most one entry of a ledger's wait list per consumer (R48). -/
def Ledger.Distinct (l : Ledger) : Prop := (l.wait.map WaitEntry.who).Nodup

/-- These grants are the holdings the ledger has, of consumers that wait no more. -/
def Ledger.Served (l : Ledger) (gs : List Grant) : Prop := ∀ g ∈ gs, l.hold g.1 = g.2 ∧ l.waits g.1 = false

/-- What a ledger event that only consumer `c` begins gives: the list stays distinct, the grants are served, and a consumer beside `c`
that does not wait is told nothing, keeps its holding and goes on not waiting. -/
structure Ledger.Event (c : Consumer) (l m : Ledger) (gs : List Grant) : Prop where
  distinct : l.Distinct → m.Distinct
  served : l.Distinct → m.Served gs
  told : ∀ g ∈ gs, g.1 = c ∨ l.waits g.1 = true
  kept : ∀ d, d ≠ c → l.waits d = false → m.hold d = l.hold d ∧ m.waits d = false
  capacity : m.capacity = l.capacity
  effective : m.effective = l.effective

/-- R56: a consumer that is not on the list keeps its holding through the grants from the head on. -/
theorem Ledger.grantHeads_hold (w : List WaitEntry) :
    ∀ (l : Ledger) (d : Consumer), d ∉ w.map WaitEntry.who → (l.grantHeads w).1.hold d = l.hold d := by
  induction w with
  | nil => intro l d _; cases d with | _ b => cases b <;> rfl
  | cons e es ih =>
    intro l d hd
    simp only [List.map_cons, List.mem_cons, not_or] at hd
    simp only [Ledger.grantHeads]
    split
    · next g hg => exact (ih _ d hd.2).trans (Ledger.setHold_hold_ne l e.who d g hd.1)
    · cases d with | _ b => cases b <;> rfl

/-- R56: who is not on the list does not come to wait by the grants from the head on. -/
theorem Ledger.grantHeads_waits (w : List WaitEntry) (l : Ledger) (d : Consumer) (hd : d ∉ w.map WaitEntry.who) :
    (l.grantHeads w).1.waits d = false :=
  Ledger.waits_eq_false.mpr fun h => hd (((Ledger.grantHeads_spec w l).2.2.1.map _).subset h)

/-- R56: the grants from the head on are served. -/
theorem Ledger.grantHeads_served (w : List WaitEntry) :
    ∀ l : Ledger, (w.map WaitEntry.who).Nodup → (l.grantHeads w).1.Served (l.grantHeads w).2 := by
  induction w with
  | nil => intro l _ g hg; simp [Ledger.grantHeads] at hg
  | cons e es ih =>
    intro l hn
    simp only [List.map_cons, List.nodup_cons] at hn
    simp only [Ledger.grantHeads]
    split
    · next n _ =>
      intro g hg
      rcases List.mem_cons.mp hg with rfl | hg
      · exact ⟨by simp [Ledger.grantHeads_hold es _ _ hn.1], Ledger.grantHeads_waits es _ _ hn.1⟩
      · exact ih _ hn.2 g hg
    · intro g hg
      simp at hg

/-- R56: a re-examination of a ledger that `c` has just changed (its holding, its entry) is an event of `c`. -/
theorem Ledger.event_reexamine {c : Consumer} {l m : Ledger} (hd : l.Distinct → m.Distinct)
    (hk : ∀ d, d ≠ c → l.waits d = false → m.hold d = l.hold d ∧ m.waits d = false)
    (hc : m.capacity = l.capacity) (he : m.effective = l.effective) :
    Ledger.Event c l m.reexamine.1 m.reexamine.2 where
  distinct h := (hd h).sublist ((Ledger.grantHeads_spec m.wait m).2.2.1.sublist.map _)
  served h := Ledger.grantHeads_served m.wait m (hd h)
  told g hg := by
    by_contra hn
    simp only [not_or, Bool.not_eq_true] at hn
    exact Ledger.waits_eq_false.mp (hk g.1 hn.1 hn.2).2 (Ledger.grantHeads_who m.wait m g hg)
  kept d hdc hw := by
    obtain ⟨h1, h2⟩ := hk d hdc hw
    have hm := Ledger.waits_eq_false.mp h2
    exact ⟨(Ledger.grantHeads_hold m.wait m d hm).trans h1, Ledger.grantHeads_waits m.wait m d hm⟩
  capacity := (Ledger.grantHeads_spec m.wait m).1.trans hc
  effective := (Ledger.grantHeads_spec m.wait m).2.1.trans he

/-- An event that changes nothing. -/
theorem Ledger.event_none (c : Consumer) (l : Ledger) : Ledger.Event c l l [] :=
  ⟨id, fun _ _ h => absurd h List.not_mem_nil, fun _ h => absurd h List.not_mem_nil, fun _ _ h => ⟨rfl, h⟩, rfl, rfl⟩

theorem Ledger.waits_congr {l m : Ledger} (h : m.wait = l.wait) (d : Consumer) : m.waits d = l.waits d := by
  simp [Ledger.waits, h]

/-- R55: a reduction is an event of its consumer. -/
theorem Ledger.event_lower (c : Consumer) (n : Nat) (l : Ledger) : Ledger.Event c l (l.lower c n).1 (l.lower c n).2 := by
  unfold Ledger.lower
  split
  · refine Ledger.event_reexamine (by simp [Ledger.Distinct]) (fun d hd hw => ⟨Ledger.setHold_hold_ne l c d n hd, ?_⟩) (by simp) (by simp)
    rwa [Ledger.waits_congr (Ledger.setHold_wait l c n) d]
  · exact Ledger.event_none c l

/-- R57: a withdrawal keeps every holding, so it is an event of any consumer. -/
theorem Ledger.event_withdraw (c e : Consumer) (l : Ledger) : Ledger.Event e l (l.withdraw c).1 (l.withdraw c).2 := by
  unfold Ledger.withdraw
  split
  · refine Ledger.event_reexamine (fun h => h.sublist (List.filter_sublist.map _))
      (fun d _ hw => ⟨by cases d with | _ b => cases b <;> rfl, ?_⟩) rfl rfl
    rw [Ledger.waits_eq_false] at hw ⊢
    exact fun h => hw ((List.filter_sublist.map _).subset h)
  · exact Ledger.event_none e l

/-- R54: a request put in its consumer's place on the list leaves the consumers of the list as they are. -/
theorem Ledger.replace_who (c : Consumer) (r : Req) (w : List WaitEntry) :
    (w.map fun e => if e.who = c then (⟨c, r⟩ : WaitEntry) else e).map WaitEntry.who = w.map WaitEntry.who := by
  rw [List.map_map]
  refine List.map_congr_left fun e _ => ?_
  simp only [Function.comp_apply]
  split
  · next h => exact h.symm
  · rfl

/-- R51 to R54: a request is an event of its consumer. -/
theorem Ledger.event_request (c : Consumer) (r : Req) (l : Ledger) :
    Ledger.Event c l (l.request c r).ledger (l.request c r).grants := by
  unfold Ledger.request
  split
  · split
    · exact Ledger.event_withdraw c c l
    · refine Ledger.event_reexamine (by rw [Ledger.Distinct, Ledger.Distinct, Ledger.replace_who]; exact id)
        (fun d _ hw => ⟨by cases d with | _ b => cases b <;> rfl, ?_⟩) rfl rfl
      rw [Ledger.waits_eq_false] at hw ⊢
      rwa [Ledger.replace_who]
  · next hc =>
    split
    · exact Ledger.event_none c l
    · split
      · next g hw hg =>
        refine ⟨by simp [Ledger.Distinct], fun _ x hx => ?_, by simp, fun d hd h => ⟨Ledger.setHold_hold_ne l c d g hd, ?_⟩, by simp, by simp⟩
        · simp only [List.mem_singleton] at hx
          subst hx
          simp [Ledger.waits, hw]
        · rwa [Ledger.waits_congr (Ledger.setHold_wait l c g) d]
      · have hc' := Ledger.waits_eq_false.mp (Bool.not_eq_true _ ▸ hc)
        refine ⟨fun h => ?_, fun _ _ h => absurd h List.not_mem_nil, fun _ h => absurd h List.not_mem_nil, fun d hd h => ⟨by cases d with | _ b => cases b <;> rfl, ?_⟩, rfl, rfl⟩
        · simp only [Ledger.Distinct, List.map_append, List.map_cons, List.map_nil]
          exact List.nodup_append.mpr ⟨h, by simp, by simpa using hc'⟩
        · rw [Ledger.waits_eq_false] at h ⊢
          simpa [hd] using h

end Sys2Proof.Machine
end

section
namespace Sys2Proof.Machine

variable (s : State) (b : Bay)

/-! ### Which bay a shared operation reaches

A grant told to a consumer changes the consumer's bay alone, and of its Cartridge Controller only a latch pulse that starts. -/

@[simp] theorem clearQualified_bay_other : (clearQualified b s).bay b.other = s.bay b.other := by simp [clearQualified]

@[simp] theorem dropSauWork_bay_other : (dropSauWork b s).bay b.other = s.bay b.other := by simp [dropSauWork]

@[simp] theorem historyReset_bay_other : (historyReset b s).bay b.other = s.bay b.other := by simp [historyReset]

@[simp] theorem setTarget_bay_other (n : Nat) : (setTarget b n s).bay b.other = s.bay b.other := by
  unfold setTarget
  dsimp only
  split <;> simp

@[simp] theorem speedLostUpdate_bay_other : (speedLostUpdate b s).bay b.other = s.bay b.other := by simp [speedLostUpdate]

@[simp] theorem enterAligning_bay_other : (enterAligning b s).bay b.other = s.bay b.other := by
  unfold enterAligning
  split <;> simp

@[simp] theorem enterLoading_bay_other : (enterLoading b s).bay b.other = s.bay b.other := by simp [enterLoading]

@[simp] theorem tryLoading_bay_other : (tryLoading b s).bay b.other = s.bay b.other := by
  unfold tryLoading
  split <;> simp

@[simp] theorem switchHead_bay_other (h : Nat) : (switchHead b h s).bay b.other = s.bay b.other := by
  unfold switchHead
  split <;> simp

@[simp] theorem clampAct_bay_other (n : Nat) : (clampAct b n s).bay b.other = s.bay b.other := by simp [clampAct]

@[simp] theorem enterSeeking_bay_other (o : SeekOwner) : (enterSeeking b o s).bay b.other = s.bay b.other := by simp [enterSeeking]

@[simp] theorem actuatorGranted_bay_other (n : Nat) : (actuatorGranted b n s).bay b.other = s.bay b.other := by
  unfold actuatorGranted
  dsimp only
  split
  · split <;> simp
  · simp

@[simp] theorem lampUpdate_bay_other : (lampUpdate b s).bay b.other = s.bay b.other := (lampUpdate_spec s b).1

@[simp] theorem changeCart_bay_other (f : Cartridge → Cartridge) : (changeCart b f s).bay b.other = s.bay b.other := by simp [changeCart]

@[simp] theorem changeSched_bay_other (f : Sched → Sched) : (changeSched b f s).bay b.other = s.bay b.other :=
  (changeSched_spec s b f).2.1

@[simp] theorem startPulse_bay_other (n : Nat) : (startPulse b n s).bay b.other = s.bay b.other := by
  unfold startPulse
  dsimp only
  split
  · split <;> simp [countBay]
  · rfl

variable (c : Bay)

@[simp] theorem clearQualified_cart : ((clearQualified b s).bay c).cart = (s.bay c).cart := by simp [clearQualified]

@[simp] theorem dropSauWork_cart : ((dropSauWork b s).bay c).cart = (s.bay c).cart := by cases b <;> cases c <;> rfl

@[simp] theorem dropSauWork_pins : ((dropSauWork b s).bay c).pins = (s.bay c).pins := by cases b <;> cases c <;> rfl

@[simp] theorem dropSauWork_spin : ((dropSauWork b s).bay c).spin = (s.bay c).spin := by cases b <;> cases c <;> rfl

@[simp] theorem dropSauWork_pos : ((dropSauWork b s).bay c).pos = (s.bay c).pos := by cases b <;> cases c <;> rfl

@[simp] theorem dropSauWork_servo : ((dropSauWork b s).bay c).servo = (s.bay c).servo := by cases b <;> cases c <;> rfl

@[simp] theorem dropSauWork_gate : ((dropSauWork b s).bay c).gate = (s.bay c).gate := by cases b <;> cases c <;> rfl

@[simp] theorem dropSauWork_sched : ((dropSauWork b s).bay c).sched = (s.bay c).sched := by cases b <;> cases c <;> rfl

@[simp] theorem dropSauWork_ledger : (dropSauWork b s).ledger = s.ledger := by cases b <;> rfl

@[simp] theorem dropSauWork_completions : (dropSauWork b s).completions = s.completions := by cases b <;> rfl

@[simp] theorem historyReset_cart : ((historyReset b s).bay c).cart = (s.bay c).cart := by simp [historyReset]

@[simp] theorem setTarget_cart (n : Nat) : ((setTarget b n s).bay c).cart = (s.bay c).cart := by
  unfold setTarget
  dsimp only
  split <;> simp

@[simp] theorem speedLostUpdate_cart : ((speedLostUpdate b s).bay c).cart = (s.bay c).cart := by simp [speedLostUpdate]

@[simp] theorem enterAligning_cart : ((enterAligning b s).bay c).cart = (s.bay c).cart := by
  unfold enterAligning
  split <;> simp

@[simp] theorem enterLoading_cart : ((enterLoading b s).bay c).cart = (s.bay c).cart := by simp [enterLoading]

@[simp] theorem tryLoading_cart : ((tryLoading b s).bay c).cart = (s.bay c).cart := by
  unfold tryLoading
  split <;> simp

@[simp] theorem switchHead_cart (h : Nat) : ((switchHead b h s).bay c).cart = (s.bay c).cart := by
  unfold switchHead
  split <;> simp

@[simp] theorem clampAct_cart (n : Nat) : ((clampAct b n s).bay c).cart = (s.bay c).cart := by simp [clampAct]

@[simp] theorem enterSeeking_cart (o : SeekOwner) : ((enterSeeking b o s).bay c).cart = (s.bay c).cart := by simp [enterSeeking]

@[simp] theorem actuatorGranted_cart (n : Nat) : ((actuatorGranted b n s).bay c).cart = (s.bay c).cart := by
  unfold actuatorGranted
  dsimp only
  split
  · split <;> simp
  · simp

/-! ### Grants and mechanisms at rest -/

theorem atRest_iff : atRest b s = true ↔ (s.bay b).pos.state = .parked ∧ (s.bay b).spin.state = .stopped := by simp [atRest]

theorem atRest_congr {s t : State} {b : Bay} (hp : (t.bay b).pos.state = (s.bay b).pos.state)
    (hs : (t.bay b).spin.state = (s.bay b).spin.state) : atRest b t = atRest b s := by simp [atRest, hp, hs]

variable {s b}

/-- A spindle at rest waits for no power. -/
theorem enterAligning_atRest (h : atRest b s = true) : enterAligning b s = s := by
  simp [enterAligning, (atRest_iff s b).mp h]

/-- A grant to an actuator at rest brings ACT within it, and begins nothing (R94, R98). -/
theorem actuatorGranted_atRest (h : atRest b s = true) (n : Nat) : actuatorGranted b n s = clampAct b n s := by
  obtain ⟨hp, hs⟩ := (atRest_iff s b).mp h
  simp [actuatorGranted, tryLoading, clampAct, hp, hs]

/-- The lamp worked out afresh changes the lamp alone. -/
theorem lampUpdate_cart_state : ((lampUpdate b s).bay b).cart.state = (s.bay b).cart.state := by
  have h := (lampUpdate_spec s b).2.2.1
  unfold Cartridge.sameButLamp at h
  rw [← h]

theorem changeCart_sameButLamp (f : Cartridge → Cartridge) : (f (s.bay b).cart).sameButLamp ((changeCart b f s).bay b).cart := by
  have h := (lampUpdate_spec (s.modCart b f) b).2.2.1
  rwa [State.modCart_cart] at h

/-! ### The latch while it is energised (R15, R16) -/

/-- Two cartridges that differ in the lamp alone agree in the rest. -/
theorem Cartridge.sameButLamp.eqs {c d : Cartridge} (h : c.sameButLamp d) :
    d.state = c.state ∧ d.phase = c.phase ∧ d.latch = c.latch ∧ d.media = c.media ∧ d.prevent = c.prevent ∧
      d.pulseCount = c.pulseCount ∧ d.pulseTimer = c.pulseTimer ∧ d.waitTimer = c.waitTimer := by
  rw [← h]
  exact ⟨rfl, rfl, rfl, rfl, rfl, rfl, rfl, rfl⟩

/-- An energised LATCH is the pulse of EJECTING under 120 units, its request served. -/
def LatchHeld (b : Bay) (s : State) : Prop :=
  (s.bay b).cart.latch = true →
    s.hold (.latch b) = Const.latchUnits ∧ (s.bay b).cart.state = .ejecting ∧ (s.bay b).cart.phase = some .pulse ∧
      s.ledger.waits (.latch b) = false

/-- LATCH is energised only with the mechanisms at rest. -/
def LatchAtRest (b : Bay) (s : State) : Prop := (s.bay b).cart.latch = true → atRest b s = true

theorem latchSafe_iff : LatchSafe s ↔ ∀ b, LatchHeld b s ∧ LatchAtRest b s := by
  refine forall_congr' fun b => ⟨fun h => ⟨fun hl => (h hl).2, fun hl => (h hl).1⟩, fun h hl => ⟨h.2 hl, h.1 hl⟩⟩

theorem LatchAtRest.congr {t : State} (h : LatchAtRest b s) (hc : (t.bay b).cart = (s.bay b).cart)
    (hp : (t.bay b).pos.state = (s.bay b).pos.state) (hs : (t.bay b).spin.state = (s.bay b).spin.state) : LatchAtRest b t := by
  unfold LatchAtRest
  rw [hc, atRest_congr hp hs]
  exact h

theorem LatchHeld.congr {t : State} (h : LatchHeld b s) (hc : (t.bay b).cart = (s.bay b).cart) (hl : t.ledger = s.ledger) :
    LatchHeld b t := by
  unfold LatchHeld State.hold
  rw [hc, hl]
  exact h

/-- What a latch pulse starts from: at rest, RELEASE_PENDING, at its 120; and what it leaves. -/
theorem startPulse_cases (b : Bay) (n : Nat) (s : State) :
    startPulse b n s = s ∨
      ((s.bay b).cart.state = .releasePending ∧ atRest b s = true ∧ n = Const.latchUnits ∧
        ((startPulse b n s).bay b).cart.state = .ejecting ∧ ((startPulse b n s).bay b).cart.phase = some .pulse ∧
        ((startPulse b n s).bay b).pos = (s.bay b).pos ∧ ((startPulse b n s).bay b).spin = (s.bay b).spin) := by
  unfold startPulse
  dsimp only
  split
  · next h =>
    simp only [Bool.and_eq_true, decide_eq_true_eq] at h
    obtain ⟨⟨h1, h2⟩, h3⟩ := h
    refine .inr ⟨h1, h2, h3, ?_, ?_, ?_, ?_⟩
    · exact (changeCart_sameButLamp _).eqs.1
    · exact (changeCart_sameButLamp _).eqs.2.1
    all_goals split <;> simp [changeCart, lampUpdate, countBay]
  · exact .inl rfl

/-- A grant keeps LATCH at rest. -/
theorem LatchAtRest.tellGrant {c : Bay} (h : LatchAtRest c s) (g : Grant) : LatchAtRest c (tellGrant s g) := by
  rcases g with ⟨⟨b⟩ | ⟨b⟩ | ⟨b⟩, n⟩
  all_goals
    simp only [Machine.tellGrant]
    rcases Bay.cases_eq b c with rfl | rfl
    case inr => exact h.congr (by simp) (by simp) (by simp)
  · intro hl
    have hr := h (by simpa using hl)
    rwa [enterAligning_atRest hr]
  · intro hl
    have hr := h (by simpa using hl)
    rw [actuatorGranted_atRest hr]
    exact (atRest_congr (by simp [clampAct]) (by simp [clampAct])).trans hr
  · rcases startPulse_cases c n s with e | ⟨-, hr, -, -, -, hp, hs⟩
    · rwa [e]
    · exact fun _ => (atRest_congr (by rw [hp]) (by rw [hs])).trans hr

theorem LatchAtRest.tellGrants {c : Bay} (gs : List Grant) (h : LatchAtRest c s) : LatchAtRest c (tellGrants gs s) := by
  unfold Machine.tellGrants
  induction gs generalizing s with
  | nil => exact h
  | cons g gs ih => exact ih (h.tellGrant g)

/-- A grant that is served keeps LATCH under its 120. -/
theorem LatchHeld.tellGrant {c : Bay} (h : LatchHeld c s) {g : Grant} (hg : s.ledger.hold g.1 = g.2 ∧ s.ledger.waits g.1 = false) :
    LatchHeld c (tellGrant s g) := by
  rcases g with ⟨⟨b⟩ | ⟨b⟩ | ⟨b⟩, n⟩
  · exact h.congr (by simp [Machine.tellGrant]) (by simp)
  · exact h.congr (by simp [Machine.tellGrant]) (by simp)
  · simp only [Machine.tellGrant]
    rcases Bay.cases_eq b c with rfl | rfl
    · rcases startPulse_cases c n s with e | ⟨-, -, hn, h1, h2, -, -⟩
      · rwa [e]
      · exact fun _ => ⟨by simpa [State.hold, hn] using hg.1, h1, h2, by simpa using hg.2⟩
    · exact h.congr (by simp) (by simp)

theorem LatchHeld.tellGrants {c : Bay} (gs : List Grant) (h : LatchHeld c s) (hg : s.ledger.Served gs) : LatchHeld c (tellGrants gs s) := by
  unfold Machine.tellGrants
  induction gs generalizing s with
  | nil => exact h
  | cons g gs ih =>
    simp only [Ledger.Served, List.forall_mem_cons] at hg
    exact ih (h.tellGrant hg.1) (by simpa [Ledger.Served] using hg.2)

end Sys2Proof.Machine
end

section
namespace Sys2Proof.Machine

/-! ### What an operation of a bay is made of

Every shared operation of a bay (braking, unloading, a fatal outcome, a stop at rest, a wedge) is a sequence of the same few changes.
`Acts b moved s t` says that `t` is reached from `s` by such a sequence, of bay `b`; `moved` that the mechanisms of the bay may have left
their rest since the latch pulse was last judged (R16). Each law that every step keeps is then one induction over these changes. -/

/-- `t` comes of `s` by changes that operations of bay `b` are made of. -/
inductive Acts (b : Bay) : Bool → State → State → Prop where
  | refl (m : Bool) (s : State) : Acts b m s s
  | moved {s t : State} : Acts b false s t → Acts b true s t
  | judged {s t : State} : Acts b true s t →
      ((t.bay b).cart.state = .ejecting → (t.bay b).cart.phase = some .pulse → LatchAtRest b t) → Acts b false s t
  | spin {m : Bool} {s t : State} (f : Spindle → Spindle) : Acts b m s t →
      (m = false → atRest b t = true → (f (t.bay b).spin).state = .stopped) →
      (f (t.bay b).spin).trim = (t.bay b).spin.trim → Acts b m s (t.modSpin b f)
  | pos {m : Bool} {s t : State} (f : Positioner → Positioner) : Acts b m s t →
      (m = false → atRest b t = true → (f (t.bay b).pos).state = .parked) → Acts b m s (t.modPos b f)
  | count {m : Bool} {s t : State} (f : BayCounters → BayCounters) : Acts b m s t → Acts b m s (t.modCnt b f)
  | unqualify {m : Bool} {s t : State} : Acts b m s t → Acts b m s (clearQualified b t)
  | dropSau {m : Bool} {s t : State} : Acts b m s t → Acts b m s (dropSauWork b t)
  | history {m : Bool} {s t : State} (f : Servo → Servo) : Acts b m s t → Acts b m s (t.modServo b f)
  | close {m : Bool} {s t : State} : Acts b m s t → Acts b m s (closeWindow b t)
  | cancel {m : Bool} {s t : State} : Acts b m s t → Acts b m s (cancelQueue b t)
  | complete {m : Bool} {s t : State} (o : OpOutcome) : Acts b m s t → Acts b m s (completeOp b o t)
  | fault {m : Bool} {s t : State} (c : Cause) : Acts b m s t → Acts b m s (faultHalt b c t)
  | ledger {m : Bool} {s t : State} (c : Consumer) (l : Ledger) (gs : List Grant) : Acts b m s t → Ledger.Event c t.ledger l gs →
      (c = .spindle b ∨ c = .actuator b ∨
        c = .latch b ∧ ((t.bay b).cart.state = .ejecting → (t.bay b).cart.latch = false)) →
      Acts b m s (tellGrants gs (t.setLedger l))
  | pulseOff {m : Bool} {s t : State} : Acts b m s t → (t.bay b).cart.state = .ejecting →
      Acts b m s (t.modCart b fun c =>
        { c with latch := false, phase := some .wait, pulseTimer := none, waitTimer := some Const.latchWait })
  | abandon {m : Bool} {s t : State} : Acts b m s t → (t.bay b).cart.state = .releasePending →
      Acts b m s (changeCart b (fun c => { c with state := .seated, pulseCount := 0, phase := none }) t)
  | lamp {m : Bool} {s t : State} : Acts b m s t → Acts b m s (lampUpdate b t)

namespace Acts

variable {b : Bay} {m : Bool} {s t : State}

theorem toMoved (h : Acts b m s t) : Acts b true s t := by
  cases m
  · exact h.moved
  · exact h

/-- Any acts may follow where the pulse has been judged. -/
theorem weaken (h : Acts b false s t) : Acts b m s t := by
  cases m
  · exact h
  · exact h.moved

/-- A change of the spindle that leaves its state. -/
theorem spinKeep (h : Acts b m s t) (f : Spindle → Spindle) (hf : (f (t.bay b).spin).state = (t.bay b).spin.state)
    (ht : (f (t.bay b).spin).trim = (t.bay b).spin.trim) : Acts b m s (t.modSpin b f) :=
  h.spin f (fun _ hr => hf.trans ((atRest_iff t b).mp hr).2) ht

/-- A change of the positioner that leaves its state. -/
theorem posKeep (h : Acts b m s t) (f : Positioner → Positioner) (hf : (f (t.bay b).pos).state = (t.bay b).pos.state) :
    Acts b m s (t.modPos b f) :=
  h.pos f fun _ hr => hf.trans ((atRest_iff t b).mp hr).1

/-- Any change of the spindle, the pulse not judged yet. -/
theorem spinMove (h : Acts b m s t) (f : Spindle → Spindle) (ht : (f (t.bay b).spin).trim = (t.bay b).spin.trim) :
    Acts b true s (t.modSpin b f) := h.toMoved.spin f (by simp) ht

/-- Any change of the positioner, the pulse not judged yet. -/
theorem posMove (h : Acts b m s t) (f : Positioner → Positioner) : Acts b true s (t.modPos b f) := h.toMoved.pos f (by simp)

/-- A change of the spindle where it was not at rest. -/
theorem spinFrom (h : Acts b m s t) (f : Spindle → Spindle) (hs : (t.bay b).spin.state ≠ .stopped)
    (ht : (f (t.bay b).spin).trim = (t.bay b).spin.trim) : Acts b m s (t.modSpin b f) :=
  h.spin f (fun _ hr => absurd ((atRest_iff t b).mp hr).2 hs) ht

/-- A change of the positioner where it was not at rest. -/
theorem posFrom (h : Acts b m s t) (f : Positioner → Positioner) (hs : (t.bay b).pos.state ≠ .parked) : Acts b m s (t.modPos b f) :=
  h.pos f fun _ hr => absurd ((atRest_iff t b).mp hr).1 hs

end Acts

/-! ### The shared operations as acts -/

variable {b : Bay} {m : Bool} {s t : State}

theorem Acts.completeIf (h : Acts b m s t) (p : OpKind → Bool) (o : OpOutcome) : Acts b m s (completeIf b p o t) := by
  unfold Machine.completeIf
  split
  · exact h.complete o
  · exact h

/-- A reduction or a release (R55). -/
theorem Acts.lower (h : Acts b m s t) {c : Consumer} (n : Nat) (hc : c = .spindle b ∨ c = .actuator b) :
    Acts b m s (lowerHolding c n t) :=
  h.ledger c _ _ (Ledger.event_lower c n t.ledger) (hc.imp_right .inl)

/-- A withdrawal (R57). -/
theorem Acts.withdraw (h : Acts b m s t) (c : Consumer) : Acts b m s (withdrawRequest c t) :=
  h.ledger (.spindle b) _ _ (Ledger.event_withdraw c (.spindle b) t.ledger) (.inl rfl)

/-- A request of a mechanism, told NO_BUDGET or not (R31, R51, R58). -/
theorem Acts.ask (h : Acts b m s t) {c : Consumer} (r : Req) (hc : c = .spindle b ∨ c = .actuator b) : Acts b m s (ask c r t) := by
  have hg := h.ledger c _ _ (Ledger.event_request c r t.ledger) (hc.imp_right .inl)
  unfold Machine.ask
  dsimp only
  split
  · rcases hc with rfl | rfl
    · simp only [tellNoBudget]
      split
      · next hw => exact (hg.spin _ (fun _ _ => rfl) rfl).completeIf _ _
      · exact hg
    · exact hg
  · exact hg

/-- The request of a latch that waits for its 120 (R14). -/
theorem Acts.askLatch (h : Acts b m s t) (r : Req) (hr : (t.bay b).cart.state = .releasePending) :
    Acts b m s (Machine.ask (.latch b) r t) := by
  have hg := h.ledger (.latch b) _ _ (Ledger.event_request (.latch b) r t.ledger) (.inr (.inr ⟨rfl, by simp [hr]⟩))
  unfold Machine.ask
  dsimp only
  split
  · simp only [tellNoBudget]
    split
    · next hw => exact (hg.abandon hw).completeIf _ _
    · exact hg
  · exact hg

/-- The end of a pulse (R15). -/
theorem Acts.endPulse (h : Acts b m s t) (he : (t.bay b).cart.state = .ejecting) : Acts b m s (endPulse b t) :=
  (h.pulseOff he).ledger (.latch b) _ _ (Ledger.event_lower _ 0 _) (.inr (.inr ⟨rfl, by simp⟩))

/-- R16: behind the judgement of the pulse, LATCH is off or the mechanisms are at rest. -/
theorem Acts.cut (h : Acts b m s t) : Acts b false s (cutPulse b t) := by
  unfold cutPulse
  split
  · next hc =>
    simp only [Bool.and_eq_true, decide_eq_true_eq] at hc
    refine (h.toMoved.endPulse hc.1.1).judged fun _ _ => ?_
    exact LatchAtRest.tellGrants _ fun hl => by simp at hl
  · next hc =>
    refine h.toMoved.judged fun h1 h2 _ => ?_
    simpa [h1, h2] using hc

theorem Acts.speedLostUpdate (h : Acts b m s t) : Acts b m s (speedLostUpdate b t) := by
  unfold Machine.speedLostUpdate
  exact h.spinKeep _ rfl rfl

theorem Acts.historyReset (h : Acts b m s t) : Acts b m s (historyReset b t) := ((h.history _).dropSau).unqualify

theorem Acts.setTarget (h : Acts b m s t) (n : Nat) : Acts b m s (setTarget b n t) := by
  unfold Machine.setTarget
  dsimp only
  split
  · exact h.posKeep _ rfl
  · exact (h.posKeep _ rfl).unqualify

theorem historyReset_spin (c : Bay) : ((historyReset b s).bay c).spin = (s.bay c).spin := by cases b <;> cases c <;> rfl

/-- R94: LOADING is entered over a LOCKED spindle alone, so not from rest. -/
theorem Acts.tryLoading (h : Acts b m s t) : Acts b m s (tryLoading b t) := by
  unfold Machine.tryLoading
  split
  · next hc =>
    have hl : (t.bay b).spin.state = .locked := by simp at hc; exact hc.2
    refine Acts.speedLostUpdate (Acts.pos _ h.historyReset fun _ hr => ?_)
    have := ((atRest_iff _ b).mp hr).2
    rw [historyReset_spin, hl] at this
    cases this
  · exact h

theorem Acts.endLoadWait (h : Acts b m s t) : Acts b m s (endLoadWait b t) := by
  unfold Machine.endLoadWait
  split
  · exact ((h.posKeep _ rfl).withdraw _).lower _ (by simp)
  · exact h

theorem Acts.failLoadWait (h : Acts b m s t) (c : Cause) : Acts b m s (failLoadWait b c t) := by
  unfold Machine.failLoadWait
  split
  · exact h.endLoadWait.completeIf _ _
  · exact h

theorem Acts.judgeLatch (h : Acts b m s t) : Acts b m s (judgeLatch b t) := by
  unfold Machine.judgeLatch
  split
  · next hr =>
    split
    · split
      · exact h
      · exact h.askLatch _ hr
    · exact h.withdraw _
  · exact h

theorem Acts.spindleChanged (h : Acts b m s t) : Acts b false s (spindleChanged b t) := by
  unfold Machine.spindleChanged
  dsimp only
  refine Acts.judgeLatch (Acts.cut (m := m) ?_)
  split
  · exact h.speedLostUpdate.tryLoading
  · exact h.speedLostUpdate.failLoadWait _

theorem Acts.enterBraking (h : Acts b m s t) (p : BrakePurpose) : Acts b false s (enterBraking b p t) :=
  ((h.spinMove _ rfl).lower _ (by simp)).spindleChanged

theorem Acts.enterStopped (h : Acts b m s t) : Acts b false s (enterStopped b t) := (h.spinMove _ rfl).spindleChanged

theorem Acts.enterSpinFault (h : Acts b m s t) : Acts b false s (enterSpinFault b t) := (h.spinMove _ rfl).spindleChanged

theorem Acts.abandonPower (h : Acts b m s t) : Acts b false s (abandonPower b t) := (h.withdraw _).enterStopped

theorem Acts.brakeOrder (h : Acts b m s t) : Acts b m s (brakeOrder b t) := by
  unfold Machine.brakeOrder
  split
  case h_4 => exact h.abandonPower.weaken
  case h_5 | h_6 | h_7 | h_8 | h_9 =>
    split
    · exact h.spinKeep _ rfl rfl
    · exact (h.enterBraking _).weaken
  all_goals exact h

theorem Acts.mergeStop (h : Acts b m s t) : Acts b m s (mergeStop b t) := h.spinKeep _ rfl rfl

theorem Acts.cancelOnSpindle (h : Acts b m s t) : Acts b m s (cancelOnSpindle b t) := by
  unfold Machine.cancelOnSpindle
  split
  case h_1 => exact h.abandonPower.weaken
  case h_2 | h_3 | h_4 => exact (h.enterBraking _).weaken
  case h_5 => exact h.mergeStop
  all_goals exact h

theorem Acts.cancelSpinUp (h : Acts b m s t) : Acts b m s (cancelSpinUp b t) := by
  unfold Machine.cancelSpinUp
  split
  · split
    · exact (h.complete _).cancelOnSpindle
    · exact h.cancelOnSpindle
  · exact h

theorem Acts.raiseOutcome (h : Acts b m s t) (c : Cause) : Acts b m s (raiseOutcome b c t) := h.close.fault c

theorem Acts.raiseFatal (h : Acts b m s t) (c : Cause) : Acts b m s (raiseFatal b c t) := by
  unfold Machine.raiseFatal
  dsimp only
  split
  · exact (h.raiseOutcome c).cancelOnSpindle
  · exact h.raiseOutcome c

theorem Acts.askPower (h : Acts b m s t) (n : Nat) : Acts b false s (askPower b n t) :=
  ((h.spinMove _ rfl).spindleChanged).ask _ (by simp)

theorem Acts.beginAttempt (h : Acts b m s t) : Acts b false s (beginAttempt b t) := by
  unfold Machine.beginAttempt
  split
  · exact h.enterSpinFault.raiseFatal _
  · exact h.askPower 1

theorem Acts.platterStop (h : Acts b m s t) : Acts b false s (platterStop b t) := by
  unfold Machine.platterStop
  dsimp only
  split
  · exact (h.count _).askPower _
  · exact h.enterSpinFault.raiseFatal _
  · split
    · exact h.enterSpinFault.raiseFatal _
    · exact (h.enterSpinFault.completeIf _ _).completeIf _ _
  all_goals
    split
    · exact (h.spinMove _ rfl).beginAttempt
    · exact ((h.completeIf _ _).completeIf _ _).enterStopped

theorem Acts.failAttempt (h : Acts b m s t) : Acts b false s (failAttempt b t) := h.enterBraking _

theorem Acts.enterLocking (h : Acts b m s t) (n : Nat) : Acts b false s (enterLocking b n t) := (h.spinMove _ rfl).spindleChanged

theorem Acts.lockEntry (h : Acts b m s t) : Acts b false s (lockEntry b t) :=
  (((h.spinMove _ rfl).lower _ (by simp)).completeIf _ _).spindleChanged

theorem Acts.moveLock (h : Acts b m s t) (g : SpinState) : Acts b false s (moveLock b g t) := (h.spinMove _ rfl).spindleChanged

theorem Acts.countRevolution (h : Acts b m s t) (i : Bool) : Acts b m s (countRevolution b i t) := by
  unfold Machine.countRevolution
  dsimp only
  split
  case h_1 => split <;> [exact h.lockEntry.weaken; exact h.spinKeep _ rfl rfl]
  case h_2 | h_6 => split <;> [exact (h.moveLock _).weaken; exact h.spinKeep _ rfl rfl]
  case h_7 => exact h
  all_goals exact h.spinKeep _ rfl rfl

theorem Acts.judgeRevolution (h : Acts b m s t) (n : Nat) : Acts b m s (judgeRevolution b n t) := by
  unfold Machine.judgeRevolution
  dsimp only
  split
  case h_1 => split <;> [exact (h.enterLocking n).weaken; exact h]
  case h_5 => exact h
  all_goals exact (h.spinKeep _ rfl rfl).countRevolution _

theorem Acts.missedRevolution (h : Acts b m s t) : Acts b m s (missedRevolution b t) := (h.spinKeep _ rfl rfl).countRevolution _

/-! #### The positioner -/

theorem Acts.posChanged (h : Acts b m s t) : Acts b false s (posChanged b t) := by
  have reporting : ∀ u, Acts b m s u → Acts b m s (if (u.bay b).pos.state.loaded then u else clearQualified b (dropSauWork b u)) := by
    intro u hu
    split
    · exact hu
    · exact hu.dropSau.unqualify
  have ordered : ∀ (p : Bool) u, Acts b m s u → Acts b m s (if p then Machine.brakeOrder b u else u) := by
    intro p u hu
    split
    · exact hu.brakeOrder
    · exact hu
  exact (ordered _ _ (ordered _ _ (reporting t h).speedLostUpdate)).cut.judgeLatch

theorem Acts.dropPending (h : Acts b m s t) : Acts b m s (dropPending b t) := (h.posKeep _ rfl).withdraw _

theorem Acts.enterParked (h : Acts b m s t) : Acts b false s (enterParked b t) :=
  ((((h.posMove _).lower _ (by simp)).completeIf _ _).completeIf _ _).posChanged

theorem Acts.enterPosFault (h : Acts b m s t) : Acts b false s (enterPosFault b t) := ((h.posMove _).lower _ (by simp)).posChanged

theorem Acts.enterUnloading (h : Acts b m s t) : Acts b false s (enterUnloading b t) := by
  have hu := ((h.posMove fun p =>
    { p with state := .unloading, act := Const.unloadCode, source := .rail, owner := .none, loadWait := none,
             loadTimer := none, seekTimer := none, unloadTimer := some Const.unload }).dropPending.lower
      (c := .actuator b) Const.unloadUnits (by simp)).posChanged
  unfold Machine.enterUnloading
  dsimp only
  split
  · exact hu.enterParked
  · exact hu

theorem Acts.unloadOrder (h : Acts b m s t) : Acts b m s (unloadOrder b t) := by
  unfold Machine.unloadOrder
  split
  · exact h.enterUnloading.weaken
  · split
    · exact h.endLoadWait
    · exact h

theorem Acts.enterRetracting (h : Acts b m s t) : Acts b false s (enterRetracting b t) := by
  have hu := ((h.posMove fun p =>
    { p with state := .retracting, act := Const.retractCode, source := .reserve, owner := .none, loadWait := none,
             loadTimer := none, seekTimer := none, unloadTimer := none, retractTimer := some Const.retract }).dropPending.lower
      (c := .actuator b) 0 (by simp)).posChanged
  unfold Machine.enterRetracting
  dsimp only
  split
  · exact hu.enterParked
  · exact hu

theorem Acts.retractOrder (h : Acts b m s t) : Acts b m s (retractOrder b t) := by
  unfold Machine.retractOrder
  split
  · exact h.endLoadWait
  · exact h
  · exact h.enterRetracting.weaken

theorem Acts.stopLoad (h : Acts b m s t) : Acts b m s (stopLoad b t) := by
  unfold Machine.stopLoad
  split
  · exact h.endLoadWait.completeIf _ _
  · split
    · exact h.unloadOrder
    · exact h

theorem setTarget_pos_state (n : Nat) : ((setTarget b n s).bay b).pos.state = (s.bay b).pos.state := by
  unfold setTarget clearQualified
  dsimp only
  split <;> simp

theorem Acts.abortSeek (h : Acts b m s t) : Acts b m s (abortSeek b t) := by
  unfold Machine.abortSeek
  split
  · exact h.dropPending.completeIf _ _
  · split
    · next hs =>
      unfold Machine.settleAborted
      refine (h.setTarget _).posFrom _ ?_
      rw [setTarget_pos_state]
      rintro hp
      simp [hp] at hs
    · exact h

theorem Acts.abortPositioner (h : Acts b m s t) : Acts b m s (abortPositioner b t) := by
  unfold Machine.abortPositioner
  split
  · exact h.stopLoad
  · split
    · exact h.abortSeek
    · exact h

theorem Acts.stopByUnload (h : Acts b m s t) : Acts b m s (stopByUnload b t) := by
  unfold Machine.stopByUnload
  split
  · exact h.stopLoad
  · split
    · exact h.unloadOrder
    · exact h

theorem Acts.faultAndUnload (h : Acts b m s t) (c : Cause) : Acts b m s (faultAndUnload b c t) := (h.raiseFatal c).unloadOrder

theorem Acts.servoLostFault (h : Acts b m s t) : Acts b m s (servoLostFault b t) := (h.count _).faultAndUnload _

theorem Acts.offTrackMark (h : Acts b m s t) : Acts b m s (offTrackMark b t) := by
  unfold Machine.offTrackMark
  split
  · exact ((h.close.count _).posKeep _ rfl).ask _ (by simp)
  · exact h.faultAndUnload _

theorem Acts.reserveDisqualified (h : Acts b m s t) : Acts b m s (reserveDisqualified b t) := by
  unfold Machine.reserveDisqualified
  split
  · exact h.faultAndUnload _
  · split
    · exact h.failLoadWait _
    · exact h

theorem Acts.invalidWedge (h : Acts b m s t) : Acts b m s (invalidWedge b t) := by
  unfold Machine.invalidWedge
  split
  · split
    · exact (h.posKeep _ rfl).servoLostFault
    · refine h.posKeep _ ?_
      dsimp only
      split <;> rfl
  · exact h

theorem Acts.impliedWedges (n : Nat) (h : Acts b m s t) : Acts b m s (impliedWedges b n t) := by
  induction n generalizing t with
  | zero => exact h
  | succ n ih => exact ih h.invalidWedge

theorem Acts.acquisitionComplete (h : Acts b m s t) (hp : (t.bay b).pos.state = .acquiring) :
    Acts b m s (acquisitionComplete b t) := by
  refine Acts.completeIf (((h.setTarget _).unqualify).posFrom _ ?_) _ _
  rw [clearQualified, State.modGate_pos, setTarget_pos_state, hp]
  simp

theorem Acts.settled (h : Acts b m s t) (hp : (t.bay b).pos.state = .settling) : Acts b m s (settled b t) := by
  have hs : Acts b m s (clampAct b Const.followUnits t) := h.posKeep _ rfl
  have hf := hs.posFrom (fun p =>
    { p with state := .following, seekTimer := none, settle := 3, offTrack := 0, clean := 0, servoLost := 0, owner := .none })
    (by simp [clampAct, hp])
  refine Acts.lower ?_ _ (.inr rfl)
  split
  · exact hf.completeIf _ _
  · exact hf.completeIf _ _
  all_goals exact hf

theorem Acts.followWedge (h : Acts b m s t) (e : Int) : Acts b m s (followWedge b e t) := by
  unfold Machine.followWedge
  dsimp only
  split
  · exact h.posKeep _ rfl
  · split
    · split
      · exact (h.posKeep _ rfl).offTrackMark
      · exact h.posKeep _ rfl
    · split <;> exact h.posKeep _ rfl

theorem Acts.validWedge (h : Acts b m s t) (e : Int) (a : Bool) : Acts b m s (validWedge b e a t) := by
  unfold Machine.validWedge
  split
  case h_1 hp => exact h.posFrom _ (by simp [hp])
  case h_2 hp =>
    dsimp only
    split
    · exact (h.posKeep _ rfl).acquisitionComplete (by simp [hp])
    · exact (h.posKeep _ rfl).posKeep _ rfl
  case h_3 => exact (h.posKeep _ rfl).followWedge e
  case h_4 hp => exact h.posFrom _ (by simp [hp])
  case h_5 hp =>
    dsimp only
    split
    · split
      · exact (h.posKeep _ rfl).settled (by simp [hp])
      · exact (h.posKeep _ rfl).posKeep _ rfl
    · exact (h.posKeep _ rfl).posKeep _ rfl
  all_goals exact h

end Sys2Proof.Machine
end

section
namespace Sys2Proof.Machine

variable {b : Bay} {m : Bool} {s t : State}

/-! ### Laws kept by the acts of an operation -/

/-! #### A scheduler that is HALTED is idle (R155) -/

/-- The scheduler behind the end of its in-flight operation (R151). -/
def Sched.ended (x : Sched) : Sched :=
  if x.inflight.isSome then { x with inflight := none, state := if x.state = .halting then .halted else x.state } else x

theorem completeOp_sched (o : OpOutcome) (s : State) : ((completeOp b o s).bay b).sched = (s.bay b).sched.ended := by
  unfold Sched.ended
  cases h : (s.bay b).sched.inflight with
  | none => simp [(completeOp_spec s b o).1 h]
  | some op => simpa using ((completeOp_spec s b o).2 op h).2.1

@[simp] theorem completeOp_bay_other (o : OpOutcome) (s : State) : (completeOp b o s).bay b.other = s.bay b.other := by
  cases h : (s.bay b).sched.inflight with
  | none => simp [(completeOp_spec s b o).1 h]
  | some op => exact ((completeOp_spec s b o).2 op h).2.2.1

@[simp] theorem Sched.ended_inflight (x : Sched) : x.ended.inflight = none := by
  unfold Sched.ended
  split
  · rfl
  · next h => simpa using h

@[simp] theorem Sched.ended_queue (x : Sched) : x.ended.queue = x.queue := by
  unfold Sched.ended
  split <;> rfl

theorem faultHalt_sched (c : Cause) (s : State) : ((faultHalt b c s).bay b).sched = (s.bay b).sched.faulted c := by
  unfold faultHalt
  rw [(changeSched_spec _ b _).1, completeOp_sched]
  unfold Sched.ended Sched.faulted
  split
  · rfl
  · next h =>
    have : (s.bay b).sched.inflight = none := by simpa using h
    simp [this]

@[simp] theorem faultHalt_bay_other (c : Cause) (s : State) : (faultHalt b c s).bay b.other = s.bay b.other := by simp [faultHalt]

theorem cancelQueue_sched (s : State) : ((cancelQueue b s).bay b).sched = { (s.bay b).sched with queue := [] } := by
  unfold cancelQueue
  rw [(cancelAll_spec b _ _).2.1, State.modSched_sched]

@[simp] theorem cancelQueue_bay_other (s : State) : (cancelQueue b s).bay b.other = s.bay b.other := by
  unfold cancelQueue
  rw [(cancelAll_spec b _ _).2.1, State.modSched_bay_other]

theorem cancelQueue_bay (s : State) : (cancelQueue b s).bay b = { s.bay b with sched := { (s.bay b).sched with queue := [] } } := by
  unfold cancelQueue
  rw [(cancelAll_spec b _ _).2.1]
  cases b <;> rfl

/-! #### What grants and acts leave of a scheduler -/

@[simp] theorem tellGrants_sched (gs : List Grant) (s : State) (c : Bay) : ((tellGrants gs s).bay c).sched = (s.bay c).sched :=
  ((granted_tellGrants gs s).bay c).sched

@[simp] theorem tellGrants_window (gs : List Grant) (s : State) (c : Bay) :
    ((tellGrants gs s).bay c).gate.window = (s.bay c).gate.window := ((granted_tellGrants gs s).bay c).window

/-- Acts of a bay leave the other bay's scheduler and window. -/
theorem Acts.other_kept (h : Acts b m s t) :
    (t.bay b.other).sched = (s.bay b.other).sched ∧ (t.bay b.other).gate.window = (s.bay b.other).gate.window := by
  induction h with
  | refl => exact ⟨rfl, rfl⟩
  | moved _ ih => exact ih
  | judged _ _ ih => exact ih
  | spin _ _ _ _ ih | pos _ _ _ ih | count _ _ ih | unqualify _ ih | dropSau _ ih | history _ _ ih | close _ ih | cancel _ ih
  | complete _ _ ih | fault _ _ ih | ledger _ _ _ _ _ _ ih | pulseOff _ _ ih | abandon _ _ ih | lamp _ ih => simpa [closeWindow] using ih

/-- A scheduler as acts leave it: what it was, ended, failed or cancelled in some order. -/
inductive Sched.Acted (x : Sched) : Sched → Prop
  | refl : Acted x x
  | ended {y : Sched} : Acted x y → Acted x y.ended
  | faulted {y : Sched} (c : Cause) : Acted x y → Acted x (y.faulted c)
  | cancelled {y : Sched} : Acted x y → Acted x { y with queue := [] }

/-- What acts of a bay do to its scheduler. -/
theorem Acts.sched_acted (h : Acts b m s t) : (s.bay b).sched.Acted (t.bay b).sched := by
  induction h with
  | refl => exact .refl
  | moved _ ih => exact ih
  | judged _ _ ih => exact ih
  | complete o _ ih => rw [completeOp_sched]; exact ih.ended
  | fault c _ ih => rw [faultHalt_sched]; exact ih.faulted c
  | cancel _ ih => rw [cancelQueue_sched]; exact ih.cancelled
  | abandon _ _ ih | lamp _ ih => simpa [changeCart, lampUpdate] using ih
  | spin _ _ _ _ ih | pos _ _ _ ih | count _ _ ih | unqualify _ ih | dropSau _ ih | history _ _ ih | close _ ih
  | ledger _ _ _ _ _ _ ih | pulseOff _ _ ih => simpa [closeWindow, clearQualified] using ih

theorem Sched.Acted.queue {x y : Sched} (h : x.Acted y) : y.queue = x.queue ∨ y.queue = [] := by
  induction h with
  | refl => exact .inl rfl
  | ended _ ih => simpa using ih
  | faulted _ _ ih => exact ih
  | cancelled _ ih => exact .inr rfl

theorem Sched.Acted.step {x y : Sched} (h : x.Acted y) : y.step = x.step := by
  induction h with
  | refl => rfl
  | ended _ ih => rw [← ih]; unfold Sched.ended; split <;> rfl
  | faulted _ _ ih => exact ih
  | cancelled _ ih => exact ih

/-- R155: acts keep a HALTED scheduler without an operation. -/
theorem Sched.Acted.halted {x y : Sched} (h : x.Acted y) (hx : x.state = .halted → x.inflight = none) :
    y.state = .halted → y.inflight = none := by
  induction h with
  | refl => exact hx
  | ended _ _ => simp
  | faulted _ _ _ => exact fun _ => rfl
  | cancelled _ ih => exact ih

theorem Acts.haltedIdle (h : Acts b m s t) (hs : HaltedIdle s) : HaltedIdle t := by
  intro c
  rcases Bay.cases_eq b c with rfl | rfl
  · exact h.sched_acted.halted (hs c)
  · rw [h.other_kept.1]
    exact hs b.other

end Sys2Proof.Machine
end

section
namespace Sys2Proof.Machine

variable {b c : Bay} {m : Bool} {s t : State}

/-! #### The lamp is in the mode that the cartridge and the scheduler give (R21) -/

/-- The lamp of a bay is in the mode that its cartridge and its scheduler give. -/
def LampAt (b : Bay) (s : State) : Prop := (s.bay b).cart.lampMode = lampModeOf (s.bay b).cart (s.bay b).sched

theorem lampModeOf_congr {c d : Cartridge} {x y : Sched} (hc : d.state = c.state) (hi : y.inflight = x.inflight) (hs : y.state = x.state)
    (hx : y.cause = x.cause) : lampModeOf d y = lampModeOf c x := by simp [lampModeOf, faultHalted, hc, hi, hs, hx]

theorem LampAt.congr (h : LampAt b s) (hl : (t.bay b).cart.lampMode = (s.bay b).cart.lampMode)
    (hc : (t.bay b).cart.state = (s.bay b).cart.state) (hs : (t.bay b).sched = (s.bay b).sched) : LampAt b t := by
  unfold LampAt
  rw [hl, hs]
  exact h.trans (lampModeOf_congr hc rfl rfl rfl).symm

theorem LampAt.congrOn (h : LampAt b s) (hl : (t.bay b).cart.lampMode = (s.bay b).cart.lampMode)
    (hc : (t.bay b).cart.state = (s.bay b).cart.state) (hi : (t.bay b).sched.inflight = (s.bay b).sched.inflight)
    (hs : (t.bay b).sched.state = (s.bay b).sched.state) (hx : (t.bay b).sched.cause = (s.bay b).sched.cause) : LampAt b t :=
  hl.trans (h.trans (lampModeOf_congr hc hi hs hx).symm)

theorem closeWindow_lampAt (h : LampAt b s) : LampAt b (closeWindow c s) :=
  h.congr (by simp [closeWindow]) (by simp [closeWindow]) (by simp [closeWindow])

@[simp] theorem lampUpdate_sched (s : State) (b c : Bay) : ((lampUpdate b s).bay c).sched = (s.bay c).sched := by simp [lampUpdate]

theorem lampUpdate_lampAt (b : Bay) (s : State) : LampAt b (lampUpdate b s) := by
  unfold LampAt
  rw [(lampUpdate_spec s b).2.2.2]
  exact (lampModeOf_congr (lampUpdate_spec s b).2.2.1.eqs.1 (by simp) (by simp) (by simp)).symm

theorem changeCart_lampAt (b : Bay) (f : Cartridge → Cartridge) (s : State) : LampAt b (changeCart b f s) := lampUpdate_lampAt b _

theorem changeSched_lampAt (b : Bay) (f : Sched → Sched) (s : State) : LampAt b (changeSched b f s) :=
  (lampUpdate_lampAt b (s.modSched b f)).congr (by simp [changeSched, refreshAttn]) (by simp [changeSched, refreshAttn])
    (by simp [changeSched, refreshAttn])

theorem LampAt.tellGrant (h : LampAt c s) (g : Grant) : LampAt c (tellGrant s g) := by
  have hs : ((Machine.tellGrant s g).bay c).sched = (s.bay c).sched := ((granted_tellGrant s g).bay c).sched
  rcases g with ⟨⟨b⟩ | ⟨b⟩ | ⟨b⟩, n⟩
  · exact h.congr (by simp [Machine.tellGrant]) (by simp [Machine.tellGrant]) hs
  · exact h.congr (by simp [Machine.tellGrant]) (by simp [Machine.tellGrant]) hs
  · rcases Bay.cases_eq b c with rfl | rfl
    · simp only [Machine.tellGrant, startPulse]
      split
      · exact changeCart_lampAt c _ _
      · exact h
    · exact h.congr (by simp [Machine.tellGrant]) (by simp [Machine.tellGrant]) hs

theorem LampAt.tellGrants (gs : List Grant) (h : LampAt c s) : LampAt c (tellGrants gs s) := by
  unfold Machine.tellGrants
  induction gs generalizing s with
  | nil => exact h
  | cons g gs ih => exact ih (h.tellGrant g)

theorem completeOp_lampAt (o : OpOutcome) (h : LampAt b s) : LampAt b (completeOp b o s) := by
  unfold completeOp
  split
  · exact h
  · exact changeSched_lampAt b _ _

/-- The queue alone of a scheduler is cancelled, and the cartridge stays. -/
theorem cancelQueue_lampAt (h : LampAt b s) : LampAt b (cancelQueue b s) := by
  unfold LampAt
  rw [cancelQueue_bay]
  exact h.trans (lampModeOf_congr rfl rfl rfl rfl).symm

theorem Acts.lampAt (h : Acts b m s t) (c : Bay) (hs : LampAt c s) : LampAt c t := by
  induction h with
  | refl => exact hs
  | moved _ ih => exact ih hs
  | judged _ _ ih => exact ih hs
  | ledger c l gs _ _ _ ih => exact LampAt.tellGrants gs ((ih hs).congr (by simp) (by simp) (by simp))
  | cancel _ ih =>
    rcases Bay.cases_eq b c with rfl | rfl
    · exact cancelQueue_lampAt (ih hs)
    · exact (ih hs).congr (by simp) (by simp) (by simp)
  | complete o _ ih =>
    rcases Bay.cases_eq b c with rfl | rfl
    · exact completeOp_lampAt o (ih hs)
    · exact (ih hs).congr (by simp) (by simp) (by simp)
  | fault x _ ih =>
    rcases Bay.cases_eq b c with rfl | rfl
    · exact changeSched_lampAt _ _ _
    · exact (ih hs).congr (by simp) (by simp) (by simp)
  | abandon _ _ ih =>
    rcases Bay.cases_eq b c with rfl | rfl
    · exact changeCart_lampAt _ _ _
    · exact (ih hs).congr (by simp) (by simp) (by simp)
  | lamp _ ih =>
    rcases Bay.cases_eq b c with rfl | rfl
    · exact lampUpdate_lampAt _ _
    · exact (ih hs).congr (by simp) (by simp) (by simp)
  | pulseOff _ _ ih =>
    rcases Bay.cases_eq b c with rfl | rfl
    · exact (ih hs).congr (by simp) (by simp) (by simp)
    · exact (ih hs).congr (by simp) (by simp) (by simp)
  | spin _ _ _ _ ih | pos _ _ _ ih | count _ _ ih | unqualify _ ih | dropSau _ ih | history _ _ ih | close _ ih =>
    exact (ih hs).congr (by simp [closeWindow]) (by simp [closeWindow]) (by simp [clearQualified, closeWindow])

/-! #### A bay being released is quiet (R13) -/

/-- A bay whose cartridge is being released has an empty queue and a closed window. -/
def QuietAt (b : Bay) (s : State) : Prop :=
  (s.bay b).cart.state = .releasePending ∨ (s.bay b).cart.state = .ejecting → (s.bay b).sched.queue = [] ∧ (s.bay b).gate.window = false

/-- A grant brings no cartridge into release: a pulse starts from RELEASE_PENDING. -/
theorem tellGrants_releasing (gs : List Grant) (s : State) (c : Bay)
    (h : ((tellGrants gs s).bay c).cart.state = .releasePending ∨ ((tellGrants gs s).bay c).cart.state = .ejecting) :
    (s.bay c).cart.state = .releasePending ∨ (s.bay c).cart.state = .ejecting := by
  induction gs generalizing s with
  | nil => exact h
  | cons g gs ih =>
    have h' := ih _ h
    rcases g with ⟨⟨b⟩ | ⟨b⟩ | ⟨b⟩, n⟩
    · simpa [tellGrant] using h'
    · simpa [tellGrant] using h'
    · simp only [tellGrant] at h'
      rcases Bay.cases_eq b c with rfl | rfl
      · rcases startPulse_cases c n s with e | ⟨hr, -⟩
        · rwa [e] at h'
        · exact .inl hr
      · simpa using h'

theorem QuietAt.congr (h : QuietAt b s) (hc : (t.bay b).cart.state = (s.bay b).cart.state) (hs : (t.bay b).sched.queue = (s.bay b).sched.queue)
    (hg : (t.bay b).gate.window = (s.bay b).gate.window) : QuietAt b t := by
  unfold QuietAt
  rw [hc, hs, hg]
  exact h

@[simp] theorem changeSched_cart_state (s : State) (b c : Bay) (f : Sched → Sched) :
    ((changeSched b f s).bay c).cart.state = (s.bay c).cart.state := by
  rcases Bay.cases_eq b c with rfl | rfl
  · exact (changeSched_spec s c f).2.2.2.1.eqs.1
  · simp

@[simp] theorem changeSched_gate (s : State) (b c : Bay) (f : Sched → Sched) : ((changeSched b f s).bay c).gate = (s.bay c).gate := by
  simp [changeSched, lampUpdate, refreshAttn]

@[simp] theorem completeOp_cart_state (s : State) (b c : Bay) (o : OpOutcome) :
    ((completeOp b o s).bay c).cart.state = (s.bay c).cart.state := by
  unfold completeOp
  split <;> simp [writeRecord]

@[simp] theorem completeOp_gate (s : State) (b c : Bay) (o : OpOutcome) : ((completeOp b o s).bay c).gate = (s.bay c).gate := by
  unfold completeOp
  split <;> simp [writeRecord]

@[simp] theorem completeOp_queue (s : State) (b c : Bay) (o : OpOutcome) :
    ((completeOp b o s).bay c).sched.queue = (s.bay c).sched.queue := by
  rcases Bay.cases_eq b c with rfl | rfl
  · rw [completeOp_sched, Sched.ended_queue]
  · simp

theorem faultHalt_cart_state (s : State) (b c : Bay) (x : Cause) : ((faultHalt b x s).bay c).cart.state = (s.bay c).cart.state := by
  simp [faultHalt]

theorem faultHalt_gate (s : State) (b c : Bay) (x : Cause) : ((faultHalt b x s).bay c).gate = (s.bay c).gate := by simp [faultHalt]

theorem faultHalt_queue (s : State) (b c : Bay) (x : Cause) : ((faultHalt b x s).bay c).sched.queue = (s.bay c).sched.queue := by
  rcases Bay.cases_eq b c with rfl | rfl
  · rw [faultHalt_sched]; rfl
  · simp

theorem closeWindow_window (s : State) (b : Bay) : ((closeWindow b s).bay b).gate.window = false := by simp [closeWindow]

theorem Acts.quietAt (h : Acts b m s t) (c : Bay) (hs : QuietAt c s) : QuietAt c t := by
  induction h with
  | refl => exact hs
  | moved _ ih => exact ih hs
  | judged _ _ ih => exact ih hs
  | ledger _ l gs _ _ _ ih =>
    intro hc
    have := ih hs (by simpa using tellGrants_releasing gs _ c hc)
    simpa using this
  | close _ ih =>
    rcases Bay.cases_eq b c with rfl | rfl
    · exact fun hc => ⟨by simpa [closeWindow] using (ih hs (by simpa [closeWindow] using hc)).1, closeWindow_window _ c⟩
    · exact (ih hs).congr (by simp [closeWindow]) (by simp [closeWindow]) (by simp [closeWindow])
  | cancel _ ih =>
    rcases Bay.cases_eq b c with rfl | rfl
    · intro hc
      rw [cancelQueue_bay] at hc ⊢
      exact ⟨rfl, (ih hs hc).2⟩
    · exact (ih hs).congr (by simp) (by simp) (by simp)
  | complete o _ ih => exact (ih hs).congr (by simp) (by simp) (by simp)
  | fault x _ ih => exact (ih hs).congr (faultHalt_cart_state _ _ _ _) (faultHalt_queue _ _ _ _) (by rw [faultHalt_gate])
  | abandon _ _ ih =>
    rcases Bay.cases_eq b c with rfl | rfl
    · intro hc
      rw [(changeCart_sameButLamp _).eqs.1] at hc
      simp at hc
    · exact (ih hs).congr (by simp) (by simp) (by simp)
  | lamp _ ih =>
    rcases Bay.cases_eq b c with rfl | rfl
    · exact (ih hs).congr lampUpdate_cart_state (by simp) (by simp [lampUpdate])
    · exact (ih hs).congr (by simp) (by simp) (by simp)
  | pulseOff _ _ ih =>
    rcases Bay.cases_eq b c with rfl | rfl <;> exact (ih hs).congr (by simp) (by simp) (by simp)
  | unqualify _ ih =>
    refine (ih hs).congr (by simp) (by simp [clearQualified]) ?_
    rcases Bay.cases_eq b c with rfl | rfl <;> simp [clearQualified]
  | spin _ _ _ _ ih | pos _ _ _ ih | count _ _ ih | dropSau _ ih | history _ _ ih =>
    exact (ih hs).congr (by simp) (by simp) (by simp)

end Sys2Proof.Machine
end

section
namespace Sys2Proof.Machine

variable {b c : Bay} {m : Bool} {s t : State}

/-! #### LATCH is energised at rest and under its 120 (R15, R16), no consumer waits twice (R48) -/

/-- The laws of the latch in the middle of an operation of bay `b`: with its mechanisms moved, the bay's own rest is owed. -/
structure LatchLaws (b : Bay) (m : Bool) (s : State) : Prop where
  distinct : s.ledger.Distinct
  held : ∀ c, LatchHeld c s
  other : LatchAtRest b.other s
  own : m = false → LatchAtRest b s

/-- A change that leaves the cartridges and the ledger leaves LATCH held. -/
theorem LatchLaws.congr (h : LatchLaws b m s) (hc : ∀ c, (t.bay c).cart = (s.bay c).cart) (hl : t.ledger = s.ledger)
    (ho : t.bay b.other = s.bay b.other) (hr : m = false → atRest b s = true → atRest b t = true) : LatchLaws b m t where
  distinct := by rw [hl]; exact h.distinct
  held c := (h.held c).congr (hc c) hl
  other := h.other.congr (by rw [ho]) (by rw [ho]) (by rw [ho])
  own hm hlat := hr hm (h.own hm (by rwa [hc] at hlat))

/-- A change of the cartridge to one without its LATCH keeps the laws. -/
theorem LatchLaws.unlatched (h : LatchLaws b m s) (hf : (t.bay b).cart.latch = false) (hl : t.ledger = s.ledger)
    (ho : t.bay b.other = s.bay b.other) : LatchLaws b m t where
  distinct := by rw [hl]; exact h.distinct
  held c := by
    rcases Bay.cases_eq b c with rfl | rfl
    · exact fun hlat => by simp [hf] at hlat
    · exact (h.held b.other).congr (by rw [ho]) hl
  other := h.other.congr (by rw [ho]) (by rw [ho]) (by rw [ho])
  own _ hlat := by simp [hf] at hlat

/-- A ledger that keeps what an energised LATCH has of it, with grants that are served, keeps the laws. -/
theorem LatchLaws.regranted (h : LatchLaws b m s) {l : Ledger} {gs : List Grant} (hd : l.Distinct) (hg : l.Served gs)
    (hk : ∀ c, (s.bay c).cart.latch = true → (s.bay c).cart.state = .ejecting → s.ledger.waits (.latch c) = false →
      l.hold (.latch c) = s.ledger.hold (.latch c) ∧ l.waits (.latch c) = false) :
    LatchLaws b m (tellGrants gs (s.setLedger l)) where
  distinct := by simpa using hd
  held c := by
    refine LatchHeld.tellGrants gs (fun hlat => ?_) hg
    rw [State.setLedger_bay] at hlat
    obtain ⟨h1, h2, h3, h4⟩ := h.held c hlat
    obtain ⟨k1, k2⟩ := hk c hlat h2 h4
    exact ⟨by simpa [State.hold, k1] using h1, by simpa using h2, by simpa using h3, k2⟩
  other := LatchAtRest.tellGrants gs (h.other.congr (by simp) (by simp) (by simp))
  own hm := LatchAtRest.tellGrants gs ((h.own hm).congr (by simp) (by simp) (by simp))

/-- A ledger event whose consumer holds no energised LATCH, told to its consumers, keeps the laws. -/
theorem LatchLaws.ledgerEvent (h : LatchLaws b m s) {x : Consumer} {l : Ledger} {gs : List Grant} (he : Ledger.Event x s.ledger l gs)
    (hx : ∀ c, x = .latch c → (s.bay c).cart.state = .ejecting → (s.bay c).cart.latch = false) :
    LatchLaws b m (tellGrants gs (s.setLedger l)) := by
  refine h.regranted (he.distinct h.distinct) (he.served h.distinct) fun c hlat he' hw => he.kept _ (fun hc => ?_) hw
  simp [hx c hc.symm he'] at hlat

@[simp] theorem cancelQueue_cart (s : State) (b c : Bay) : ((cancelQueue b s).bay c).cart = (s.bay c).cart := by
  rcases Bay.cases_eq b c with rfl | rfl
  · rw [cancelQueue_bay]
  · simp

@[simp] theorem cancelQueue_ledger (s : State) (b : Bay) : (cancelQueue b s).ledger = s.ledger := by
  unfold cancelQueue
  rw [(cancelAll_spec b _ _).2.2, State.modSched_ledger]

@[simp] theorem changeSched_pos (s : State) (b c : Bay) (f : Sched → Sched) : ((changeSched b f s).bay c).pos = (s.bay c).pos := by
  simp [changeSched, lampUpdate, refreshAttn]

@[simp] theorem changeSched_spin (s : State) (b c : Bay) (f : Sched → Sched) : ((changeSched b f s).bay c).spin = (s.bay c).spin := by
  simp [changeSched, lampUpdate, refreshAttn]

@[simp] theorem completeOp_pos (s : State) (b c : Bay) (o : OpOutcome) : ((completeOp b o s).bay c).pos = (s.bay c).pos := by
  unfold completeOp
  split <;> simp [writeRecord]

@[simp] theorem completeOp_spin (s : State) (b c : Bay) (o : OpOutcome) : ((completeOp b o s).bay c).spin = (s.bay c).spin := by
  unfold completeOp
  split <;> simp [writeRecord]

/-- A change of the lamp of a bay, and of what no latch law reads, keeps the laws. -/
theorem LatchLaws.lamped (h : LatchLaws b m s) (hc : (s.bay b).cart.sameButLamp (t.bay b).cart) (hl : t.ledger = s.ledger)
    (ho : t.bay b.other = s.bay b.other) (hp : (t.bay b).pos = (s.bay b).pos) (hs : (t.bay b).spin = (s.bay b).spin) :
    LatchLaws b m t where
  distinct := by rw [hl]; exact h.distinct
  held c := by
    rcases Bay.cases_eq b c with rfl | rfl
    · intro hlat
      obtain ⟨e1, e2, e3, -⟩ := hc.eqs
      have := h.held c (by rwa [e3] at hlat)
      rwa [State.hold, hl, e1, e2]
    · exact (h.held b.other).congr (by rw [ho]) hl
  other := h.other.congr (by rw [ho]) (by rw [ho]) (by rw [ho])
  own hm hlat := by
    exact (atRest_congr (by rw [hp]) (by rw [hs])).trans (h.own hm (by rwa [hc.eqs.2.2.1] at hlat))

theorem sameButLamp_refl (c : Cartridge) : c.sameButLamp c := rfl

theorem Cartridge.sameButLamp.trans {x y z : Cartridge} (h : x.sameButLamp y) (k : y.sameButLamp z) : x.sameButLamp z := by
  unfold Cartridge.sameButLamp at *
  rw [← k, ← h]

theorem changeSched_sameButLamp (s : State) (b : Bay) (f : Sched → Sched) :
    (s.bay b).cart.sameButLamp ((changeSched b f s).bay b).cart := (changeSched_spec s b f).2.2.2.1

theorem completeOp_sameButLamp (s : State) (b : Bay) (o : OpOutcome) : (s.bay b).cart.sameButLamp ((completeOp b o s).bay b).cart := by
  unfold completeOp
  split
  · exact sameButLamp_refl _
  · next op _ => simpa [writeRecord] using changeSched_sameButLamp (writeRecord b op o s) b _

theorem LatchLaws.completeOp (h : LatchLaws b m s) (o : OpOutcome) : LatchLaws b m (completeOp b o s) :=
  h.lamped (completeOp_sameButLamp s b o) (by simp) (by simp) (by simp) (by simp)

/-- The acts of an operation keep the laws of the latch. -/
theorem Acts.latchLaws (h : Acts b m s t) (hs : LatchLaws b false s) : LatchLaws b m t := by
  have keep : ∀ {m : Bool} {u v : State}, LatchLaws b m u → (∀ c, (v.bay c).cart = (u.bay c).cart) → v.ledger = u.ledger →
      v.bay b.other = u.bay b.other → (v.bay b).pos = (u.bay b).pos → (v.bay b).spin = (u.bay b).spin → LatchLaws b m v :=
    fun hu hc hl ho hp hsp => hu.congr hc hl ho fun _ hr => (atRest_congr (by rw [hp]) (by rw [hsp])).trans hr
  induction h with
  | refl => exact ⟨hs.distinct, hs.held, hs.other, fun _ => hs.own rfl⟩
  | moved _ ih => exact ⟨(ih hs).distinct, (ih hs).held, (ih hs).other, by simp⟩
  | judged _ hj ih =>
    refine ⟨(ih hs).distinct, (ih hs).held, (ih hs).other, fun _ hl => ?_⟩
    obtain ⟨-, h2, h3, -⟩ := (ih hs).held b hl
    exact hj h2 h3 hl
  | spin f _ hf _ ih =>
    exact (ih hs).congr (by simp) (by simp) (by simp) fun hm hr =>
      (atRest_iff _ b).mpr ⟨by simpa using ((atRest_iff _ b).mp hr).1, by simpa using hf hm hr⟩
  | pos f _ hf ih =>
    exact (ih hs).congr (by simp) (by simp) (by simp) fun hm hr =>
      (atRest_iff _ b).mpr ⟨by simpa using hf hm hr, by simpa using ((atRest_iff _ b).mp hr).2⟩
  | count _ _ ih | unqualify _ ih | dropSau _ ih | history _ _ ih | close _ ih =>
    exact keep (ih hs) (by simp [closeWindow]) (by simp [closeWindow, clearQualified]) (by simp [closeWindow])
      (by simp [closeWindow, clearQualified]) (by simp [closeWindow, clearQualified])
  | cancel _ ih =>
    exact keep (ih hs) (by simp) (by simp) (by simp) (by rw [cancelQueue_bay]) (by rw [cancelQueue_bay])
  | complete o _ ih => exact (ih hs).completeOp o
  | fault x _ ih =>
    exact ((ih hs).completeOp (.failed x)).lamped (changeSched_sameButLamp _ b _) (by simp [faultHalt]) (by simp [faultHalt])
      (by simp [faultHalt]) (by simp [faultHalt])
  | ledger x l gs _ he hx ih =>
    refine (ih hs).ledgerEvent he fun c hc he' => ?_
    subst hc
    rcases hx with hx | hx | ⟨hx, hlat⟩
    · cases hx
    · cases hx
    · cases hx
      exact hlat he'
  | lamp _ ih =>
    exact (ih hs).lamped (lampUpdate_spec _ b).2.2.1 (by simp) (by simp) (by simp [lampUpdate]) (by simp [lampUpdate])
  | pulseOff _ _ ih => exact (ih hs).unlatched (by simp) (by simp) (by simp)
  | abandon _ hr ih =>
    refine (ih hs).unlatched ?_ (by simp) (by simp)
    rw [(changeCart_sameButLamp _).eqs.2.2.1]
    refine Bool.eq_false_iff.mpr fun hl => ?_
    obtain ⟨-, h2, -⟩ := (ih hs).held b hl
    simp [hr] at h2

end Sys2Proof.Machine
end

section
namespace Sys2Proof.Machine

/-! ### What a command is made of

A command is a sequence of moves: operations of a bay, the few changes that only the scheduler, the cartridge events and the ledger's part-wide
events make, and changes of what the laws below do not read. `Moves due s t` says that `t` is reached from `s` by such a sequence; `due`
that a taking may be due in it (R149). -/

/-- The laws of lamp, latch, queues and takings read nothing that differs between these states. -/
structure Aside (s t : State) : Prop where
  cartState : ∀ c, (t.bay c).cart.state = (s.bay c).cart.state
  phase : ∀ c, (t.bay c).cart.phase = (s.bay c).cart.phase
  latch : ∀ c, (t.bay c).cart.latch = (s.bay c).cart.latch
  lampMode : ∀ c, (t.bay c).cart.lampMode = (s.bay c).cart.lampMode
  queue : ∀ c, (t.bay c).sched.queue = (s.bay c).sched.queue
  inflight : ∀ c, (t.bay c).sched.inflight = (s.bay c).sched.inflight
  sched : ∀ c, (t.bay c).sched.state = (s.bay c).sched.state
  cause : ∀ c, (t.bay c).sched.cause = (s.bay c).sched.cause
  window : ∀ c, (t.bay c).gate.window = (s.bay c).gate.window
  spin : ∀ c, (t.bay c).spin.state = (s.bay c).spin.state
  pos : ∀ c, (t.bay c).pos.state = (s.bay c).pos.state
  ledger : t.ledger = s.ledger

/-- A part-wide event of the ledger: a capacity or a supply state taken, the list re-examined. -/
structure Ledger.Recast (l m : Ledger) (gs : List Grant) : Prop where
  distinct : l.Distinct → m.Distinct
  served : l.Distinct → m.Served gs
  kept : ∀ d, l.waits d = false → m.hold d = l.hold d ∧ m.waits d = false

/-- The scheduler behind the taking of an operation (R149, R158). -/
def Sched.taken (op : Op) (rest : List Op) (x : Sched) : Sched :=
  if x.step then { x with queue := rest, inflight := some op, state := .halting, cause := some .step }
  else { x with queue := rest, inflight := some op }

/-- `t` comes of `s` by what commands are made of. -/
inductive Moves : Bool → State → State → Prop where
  | refl (d : Bool) (s : State) : Moves d s s
  | due {d : Bool} {s t : State} : Moves d s t → Moves true s t
  | undue {d : Bool} {s t : State} : Moves d s t → TakingsDone t → Moves false s t
  | aside {d : Bool} {s t u : State} : Moves d s t → Aside t u → Moves d s u
  | acts {d : Bool} {s t u : State} (b : Bay) : Moves d s t → Acts b false t u → Moves true s u
  | take {d : Bool} {s t : State} (b : Bay) (op : Op) (rest : List Op) : Moves d s t → mayTake (t.bay b).sched = true →
      (t.bay b).sched.queue = op :: rest → Moves true s (changeSched b (Sched.taken op rest) t)
  | accept {d : Bool} {s t : State} (b : Bay) (op : Op) : Moves d s t →
      ((t.bay b).cart.state = .seated ∨ (t.bay b).cart.state = .jammed) →
      Moves true s (t.modSched b fun x => { x with queue := x.queue ++ [op] })
  | openWindow {d : Bool} {s t : State} (b : Bay) (op : Op) (rest : List Op) : Moves d s t → mayTake (t.bay b).sched = true →
      (t.bay b).sched.queue = op :: rest →
      Moves true s ((changeSched b (Sched.taken op rest) t).modGate b fun g => { g with window := true })
  | release {d : Bool} {s t : State} (b : Bay) : Moves d s t →
      ((t.bay b).cart.state = .seated ∨ (t.bay b).cart.state = .jammed) →
      Moves true s (cancelQueue b (closeWindow b
        (changeCart b (fun c => { c with state := .releasePending, pulseCount := 0, phase := none }) t)))
  | depart {d : Bool} {s t u : State} (b : Bay) : Moves d s t → Acts b false (enterEmpty b t) u → LampAt b u → Moves true s u
  | cart {d : Bool} {s t : State} (b : Bay) (f : Cartridge → Cartridge) : Moves d s t →
      ((f (t.bay b).cart).latch = true → (t.bay b).cart.latch = true ∧
        ((t.bay b).cart.state = .ejecting → (t.bay b).cart.phase = some .pulse →
          (f (t.bay b).cart).state = .ejecting ∧ (f (t.bay b).cart).phase = some .pulse)) →
      ((f (t.bay b).cart).state = .releasePending ∨ (f (t.bay b).cart).state = .ejecting →
        (t.bay b).cart.state = .releasePending ∨ (t.bay b).cart.state = .ejecting) →
      Moves d s (changeCart b f t)
  | halt {d : Bool} {s t : State} (b : Bay) : Moves d s t → Moves d s (changeSched b Sched.halt t)
  | run {d : Bool} {s t : State} (b : Bay) (f : Sched → Sched) : Moves d s t →
      ((f (t.bay b).sched).state = .running) → (f (t.bay b).sched).queue = (t.bay b).sched.queue → Moves true s (changeSched b f t)
  | gate {d : Bool} {s t : State} (b : Bay) : Moves d s t → Moves d s (judgeGate b t)
  | recast {d : Bool} {s t : State} (l : Ledger) (gs : List Grant) : Moves d s t → Ledger.Recast t.ledger l gs →
      Moves d s (tellGrants gs (t.setLedger l))
  | reset {d : Bool} {s t : State} : Moves d s t → Moves d s (partReset t)

variable {b c : Bay} {d : Bool} {s t : State}

theorem Moves.trans {u : State} (h : Moves false s t) (k : Moves d t u) : Moves d s u := by
  induction k with
  | refl d _ => cases d <;> [exact h; exact h.due]
  | due _ ih => exact (ih h).due
  | undue _ ht ih => exact (ih h).undue ht
  | aside _ ha ih => exact (ih h).aside ha
  | acts b _ ha ih => exact (ih h).acts b ha
  | take b op rest _ hm hq ih => exact (ih h).take b op rest hm hq
  | accept b op _ hc ih => exact (ih h).accept b op hc
  | openWindow b op rest _ hm hq ih => exact (ih h).openWindow b op rest hm hq
  | release b _ hc ih => exact (ih h).release b hc
  | depart b _ ha hl ih => exact (ih h).depart b ha hl
  | cart b f _ hl hr ih => exact (ih h).cart b f hl hr
  | halt b _ ih => exact (ih h).halt b
  | run b f _ hf hq ih => exact (ih h).run b f hf hq
  | gate b _ ih => exact (ih h).gate b
  | recast l gs _ hr ih => exact (ih h).recast l gs hr
  | reset _ ih => exact (ih h).reset

/-! #### The laws along moves -/

@[simp] theorem judgeGate_bay_other (b : Bay) (s : State) : (judgeGate b s).bay b.other = s.bay b.other := by
  unfold judgeGate dropPermit latchEvent
  split
  · simp
  · split
    · dsimp only
      split <;> simp [refreshAttn, closeWindow, countBay]
    · rfl

/-- The gate worked out afresh changes the gate, the counters and the event unit alone (R117, R120). -/
theorem judgeGate_bay (b : Bay) (s : State) :
    (judgeGate b s).bay b = { s.bay b with gate := ((judgeGate b s).bay b).gate, cnt := ((judgeGate b s).bay b).cnt } := by
  unfold judgeGate dropPermit latchEvent
  split
  · cases b <;> rfl
  · split
    · dsimp only
      split <;> cases b <;> rfl
    · cases b <;> rfl

@[simp] theorem judgeGate_ledger (b : Bay) (s : State) : (judgeGate b s).ledger = s.ledger := by
  unfold judgeGate dropPermit latchEvent
  split
  · simp
  · split
    · dsimp only
      split <;> simp [refreshAttn, closeWindow, countBay]
    · rfl

@[simp] theorem judgeGate_cart (b c : Bay) (s : State) : ((judgeGate b s).bay c).cart = (s.bay c).cart := by
  rcases Bay.cases_eq b c with rfl | rfl
  · rw [judgeGate_bay]
  · simp

@[simp] theorem judgeGate_sched (b c : Bay) (s : State) : ((judgeGate b s).bay c).sched = (s.bay c).sched := by
  rcases Bay.cases_eq b c with rfl | rfl
  · rw [judgeGate_bay]
  · simp

@[simp] theorem judgeGate_spin (b c : Bay) (s : State) : ((judgeGate b s).bay c).spin = (s.bay c).spin := by
  rcases Bay.cases_eq b c with rfl | rfl
  · rw [judgeGate_bay]
  · simp

@[simp] theorem judgeGate_pos (b c : Bay) (s : State) : ((judgeGate b s).bay c).pos = (s.bay c).pos := by
  rcases Bay.cases_eq b c with rfl | rfl
  · rw [judgeGate_bay]
  · simp

/-- WPERM worked out opens no window. -/
theorem judgeGate_window (b c : Bay) (s : State) (h : (s.bay c).gate.window = false) : ((judgeGate b s).bay c).gate.window = false := by
  rcases Bay.cases_eq b c with rfl | rfl
  · unfold judgeGate dropPermit latchEvent
    split
    · simpa using h
    · split
      · dsimp only
        split <;> simp [refreshAttn, closeWindow, countBay, h]
      · exact h
  · simpa using h

theorem partReset_bay (s : State) (c : Bay) : (partReset s).bay c = .afterReset (s.bay c).pins := by cases c <;> rfl

theorem afterReset_lamp (p : BayPins) : (BayState.afterReset p).cart.lampMode = lampModeOf (BayState.afterReset p).cart (BayState.afterReset p).sched := by
  rcases p with ⟨_ | _, btn, park, wgate⟩ <;> rfl

/-- R155: a HALTED scheduler is idle. -/
theorem Moves.haltedIdle (h : Moves d s t) (hs : HaltedIdle s) : HaltedIdle t := by
  have change : ∀ {u : State} (b : Bay) (f : Sched → Sched), HaltedIdle u →
      ((f (u.bay b).sched).state = .halted → (f (u.bay b).sched).inflight = none) → HaltedIdle (changeSched b f u) := by
    intro u b f hu hf c
    rcases Bay.cases_eq b c with rfl | rfl
    · rw [(changeSched_spec u c f).1]; exact hf
    · rw [changeSched_bay_other]; exact hu b.other
  have taking : ∀ {u : State} (b : Bay) (op : Op) (rest : List Op), mayTake (u.bay b).sched = true →
      ((u.bay b).sched.taken op rest).state = .halted → ((u.bay b).sched.taken op rest).inflight = none := by
    intro u b op rest hm hh
    simp only [mayTake, Bool.and_eq_true, decide_eq_true_eq] at hm
    unfold Sched.taken at hh
    split at hh <;> simp [hm.1] at hh
  induction h with
  | refl => exact hs
  | due _ ih | undue _ _ ih => exact ih hs
  | aside _ ha ih => intro c; rw [ha.sched, ha.inflight]; exact ih hs c
  | acts b _ ha ih => exact ha.haltedIdle (ih hs)
  | take b op rest _ hm _ ih => exact change b _ (ih hs) (taking b op rest hm)
  | openWindow b op rest _ hm _ ih =>
    intro c
    simpa only [State.modGate_sched] using change b _ (ih hs) (taking b op rest hm) c
  | accept b op _ _ ih =>
    intro c
    rcases Bay.cases_eq b c with rfl | rfl
    · simpa using ih hs c
    · simpa using ih hs b.other
  | release b _ _ ih =>
    intro c
    rcases Bay.cases_eq b c with rfl | rfl
    · simpa [cancelQueue_sched, closeWindow, changeCart] using ih hs c
    · simpa [closeWindow] using ih hs b.other
  | depart b _ ha _ ih =>
    refine ha.haltedIdle fun c => ?_
    rcases Bay.cases_eq b c with rfl | rfl
    · simpa [enterEmpty, cancelQueue_sched, closeWindow, latchEvent, refreshAttn] using ih hs c
    · simpa [enterEmpty, closeWindow, latchEvent, refreshAttn] using ih hs b.other
  | cart b f _ _ _ ih => intro c; simpa [changeCart] using ih hs c
  | halt b _ ih =>
    refine change b _ (ih hs) fun hh => ?_
    unfold Sched.halt at hh ⊢
    split at hh
    · split at hh
      · simp at hh
      · next hi => rwa [if_neg hi, Bool.not_eq_true, Option.isSome_eq_false_iff, Option.isNone_iff_eq_none] at *
    · next hx => simp [hx] at hh
    · next hx => simpa [hx] using ih hs b hx
  | run b f _ hf _ ih => exact change b f (ih hs) fun hh => by simp [hf] at hh
  | gate b _ ih => intro c; simpa using ih hs c
  | recast l gs _ _ ih => intro c; simpa using ih hs c
  | reset _ ih => intro c; rw [partReset_bay]; exact fun hh => by cases hh

/-- R21: the lamp is in its mode. -/
theorem Moves.lampExact (h : Moves d s t) (hs : LampExact s) : LampExact t := by
  induction h with
  | refl => exact hs
  | due _ ih | undue _ _ ih => exact ih hs
  | aside _ ha ih =>
    intro c
    rw [ha.lampMode, lampModeOf_congr (ha.cartState c) (ha.inflight c) (ha.sched c) (ha.cause c)]
    exact ih hs c
  | acts b _ ha ih => exact fun c => ha.lampAt c (ih hs c)
  | take b _ _ _ _ _ ih | halt b _ ih | run b _ _ _ _ ih =>
    intro c
    rcases Bay.cases_eq b c with rfl | rfl
    · exact changeSched_lampAt c _ _
    · exact LampAt.congr (ih hs b.other) (by simp) (by simp) (by simp)
  | accept b op _ _ ih =>
    intro c
    rcases Bay.cases_eq b c with rfl | rfl
    · exact LampAt.congrOn (ih hs c) (by simp) (by simp) (by simp) (by simp) (by simp)
    · exact LampAt.congr (ih hs b.other) (by simp) (by simp) (by simp)
  | @openWindow _ _ u b op rest _ _ _ ih =>
    intro c
    rcases Bay.cases_eq b c with rfl | rfl
    · exact (changeSched_lampAt c (Sched.taken op rest) u).congr (by simp) (by simp) (by simp)
    · exact LampAt.congr (ih hs b.other) (by simp) (by simp) (by simp)
  | release b _ _ ih =>
    intro c
    rcases Bay.cases_eq b c with rfl | rfl
    · exact cancelQueue_lampAt (closeWindow_lampAt (changeCart_lampAt c _ _))
    · exact LampAt.congr (ih hs b.other) (by simp [closeWindow]) (by simp [closeWindow]) (by simp [closeWindow])
  | depart b _ ha hl ih =>
    intro c
    rcases Bay.cases_eq b c with rfl | rfl
    · exact hl
    · refine ha.lampAt b.other (LampAt.congr (ih hs b.other) ?_ ?_ ?_) <;> simp [enterEmpty, closeWindow, latchEvent, refreshAttn]
  | cart b f _ _ _ ih =>
    intro c
    rcases Bay.cases_eq b c with rfl | rfl
    · exact changeCart_lampAt c _ _
    · exact LampAt.congr (ih hs b.other) (by simp) (by simp) (by simp)
  | gate b _ ih => exact fun c => LampAt.congr (ih hs c) (by simp) (by simp) (by simp)
  | recast l gs _ _ ih => exact fun c => LampAt.tellGrants gs (LampAt.congr (ih hs c) (by simp) (by simp) (by simp))
  | reset _ ih =>
    intro c
    rw [partReset_bay]
    exact afterReset_lamp _

/-- R13: a bay being released is quiet. -/
theorem Moves.releaseQuiet (h : Moves d s t) (hs : ReleaseQuiet s) : ReleaseQuiet t := by
  induction h with
  | refl => exact hs
  | due _ ih | undue _ _ ih => exact ih hs
  | aside _ ha ih => exact fun c => QuietAt.congr (ih hs c) (ha.cartState c) (ha.queue c) (ha.window c)
  | acts b _ ha ih => exact fun c => ha.quietAt c (ih hs c)
  | take b op rest _ _ hq ih =>
    intro c hc
    rcases Bay.cases_eq b c with rfl | rfl
    · have := (ih hs c (by simpa using hc)).1
      simp [hq] at this
    · simpa using ih hs b.other (by simpa using hc)
  | accept b op _ hg ih =>
    intro c hc
    rcases Bay.cases_eq b c with rfl | rfl
    · rcases hg with hg | hg <;> simp [hg] at hc
    · simpa using ih hs b.other (by simpa using hc)
  | openWindow b op rest _ _ hq ih =>
    intro c hc
    rcases Bay.cases_eq b c with rfl | rfl
    · have := (ih hs c (by simpa using hc)).1
      simp [hq] at this
    · simpa using ih hs b.other (by simpa using hc)
  | release b _ _ ih =>
    intro c hc
    rcases Bay.cases_eq b c with rfl | rfl
    · rw [cancelQueue_bay]
      exact ⟨rfl, closeWindow_window _ c⟩
    · simpa [closeWindow] using ih hs b.other (by simpa [closeWindow] using hc)
  | depart b _ ha _ ih =>
    refine fun c => ha.quietAt c fun hc => ?_
    rcases Bay.cases_eq b c with rfl | rfl
    · simp [enterEmpty, closeWindow, latchEvent, refreshAttn] at hc
    · have := ih hs b.other (by simpa [enterEmpty, closeWindow, latchEvent, refreshAttn] using hc)
      simpa [enterEmpty, closeWindow, latchEvent, refreshAttn] using this
  | cart b f _ _ hf ih =>
    intro c hc
    rcases Bay.cases_eq b c with rfl | rfl
    · rw [(changeCart_sameButLamp _).eqs.1] at hc
      simpa [changeCart, lampUpdate] using ih hs c (hf hc)
    · simpa using ih hs b.other (by simpa using hc)
  | halt b _ ih =>
    intro c hc
    have := ih hs c (by simpa using hc)
    rcases Bay.cases_eq b c with rfl | rfl
    · rw [(changeSched_spec _ c _).1, changeSched_gate]
      refine ⟨?_, this.2⟩
      unfold Sched.halt
      split
      · split <;> exact this.1
      · exact this.1
      · exact this.1
    · simpa using this
  | run b f _ _ hq ih =>
    intro c hc
    have := ih hs c (by simpa using hc)
    rcases Bay.cases_eq b c with rfl | rfl
    · rw [(changeSched_spec _ c _).1, changeSched_gate, hq]
      exact this
    · simpa using this
  | gate b _ ih =>
    intro c hc
    have := ih hs c (by simpa using hc)
    exact ⟨by simpa using this.1, judgeGate_window b c _ this.2⟩
  | recast l gs _ _ ih =>
    intro c hc
    simpa using ih hs c (by simpa using tellGrants_releasing gs _ c hc)
  | reset _ ih =>
    intro c _
    rw [partReset_bay]
    exact ⟨rfl, rfl⟩

/-- R149: behind moves that leave no taking due, none is due. -/
theorem Moves.takingsDone (h : Moves d s t) (hd : d = false) (hs : TakingsDone s) : TakingsDone t := by
  have keep : ∀ {u v : State}, TakingsDone u → (∀ c, mayTake (v.bay c).sched = true → mayTake (u.bay c).sched = true) →
      (∀ c, (v.bay c).sched.queue = (u.bay c).sched.queue) → TakingsDone v := fun hu hm hq c hc => (hq c).trans (hu c (hm c hc))
  induction h with
  | refl => exact hs
  | undue _ ht _ => exact ht
  | due | acts | take | accept | openWindow | release | depart | run => cases hd
  | aside _ ha ih => exact keep (ih hd hs) (fun c => by simp [mayTake, ha.sched, ha.inflight]) ha.queue
  | cart b f _ _ _ ih => exact keep (ih hd hs) (fun c => by simp [changeCart]) (fun c => by simp [changeCart])
  | halt b _ ih =>
    refine keep (ih hd hs) (fun c => ?_) fun c => ?_
    all_goals
      rcases Bay.cases_eq b c with rfl | rfl
      case inr => simp
      rw [(changeSched_spec _ c _).1]
      unfold Sched.halt
    · split
      · split <;> simp [mayTake]
      · next hx => simp [mayTake, hx]
      · exact id
    · split
      · split <;> rfl
      · rfl
      · rfl
  | gate b _ ih => exact keep (ih hd hs) (fun c => by simp) (fun c => by simp)
  | recast l gs _ _ ih => exact keep (ih hd hs) (fun c => by simp) (fun c => by simp)
  | reset _ ih =>
    intro c _
    rw [partReset_bay]
    rfl

/-- The laws of the latch between operations are those of an operation of either bay. -/
theorem latchLaws_iff (b : Bay) : LatchSafe s ∧ WaitDistinct s ↔ LatchLaws b false s := by
  rw [latchSafe_iff]
  constructor
  · exact fun ⟨hl, hw⟩ => ⟨hw, fun c => (hl c).1, (hl b.other).2, fun _ => (hl b).2⟩
  · refine fun h => ⟨fun c => ⟨h.held c, ?_⟩, h.distinct⟩
    rcases Bay.cases_eq b c with rfl | rfl
    · exact h.own rfl
    · exact h.other

/-- R15, R16, R48: the laws of the latch. -/
theorem Moves.latchSafe (h : Moves d s t) (hs : LatchSafe s ∧ WaitDistinct s) : LatchSafe t ∧ WaitDistinct t := by
  induction h with
  | refl => exact hs
  | due _ ih | undue _ _ ih => exact ih hs
  | @aside d s t u _ ha ih =>
    obtain ⟨hl, hw⟩ := ih hs
    refine ⟨fun c hc => ?_, by rw [WaitDistinct, ha.ledger]; exact hw⟩
    rw [atRest_congr (ha.pos c) (ha.spin c), State.hold, ha.ledger, ha.cartState, ha.phase]
    exact hl c (by rwa [ha.latch] at hc)
  | acts b _ ha ih => exact (latchLaws_iff b).mpr (ha.latchLaws ((latchLaws_iff b).mp (ih hs)))
  | take b op rest _ _ _ ih | halt b _ ih | run b _ _ _ _ ih =>
    exact (latchLaws_iff b).mpr (((latchLaws_iff b).mp (ih hs)).lamped (changeSched_sameButLamp _ b _) (by simp) (by simp) (by simp) (by simp))
  | accept b op _ _ ih =>
    exact (latchLaws_iff b).mpr (((latchLaws_iff b).mp (ih hs)).lamped (by simpa using sameButLamp_refl _) (by simp) (by simp) (by simp) (by simp))
  | openWindow b op rest _ _ _ ih =>
    exact (latchLaws_iff b).mpr (((latchLaws_iff b).mp (ih hs)).lamped
      (by simpa using changeSched_sameButLamp _ b (Sched.taken op rest)) (by simp) (by simp) (by simp) (by simp))
  | gate b _ ih =>
    exact (latchLaws_iff b).mpr (((latchLaws_iff b).mp (ih hs)).lamped (by simpa using sameButLamp_refl _) (by simp) (by simp) (by simp) (by simp))
  | release b _ hg ih =>
    have hb := (latchLaws_iff b).mp (ih hs)
    refine (latchLaws_iff b).mpr (hb.unlatched ?_ (by simp [closeWindow]) (by simp [closeWindow]))
    rw [cancelQueue_cart, closeWindow, State.modGate_cart, (changeCart_sameButLamp _).eqs.2.2.1]
    refine Bool.eq_false_iff.mpr fun hl => ?_
    obtain ⟨-, h2, -⟩ := hb.held b hl
    simp [h2] at hg
  | depart b _ ha _ ih =>
    refine (latchLaws_iff b).mpr (ha.latchLaws (((latchLaws_iff b).mp (ih hs)).unlatched ?_ ?_ ?_)) <;>
      simp [enterEmpty, closeWindow, latchEvent, refreshAttn]
  | cart b f _ hf _ ih =>
    have hb := (latchLaws_iff b).mp (ih hs)
    refine (latchLaws_iff b).mpr ⟨by simpa using hb.distinct, fun c => ?_, ?_, fun _ hl => ?_⟩
    · rcases Bay.cases_eq b c with rfl | rfl
      · intro hl
        obtain ⟨e1, e2, e3, -⟩ := (changeCart_sameButLamp (s := _) (b := c) f).eqs
        rw [e3] at hl
        obtain ⟨k1, k2⟩ := hf hl
        obtain ⟨h1, h2, h3, h4⟩ := hb.held c k1
        rw [e1, e2, State.hold, changeCart_ledger]
        exact ⟨h1, (k2 h2 h3).1, (k2 h2 h3).2, h4⟩
      · exact (hb.held b.other).congr (by simp) (by simp)
    · exact hb.other.congr (by simp) (by simp) (by simp)
    · rw [(changeCart_sameButLamp _).eqs.2.2.1] at hl
      refine (atRest_congr ?_ ?_).trans (hb.own rfl (hf hl).1) <;> simp [changeCart, lampUpdate]
  | recast l gs _ hr ih =>
    have hb := (latchLaws_iff .A).mp (ih hs)
    exact (latchLaws_iff .A).mpr (hb.regranted (hr.distinct hb.distinct) (hr.served hb.distinct) fun c _ _ hw => hr.kept _ hw)
  | reset _ ih =>
    refine ⟨fun c hc => ?_, List.nodup_nil⟩
    rw [partReset_bay] at hc
    cases hc

end Sys2Proof.Machine
end

section
namespace Sys2Proof.Machine

variable {b c : Bay} {d m : Bool} {s t u : State}

/-! ### Every command is moves -/

/-! #### Operations as acts -/

theorem Acts.orderToRest (h : Acts b m s t) : Acts b m s (orderToRest b t) := by
  have headsFirst : Acts b m s (if (t.bay b).pos.state.loaded then Machine.unloadOrder b t else t) := by
    split
    · exact h.unloadOrder
    · exact h
  have platterSecond : ∀ (p : Bool) u, Acts b m s u → Acts b m s (if p then Machine.brakeOrder b u else u) := by
    intro p u hu
    split
    · exact hu.brakeOrder
    · exact hu
  exact (platterSecond _ _ headsFirst).judgeLatch

theorem Acts.stopForRelease (h : Acts b m s t) : Acts b m s (stopForRelease b t) := h.cancelSpinUp.stopByUnload

theorem Acts.dropLatch (h : Acts b m s t) (hl : (t.bay b).cart.state ≠ .ejecting) : Acts b m s (dropLatch b t) :=
  (h.ledger (.latch b) _ _ (Ledger.event_lower _ 0 _) (.inr (.inr ⟨rfl, fun he => absurd he hl⟩))).withdraw _

theorem Acts.abortBay (h : Acts b m s t) : Acts b m s (abortBay b t) := h.cancel.cancelSpinUp.abortPositioner

theorem Acts.stopForReset (h : Acts b m s t) : Acts b m s (stopForReset b t) := h.close.cancel.cancelSpinUp.stopByUnload

theorem Acts.resetSpindle (h : Acts b m s t) : Acts b m s (resetSpindle b t) := by
  unfold Machine.resetSpindle
  split
  · exact h.spinKeep _ rfl rfl
  · exact (h.enterBraking _).weaken
  all_goals exact h.brakeOrder

theorem Acts.resetPositioner (h : Acts b m s t) : Acts b m s (resetPositioner b t) := by
  unfold Machine.resetPositioner
  dsimp only
  refine Acts.posKeep ?_ _ rfl
  split
  · exact h.enterRetracting.weaken
  · exact h.unloadOrder

theorem Acts.beginSeek (h : Acts b m s t) (track head : Nat) : Acts b m s (beginSeek b track head t) :=
  (h.posKeep _ rfl).ask _ (.inr rfl)

/-- R150: an operation other than OPEN WRITE and EJECT starts with acts of its bay. -/
theorem Acts.startOp (h : Acts b m s t) {k : OpKind} (hw : k ≠ .openWrite) (he : k ≠ .eject) : Acts b m s (startOp b k t) := by
  cases k with
  | spinUp =>
    simp only [Machine.startOp, takeSpinUp]
    split
    · exact h.complete _
    · split
      · exact h.beginAttempt.weaken
      · exact h.complete _
      · exact h.complete _
      · exact h.spinKeep _ rfl rfl
      · exact h.raiseFatal _
      all_goals exact h
  | spinDown =>
    have hu : Acts b m s (if ((closeWindow b t).bay b).pos.state.loaded then Machine.unloadOrder b (closeWindow b t) else closeWindow b t) := by
      split
      · exact h.close.unloadOrder
      · exact h.close
    simp only [Machine.startOp, takeSpinDown]
    split
    · exact h.close.complete _
    · exact h.close.complete _
    · exact h.close
    all_goals exact hu.brakeOrder
  | loadHeads =>
    simp only [Machine.startOp, takeLoadHeads]
    split
    case h_9 =>
      split
      · exact (h.posKeep _ rfl).ask _ (.inr rfl)
      · exact h.complete _
    all_goals exact h.complete _
  | unloadHeads =>
    simp only [Machine.startOp, takeUnloadHeads]
    split
    · exact h.close.complete _
    · exact h.close.complete _
    · exact h.close
    · exact h.close
    all_goals exact h.close.unloadOrder
  | seek track head =>
    simp only [Machine.startOp, takeSeek]
    split
    · split
      · exact h.close.complete _
      · exact h.close.beginSeek _ _
    · split
      · exact h.close.posKeep _ rfl
      · exact h.close.beginSeek _ _
    all_goals exact h.close.complete _
  | openWrite => exact absurd rfl hw
  | closeWrite => exact h.close.complete _
  | eject => exact absurd rfl he

/-! #### Takings and the end of an event -/

namespace Moves

theorem acceptRelease (h : Moves d s t) (hc : (t.bay b).cart.state = .seated ∨ (t.bay b).cart.state = .jammed) :
    Moves true s (acceptRelease b t) := (h.release b hc).acts b (Acts.refl false _).stopForRelease.orderToRest

theorem requestRelease (h : Moves d s t) : Moves true s (requestRelease b t) := by
  unfold Machine.requestRelease
  split
  · next hc => exact h.acceptRelease (.inl hc)
  · next hc => exact h.acceptRelease (.inr hc)
  all_goals exact h.due

/-- R149, R150: a taking, with what the operation does at it. -/
theorem takeHead (h : Moves d s t) {op : Op} {rest : List Op} (hm : mayTake (t.bay b).sched = true)
    (hq : (t.bay b).sched.queue = op :: rest) : Moves true s (takeHead b op rest t) := by
  have ht : Moves true s (changeSched b (Sched.taken op rest) t) := h.take b op rest hm hq
  change Moves true s (Machine.startOp b op.kind (changeSched b (Sched.taken op rest) t))
  by_cases hw : op.kind = .openWrite
  · rw [hw]
    simp only [Machine.startOp, takeOpenWrite]
    split
    · exact ht.acts b ((Acts.refl false _).complete _)
    · split
      · exact (h.openWindow b op rest hm hq).acts b ((Acts.refl false _).complete _)
      · exact ht.acts b ((Acts.refl false _).complete _)
  · by_cases he : op.kind = .eject
    · rw [he]
      exact ht.requestRelease
    · exact ht.acts b ((Acts.refl false _).startOp hw he)

theorem judgeGates (h : Moves d s t) : Moves d s (judgeGates t) := (h.gate .A).gate .B

theorem takeRun (n : Nat) (h : Moves d s t) : Moves true s (takeRun b n t) := by
  induction n generalizing t d with
  | zero => exact h.due
  | succ n ih =>
    unfold Machine.takeRun
    split
    · next hm =>
      split
      · exact h.due
      · next op rest hq => exact ih (h.takeHead hm hq).judgeGates
    · exact h.due

end Moves

/-! #### No taking stays due at the end of an event (R149) -/

/-- The shared operations of a bay leave the other bay's scheduler, and make no queue longer. -/
structure QueueShrinks (b : Bay) (s t : State) : Prop where
  other : (t.bay b.other).sched = (s.bay b.other).sched
  own : (t.bay b).sched.queue = (s.bay b).sched.queue ∨ (t.bay b).sched.queue = []

theorem Acts.queueShrinks (h : Acts b m s t) : QueueShrinks b s t := ⟨h.other_kept.1, h.sched_acted.queue⟩

theorem QueueShrinks.trans (h : QueueShrinks b s t) (k : QueueShrinks b t u) : QueueShrinks b s u := by
  refine ⟨k.other.trans h.other, ?_⟩
  rcases k.own with e | e
  · rw [e]; exact h.own
  · exact .inr e

theorem acceptRelease_queueShrinks (b : Bay) (s : State) : QueueShrinks b s (acceptRelease b s) := by
  refine QueueShrinks.trans ⟨?_, .inr ?_⟩ (Acts.refl false _).stopForRelease.orderToRest.queueShrinks
  · simp [closeWindow]
  · rw [cancelQueue_sched]

theorem startOp_queueShrinks (b : Bay) (k : OpKind) (s : State) : QueueShrinks b s (startOp b k s) := by
  by_cases hw : k = .openWrite
  · subst hw
    simp only [startOp, takeOpenWrite]
    split
    · exact ((Acts.refl false _).complete _).queueShrinks
    · split
      · exact QueueShrinks.trans ⟨by simp, by simp⟩ ((Acts.refl false _).complete _).queueShrinks
      · exact ((Acts.refl false _).complete _).queueShrinks
  · by_cases he : k = .eject
    · subst he
      simp only [startOp, takeEject, requestRelease]
      split
      · exact acceptRelease_queueShrinks b s
      · exact acceptRelease_queueShrinks b s
      all_goals exact ⟨rfl, .inl rfl⟩
    · exact ((Acts.refl false _).startOp hw he).queueShrinks

/-- A taking leaves the other bay's scheduler, and of its own queue the rest or nothing. -/
theorem takeHead_queue (b : Bay) (op : Op) (rest : List Op) (s : State) :
    ((takeHead b op rest s).bay b.other).sched = (s.bay b.other).sched ∧
      (((takeHead b op rest s).bay b).sched.queue = rest ∨ ((takeHead b op rest s).bay b).sched.queue = []) := by
  obtain ⟨h1, h2⟩ := startOp_queueShrinks b op.kind (changeSched b (Sched.taken op rest) s)
  have hq : ((changeSched b (Sched.taken op rest) s).bay b).sched.queue = rest := by
    rw [(changeSched_spec s b _).1]
    unfold Sched.taken
    split <;> rfl
  rw [hq] at h2
  exact ⟨h1.trans (by simp), h2⟩

@[simp] theorem judgeGates_sched (s : State) (c : Bay) : ((judgeGates s).bay c).sched = (s.bay c).sched := by simp [judgeGates]

/-- R149: with as many takings as operations queued, none is due; the other bay's scheduler stays. -/
theorem takeRun_spec (b : Bay) (n : Nat) :
    ∀ s : State, (s.bay b).sched.queue.length ≤ n →
      (mayTake ((takeRun b n s).bay b).sched = true → ((takeRun b n s).bay b).sched.queue = []) ∧
        ((takeRun b n s).bay b.other).sched = (s.bay b.other).sched := by
  induction n with
  | zero => intro s hn; exact ⟨fun _ => List.eq_nil_of_length_eq_zero (Nat.le_zero.mp hn), rfl⟩
  | succ n ih =>
    intro s hn
    unfold takeRun
    split
    · split
      · next hq => exact ⟨fun _ => hq, rfl⟩
      · next op rest hq =>
        obtain ⟨h1, h2⟩ := takeHead_queue b op rest s
        have hlen : ((judgeGates (takeHead b op rest s)).bay b).sched.queue.length ≤ n := by
          simp only [judgeGates_sched]
          simp only [hq, List.length_cons] at hn
          rcases h2 with e | e
          · rw [e]; omega
          · rw [e]; exact Nat.zero_le n
        obtain ⟨k1, k2⟩ := ih _ hlen
        exact ⟨k1, k2.trans (by simpa using h1)⟩
    · next hm => exact ⟨fun h => absurd h hm, rfl⟩

theorem judgeTaking_spec (b : Bay) (s : State) :
    (mayTake ((judgeTaking b s).bay b).sched = true → ((judgeTaking b s).bay b).sched.queue = []) ∧
      ((judgeTaking b s).bay b.other).sched = (s.bay b.other).sched := takeRun_spec b _ s le_rfl

/-- R149: an event that is settled leaves no taking due. -/
theorem settle_takingsDone (s : State) : TakingsDone (settle s) := by
  obtain ⟨hA, -⟩ := judgeTaking_spec .A (judgeGates s)
  obtain ⟨hB, hB'⟩ := judgeTaking_spec .B (judgeTaking .A (judgeGates s))
  intro c
  cases c
  · have : ((settle s).bay .A).sched = ((judgeTaking .A (judgeGates s)).bay .A).sched := hB'
    rw [this]
    exact hA
  · exact hB

theorem Moves.settle (h : Moves d s t) : Moves false s (settle t) :=
  (h.judgeGates.takeRun _ |>.takeRun _).undue (settle_takingsDone t)

end Sys2Proof.Machine
end

section
namespace Sys2Proof.Machine

variable {b : Bay} {d : Bool} {s t u : State}

/-! #### Changes beside the laws -/

theorem Aside.of_bay (h : ∀ c, u.bay c = t.bay c) (hl : u.ledger = t.ledger) : Aside t u := by
  constructor <;> simp [h, hl]

/-- A change of one bay's blocks that leaves what the laws read of it. -/
theorem Aside.setBay {x : BayState} (hc : x.cart.state = (t.bay b).cart.state) (hp : x.cart.phase = (t.bay b).cart.phase)
    (hl : x.cart.latch = (t.bay b).cart.latch) (hm : x.cart.lampMode = (t.bay b).cart.lampMode)
    (hq : x.sched.queue = (t.bay b).sched.queue) (hi : x.sched.inflight = (t.bay b).sched.inflight)
    (hs : x.sched.state = (t.bay b).sched.state) (hx : x.sched.cause = (t.bay b).sched.cause)
    (hw : x.gate.window = (t.bay b).gate.window) (hsp : x.spin.state = (t.bay b).spin.state)
    (hps : x.pos.state = (t.bay b).pos.state) : Aside t (t.setBay b x) := by
  constructor
  case ledger => simp
  all_goals
    intro c
    rcases Bay.cases_eq b c with rfl | rfl <;> simp [*]

namespace Moves

theorem ofBay (h : Moves d s t) (hb : ∀ c, u.bay c = t.bay c) (hl : u.ledger = t.ledger) : Moves d s u := h.aside (.of_bay hb hl)

theorem modLink (h : Moves d s t) (f : Link → Link) : Moves d s (t.modLink f) := h.ofBay (by simp) (by simp)

theorem modSense (h : Moves d s t) (f : Sense → Sense) : Moves d s (t.modSense f) := h.ofBay (by simp) (by simp)

theorem modStore (h : Moves d s t) (f : Store → Store) : Moves d s (t.modStore f) := h.ofBay (by simp) (by simp)

theorem setSupply (h : Moves d s t) (x : Supply) : Moves d s (t.setSupply x) := h.ofBay (by simp) (by simp)

theorem setSau (h : Moves d s t) (x : Option Computation) : Moves d s (t.setSau x) := h.ofBay (by simp) (by simp)

theorem countPart (h : Moves d s t) (f : PartCounters → PartCounters) : Moves d s (countPart f t) := h.ofBay (by simp [Machine.countPart]) rfl

theorem latchEvent (h : Moves d s t) (c : LatchedClass) : Moves d s (latchEvent c t) :=
  h.ofBay (by simp [Machine.latchEvent, refreshAttn]) rfl

theorem reply (h : Moves d s t) (kind : Nat) (code bay : Byte) (payload : List Byte) : Moves d s (reply kind code bay payload t) := h.modLink _

theorem done (h : Moves d s t) (code bay : Byte) (payload : List Byte) : Moves d s (done code bay payload t) := h.reply 1 _ _ _

theorem modPins (h : Moves d s t) (b : Bay) (f : BayPins → BayPins) : Moves d s (t.modPins b f) :=
  h.aside (.setBay rfl rfl rfl rfl rfl rfl rfl rfl rfl rfl rfl)

theorem modCnt (h : Moves d s t) (b : Bay) (f : BayCounters → BayCounters) : Moves d s (t.modCnt b f) :=
  h.aside (.setBay rfl rfl rfl rfl rfl rfl rfl rfl rfl rfl rfl)

theorem modMon (h : Moves d s t) (b : Bay) (f : Monitor → Monitor) : Moves d s (t.modMon b f) :=
  h.aside (.setBay rfl rfl rfl rfl rfl rfl rfl rfl rfl rfl rfl)

theorem modDemod (h : Moves d s t) (b : Bay) (f : Demod → Demod) : Moves d s (t.modDemod b f) :=
  h.aside (.setBay rfl rfl rfl rfl rfl rfl rfl rfl rfl rfl rfl)

theorem modSlot (h : Moves d s t) (b : Bay) (f : Option Report → Option Report) : Moves d s (t.modSlot b f) :=
  h.aside (.setBay rfl rfl rfl rfl rfl rfl rfl rfl rfl rfl rfl)

theorem modServo (h : Moves d s t) (b : Bay) (f : Servo → Servo) : Moves d s (t.modServo b f) :=
  h.aside (.setBay rfl rfl rfl rfl rfl rfl rfl rfl rfl rfl rfl)

theorem modGains (h : Moves d s t) (b : Bay) (f : Gains → Gains) : Moves d s (t.modGains b f) :=
  h.aside (.setBay rfl rfl rfl rfl rfl rfl rfl rfl rfl rfl rfl)

theorem modGate (h : Moves d s t) (b : Bay) (f : Gate → Gate) (hf : (f (t.bay b).gate).window = (t.bay b).gate.window) :
    Moves d s (t.modGate b f) := h.aside (.setBay rfl rfl rfl rfl rfl rfl rfl rfl hf rfl rfl)

theorem modSpin (h : Moves d s t) (b : Bay) (f : Spindle → Spindle) (hf : (f (t.bay b).spin).state = (t.bay b).spin.state) :
    Moves d s (t.modSpin b f) := h.aside (.setBay rfl rfl rfl rfl rfl rfl rfl rfl rfl hf rfl)

theorem modPos (h : Moves d s t) (b : Bay) (f : Positioner → Positioner) (hf : (f (t.bay b).pos).state = (t.bay b).pos.state) :
    Moves d s (t.modPos b f) := h.aside (.setBay rfl rfl rfl rfl rfl rfl rfl rfl rfl rfl hf)

/-- A change of the cartridge that the lamp and the latch do not read. -/
theorem modCart (h : Moves d s t) (b : Bay) (f : Cartridge → Cartridge) (hs : (f (t.bay b).cart).state = (t.bay b).cart.state)
    (hp : (f (t.bay b).cart).phase = (t.bay b).cart.phase) (hl : (f (t.bay b).cart).latch = (t.bay b).cart.latch)
    (hm : (f (t.bay b).cart).lampMode = (t.bay b).cart.lampMode) : Moves d s (t.modCart b f) :=
  h.aside (.setBay hs hp hl hm rfl rfl rfl rfl rfl rfl rfl)

theorem refuseRecording (h : Moves d s t) (code bay : Byte) (r : RefusalRecord) : Moves d s (refuseRecording code bay r t) :=
  h.ofBay (by simp [Machine.refuseRecording, Machine.reply, Machine.countPart]) rfl

theorem refuse (h : Moves d s t) (code bay : Byte) (r : Reason) : Moves d s (refuse code bay r t) := h.refuseRecording _ _ _

/-! #### Requests -/

theorem requestOp (h : Moves false s t) (b : Bay) (k : OpKind) : Moves false s (requestOp b k t) := by
  unfold Machine.requestOp
  split
  · exact h.refuse _ _ _
  · next hr =>
    have hc : (t.bay b).cart.state = .seated ∨ (t.bay b).cart.state = .jammed := by
      unfold opRefusal at hr
      split at hr
      · cases hr
      · split at hr
        · cases hr
        · next hn =>
          cases hs : (t.bay b).cart.state <;> simp [hs, cartRefusal] at hn ⊢
    unfold acceptOp queued advanceTag
    exact (((h.accept b ⟨t.nextTag, k⟩ hc).ofBay (by simp) (by simp)).reply _ _ _ _).settle

theorem requestBayReset (h : Moves false s t) (b : Bay) : Moves false s (requestBayReset b t) := by
  have hs := (h.acts b (Acts.refl false _).stopForReset).run b (fun x => { x with state := .running, cause := none, step := false }) rfl rfl
  have hc : Moves true s (resetCartridge b (changeSched b (fun x => { x with state := .running, cause := none, step := false })
      (stopForReset b t))) := by
    refine hs.cart b _ (fun hl => ?_) (fun hr => ?_)
    · split at hl
      · next hj => exact ⟨hl, fun he => by simp [hj] at he⟩
      · next hj =>
        rw [if_neg hj]
        exact ⟨hl, fun he hp => ⟨he, hp⟩⟩
    · split at hr
      · simp at hr
      · exact hr
  unfold Machine.requestBayReset
  dsimp only
  exact ((hc.acts b (Acts.refl false _).resetPositioner.resetSpindle).done _ _ _).settle

/-- R58: the consumers told NO_BUDGET act each for its bay. -/
theorem tellAllNoBudget (cs : List Consumer) (h : Moves true s t) : Moves true s (tellAllNoBudget cs t) := by
  induction cs generalizing t with
  | nil => exact h
  | cons c cs ih =>
    refine ih ?_
    rcases c with b | b | b
    · simp only [tellNoBudget]
      split
      · next hw => exact h.acts b (((Acts.refl false _).spinFrom _ (by simp [hw]) rfl).completeIf _ _)
      · exact h
    · exact h
    · simp only [tellNoBudget]
      split
      · next hw => exact h.acts b (((Acts.refl false _).abandon hw).completeIf _ _)
      · exact h

end Moves

/-! #### Part-wide events of the ledger -/

theorem Ledger.hold_congr {l m : Ledger} (hA : m.holdA = l.holdA) (hB : m.holdB = l.holdB) (c : Consumer) : m.hold c = l.hold c := by
  rcases c with b | b | b <;> cases b <;> simp [Ledger.hold, hA, hB]

/-- R56: a re-examination. -/
theorem Ledger.recast_reexamine {l m : Ledger} (hA : m.holdA = l.holdA) (hB : m.holdB = l.holdB) (hw : m.wait.Sublist l.wait) :
    Ledger.Recast l m.reexamine.1 m.reexamine.2 := by
  have hd : l.Distinct → m.Distinct := fun h => h.sublist (hw.map _)
  have hk : ∀ d, d ∉ l.wait.map WaitEntry.who → d ∉ m.wait.map WaitEntry.who := fun d hdl h => hdl ((hw.map _).subset h)
  exact {
    distinct := fun h => (hd h).sublist ((Ledger.grantHeads_spec m.wait m).2.2.1.sublist.map _)
    served := fun h => Ledger.grantHeads_served m.wait m (hd h)
    kept := fun d h => by
      have hm := hk d (Ledger.waits_eq_false.mp h)
      exact ⟨(Ledger.grantHeads_hold m.wait m d hm).trans (Ledger.hold_congr hA hB d), Ledger.grantHeads_waits m.wait m d hm⟩ }

/-- A capacity taken, or a supply failure, removes entries and grants nothing yet (R58, R60). -/
theorem Ledger.recast_drop {l m : Ledger} (hA : m.holdA = l.holdA) (hB : m.holdB = l.holdB) (hw : m.wait.Sublist l.wait) :
    Ledger.Recast l m [] where
  distinct h := h.sublist (hw.map _)
  served _ _ h := absurd h List.not_mem_nil
  kept d h := ⟨Ledger.hold_congr hA hB d, Ledger.waits_eq_false.mpr fun hm => Ledger.waits_eq_false.mp h ((hw.map _).subset hm)⟩

namespace Moves

theorem takeCapacity (h : Moves d s t) (c : Nat) : Moves true s (takeCapacity c t) := by
  have h1 := (h.recast (t.ledger.take c t.supply.state).1 [] (Ledger.recast_drop rfl rfl List.filter_sublist)).due
  have h2 := h1.tellAllNoBudget (t.ledger.take c t.supply.state).2
  exact h2.recast _ _ (Ledger.recast_reexamine rfl rfl (List.Sublist.refl _))

theorem requestSetBudget (h : Moves false s t) (c : BitVec 16) : Moves false s (requestSetBudget c t) := by
  unfold Machine.requestSetBudget
  dsimp only
  split
  · exact h.refuse _ _ _
  · exact ((h.takeCapacity _).done _ _ _).settle

theorem requestSetGains (h : Moves d s t) (b : Bay) (kv kp kd limit : BitVec 16) : Moves d s (requestSetGains b kv kp kd limit t) :=
  (((h.modGains b _).modGate b _ rfl).gate b).done _ _ _

theorem setList (h : Moves d s t) (l : List (Option SenseEntry)) : Moves d s (installList l t) := by
  unfold installList
  exact (h.modStore _).modSense _

theorem requestWriteSenseList (h : Moves d s t) (items : List SenseItem) : Moves d s (requestWriteSenseList items t) := by
  unfold Machine.requestWriteSenseList writeList
  split
  · exact h.refuse _ _ _
  · split
    · exact h.refuse _ _ _
    · split
      · exact (h.modSense _).done _ _ _
      · exact (h.setList _).done _ _ _

theorem requestReadSamples (h : Moves d s t) (selector first : Byte) : Moves d s (requestReadSamples selector first t) := by
  unfold Machine.requestReadSamples
  dsimp only
  split
  · exact (h.ofBay (by simp) (by rfl)).done _ _ _
  · split
    · exact (h.modStore _).done _ _ _
    · exact h.refuse _ _ _

theorem requestSetSampleMode (h : Moves d s t) (mode interval : Byte) : Moves d s (requestSetSampleMode mode interval t) := by
  unfold Machine.requestSetSampleMode
  split
  · exact h.refuse _ _ _
  · exact ((h.modSense _).modStore _).done _ _ _

/-- R166: a request handed to its owning block. -/
theorem takeRequest (h : Moves false s t) (i : Instr) : Moves false s (takeRequest i t) := by
  cases i with
  | spinUp b => exact h.requestOp b _
  | spinDown b => exact h.requestOp b _
  | loadHeads b => exact h.requestOp b _
  | unloadHeads b => exact h.requestOp b _
  | seek b track head => exact h.requestOp b _
  | openWrite b => exact h.requestOp b _
  | closeWrite b => exact h.requestOp b _
  | eject b => exact h.requestOp b _
  | haltBay b => exact (h.halt b).done _ _ _
  | runBay b =>
    refine ((h.run b Sched.run ?_ ?_).done _ _ _).settle <;> unfold Sched.run <;> split <;> first | rfl | assumption
  | setStepMode b on =>
    have hs : Moves false s (t.modSched b fun x => { x with step := on }) :=
      h.aside (.setBay rfl rfl rfl rfl rfl rfl rfl rfl rfl rfl rfl)
    exact hs.done _ _ _
  | abortBay b => exact ((h.acts b (Acts.refl false _).abortBay).done _ _ _).settle
  | bayReset b => exact h.requestBayReset b
  | setPrevent b on =>
    simp only [Machine.takeRequest, requestSetPrevent]
    split
    · exact h.refuse _ _ _
    · exact h.refuse _ _ _
    all_goals exact (h.modCart b _ rfl rfl rfl rfl).done _ _ _
  | setTrim b trim => exact (h.modSpin b _ rfl).done _ _ _
  | setGains b kv kp kd limit => exact h.requestSetGains b kv kp kd limit
  | setBudget c => exact h.requestSetBudget c
  | writeProfile ds =>
    simp only [Machine.takeRequest, requestWriteProfile]
    split
    · exact h.refuse _ _ _
    · split
      · exact h.refuse _ _ _
      · exact Moves.done (h.ofBay (by simp) (by rfl)) _ _ _
  | writeSenseList es => exact h.requestWriteSenseList es
  | readSamples selector first => exact h.requestReadSamples selector first
  | setSampleMode mode interval => exact h.requestSetSampleMode mode interval
  | setLimits f l sg rc rl ro oc =>
    simp only [Machine.takeRequest, requestSetLimits]
    split
    · exact (h.setSupply _).done _ _ _
    · exact h.refuse _ _ _
  | resumeSense => exact (h.modSense _).done _ _ _
  | sampleNow channel gain =>
    simp only [Machine.takeRequest, requestSampleNow]
    exact (h.modSense _).modLink _
  | clearEvents x =>
    simp only [Machine.takeRequest, requestClearEvents]
    exact Moves.done (h.ofBay (by simp [clearClasses, refreshAttn]) (by rfl)) _ _ _
  | setEventMask x =>
    simp only [Machine.takeRequest, requestSetEventMask]
    exact Moves.done (h.ofBay (by simp [refreshAttn]) (by rfl)) _ _ _
  | readCounters => exact (((h.modCnt .A _).modCnt .B _).countPart _).done _ _ _
  | readRefusals =>
    simp only [Machine.takeRequest, requestReadRefusals]
    exact Moves.done (h.ofBay (by simp) (by rfl)) _ _ _
  | readCompletions =>
    simp only [Machine.takeRequest, requestReadCompletions]
    exact Moves.done (h.ofBay (by simp [refreshAttn]) (by rfl)) _ _ _
  | resetPart =>
    simp only [Machine.takeRequest, requestResetPart]
    exact (h.done _ _ _).modLink _
  | readProfile a => exact h.done _ _ _
  | readSenseList => exact h.done _ _ _
  | identify => exact h.done _ _ _
  | readStatus a => exact h.done _ _ _
  | readEvents => exact h.done _ _ _
  | _ => exact h

/-! #### The link -/

theorem releaseFrame (h : Moves d s t) : Moves d s (releaseFrame t) := h.modLink _

theorem endFrame (h : Moves false s t) : Moves false s (endFrame t) := by
  unfold Machine.endFrame
  split
  · exact h.takeRequest _
  · exact h.refuseRecording _ _ _

theorem lfrmReleased (h : Moves false s t) : Moves false s (lfrmReleased t) := by
  unfold Machine.lfrmReleased
  split
  · exact h
  · split
    · exact h.releaseFrame.endFrame
    · exact h.releaseFrame

/-- A whole frame (log entry 3). -/
theorem deliver (h : Moves false s t) (frame : List Byte) {f : State → State} (hf : ∀ u, Moves false s u → Moves false s (f u)) :
    Moves false s (deliver frame f t) := by
  unfold Machine.deliver
  split
  · exact h
  · split
    · exact h.releaseFrame
    · split
      · exact h.reset.releaseFrame
      · split
        · exact hf _ (h.modLink _)
        · exact h.releaseFrame.endFrame

theorem readStrobe (h : Moves d s t) : Moves d s (readStrobe t) := by
  unfold Machine.readStrobe
  split
  · dsimp only
    split
    · split
      · exact (h.modLink _).reset
      · exact (h.modLink _).modLink _
    · exact h.modLink _
  · exact h

theorem writeStrobe (h : Moves d s t) (x : Byte) : Moves d s (writeStrobe x t) := by
  unfold Machine.writeStrobe
  split
  · exact h
  · split
    · exact h.modLink _
    · exact h.modLink _
    · split
      · exact h.reset
      · exact h.modLink _
    · exact h.modLink _

theorem strobe (h : Moves d s t) (ldir lfrm : Bool) (x : Byte) : Moves d s (strobe ldir lfrm x t) := by
  unfold Machine.strobe
  split
  · exact h
  · dsimp only
    split
    · exact (h.modLink _).readStrobe
    · split
      · exact (h.modLink _).writeStrobe x
      · exact h.modLink _

theorem judgeWithheld (h : Moves d s t) : Moves d s (judgeWithheld t) := by
  unfold Machine.judgeWithheld
  split
  · exact h
  · dsimp only
    split
    · exact (h.modLink _).writeStrobe _
    · exact h.modLink _

end Moves
end Sys2Proof.Machine
end

section
namespace Sys2Proof.Machine

variable {b : Bay} {d m : Bool} {s t u : State}

/-- A fatal outcome works the lamp out, whatever it was (R21, R153). -/
theorem raiseFatal_lampAt (b : Bay) (c : Cause) (s : State) : LampAt b (raiseFatal b c s) := by
  have h : LampAt b (raiseOutcome b c s) := changeSched_lampAt b _ _
  unfold raiseFatal
  dsimp only
  split
  · exact (Acts.refl false _).cancelOnSpindle.lampAt b h
  · exact h

theorem Acts.spindleOnFail (h : Acts b m s t) : Acts b m s (spindleOnFail b t) := by
  unfold Machine.spindleOnFail
  split
  · exact h.abandonPower.weaken
  case h_5 | h_6 => exact h.brakeOrder
  case h_7 => exact h.mergeStop
  case h_8 | h_9 => exact h
  all_goals exact (h.enterBraking _).weaken

theorem Acts.supplyFail (h : Acts b m s t) :
    Acts b m s (Machine.spindleOnFail b (Machine.retractOrder b (Machine.raiseFatal b .supplyFail t))) :=
  (h.raiseFatal .supplyFail).retractOrder.spindleOnFail

theorem Acts.brakeOvercurrent (h : Acts b m s t) : Acts b m s (brakeOvercurrent b t) := by
  have hr := (h.spinKeep (Spindle.driven 0) rfl rfl).retractOrder
  unfold Machine.brakeOvercurrent
  dsimp only
  split
  · exact hr.spinKeep _ rfl rfl
  · exact (hr.enterBraking _).weaken

theorem Acts.spindleOvercurrent (h : Acts b m s t) : Acts b m s (spindleOvercurrent b t) := by
  unfold Machine.spindleOvercurrent
  split
  case h_6 => exact ((h.raiseOutcome _).withdraw _).enterSpinFault.weaken
  case h_7 => exact (h.spinKeep _ rfl rfl).raiseFatal _
  case h_8 | h_9 => exact h
  all_goals exact (h.raiseOutcome _).brakeOvercurrent

theorem Acts.tachExpired (h : Acts b m s t) : Acts b m s (tachExpired b t) := by
  have hf : Acts b m s (t.modSpin b fun x => { x with tachRef := false, lastPeriod := none, tachTimer := none }) := h.spinKeep _ rfl rfl
  unfold Machine.tachExpired
  dsimp only
  split
  case h_1 => exact hf.platterStop.weaken
  case h_2 | h_3 | h_4 => exact hf.missedRevolution
  all_goals exact hf

theorem Acts.pulse (h : Acts b m s t) (n : Nat) : Acts b m s (pulse b n t) := by
  have hf : Acts b m s (t.modSpin b fun x =>
      { x with lastPeriod := measured (t.bay b).spin.tachRef n, tachRef := true, tachTimer := some Const.tach }) := h.spinKeep _ rfl rfl
  unfold Machine.pulse
  dsimp only
  split
  · exact hf.judgeRevolution _
  · exact hf

theorem Acts.stageOver (h : Acts b m s t) : Acts b m s (stageOver b t) := by
  unfold Machine.stageOver
  split
  · exact ((h.spinMove _ rfl).spindleChanged).weaken
  · exact h.failAttempt.weaken
  · exact h.failAttempt.weaken
  all_goals exact h

theorem Acts.loadWaitOver (h : Acts b m s t) : Acts b m s (loadWaitOver b t) := by
  unfold Machine.loadWaitOver
  dsimp only
  split
  · exact h.posKeep _ rfl
  · exact (h.posKeep _ rfl).failLoadWait _

theorem Acts.seekTimedOut (h : Acts b m s t) (hr : seekRunning b t = true) : Acts b m s (seekTimedOut b t) := by
  have hs : Acts b m s _ := ((h.count fun c => { c with seekTimeouts := Machine.count c.seekTimeouts }).setTarget
    (nearestTrack b (countBay b (fun c => { c with seekTimeouts := Machine.count c.seekTimeouts }) t))).posFrom
      (fun p => { p with state := .settling, settle := 0, seekTimer := none, owner := .none }) (by
        rw [setTarget_pos_state]
        intro hp
        simp only [State.modCnt_pos] at hp
        simp [seekRunning, hp] at hr)
  unfold Machine.seekTimedOut
  dsimp only
  split
  · exact hs.completeIf _ _
  · exact hs

theorem Acts.parkReached (h : Acts b m s t) : Acts b m s (parkReached b t) := by
  unfold Machine.parkReached
  split
  · exact h.enterParked.weaken
  · exact h.enterParked.weaken
  all_goals exact h

theorem Acts.parkLost (h : Acts b m s t) : Acts b m s (parkLost b t) := by
  unfold Machine.parkLost
  split
  · exact (h.failLoadWait _).enterRetracting.weaken
  · exact h

theorem Acts.countWedges (h : Acts b m s t) (r : WedgeResult) : Acts b m s (countWedges b r t) := by
  unfold Machine.countWedges
  dsimp only
  split
  · split
    · exact (h.impliedWedges _).validWedge _ _
    · exact (h.impliedWedges _).invalidWedge
  · exact h.impliedWedges _

/-- R59: a supply state other than FAIL. -/
theorem Ledger.recast_supply (l : Ledger) (x : SupplyState) : Ledger.Recast l (l.supply x).1 (l.supply x).2 :=
  Ledger.recast_reexamine rfl rfl (List.Sublist.refl _)

namespace Moves

/-! #### Events of the cartridge -/

/-- A change of the cartridge from a state other than EJECTING to one that is no release. -/
theorem cartFrom (h : Moves d s t) (b : Bay) (f : Cartridge → Cartridge) {x : CartState} (hx : (t.bay b).cart.state = x)
    (he : x ≠ .ejecting) (hl : (f (t.bay b).cart).latch = (t.bay b).cart.latch)
    (hr : ¬((f (t.bay b).cart).state = .releasePending ∨ (f (t.bay b).cart).state = .ejecting)) : Moves d s (changeCart b f t) :=
  h.cart b f (fun h' => ⟨hl ▸ h', fun hc => absurd (hx ▸ hc) he⟩) (fun hc => absurd hc hr)

/-- R17, R19: a cartridge leaves, the lamp worked out on the whole of the event. -/
theorem presenceFall (h : Moves d s t) : Moves true s (presenceFall b t) := by
  have away : ∀ u, ((enterEmpty b u).bay b).cart.state ≠ .ejecting := by
    intro u
    simp [enterEmpty, closeWindow, Machine.latchEvent, refreshAttn]
  have leaves : Moves true s (cartridgeLeaves b t) :=
    h.depart b (((Acts.refl false _).dropLatch (away t)).completeIf _ _).lamp (lampUpdate_lampAt b _)
  have loss : Moves true s (presenceLoss b t) := by
    unfold presenceLoss
    dsimp only
    have gone := (Acts.refl false _).dropLatch (away t)
    split
    · exact h.depart b (gone.complete _).lamp (lampUpdate_lampAt b _)
    · exact h.depart b (gone.raiseFatal _).retractOrder.brakeOrder
        ((Acts.refl false _).retractOrder.brakeOrder.lampAt b (raiseFatal_lampAt b _ _))
  unfold Machine.presenceFall
  split
  · exact h.due
  · next he => exact (h.cartFrom b _ he (by simp) rfl (by simp)).due
  · exact loss
  · exact loss
  · split
    · exact loss
    · exact leaves
  · exact leaves

theorem longPressAction (h : Moves d s t) : Moves true s (longPressAction b t) := by
  unfold Machine.longPressAction
  split
  · exact ((h.modCart b _ rfl rfl rfl rfl).latchEvent _).requestRelease
  · exact h.requestRelease

theorem buttonStable (h : Moves d s t) : Moves true s (buttonStable b t) := by
  have hr : Moves d s (t.modCart b fun c => { c with levelTimer := none, pressed := false, pressTimer := none }) :=
    h.modCart b _ rfl rfl rfl rfl
  unfold Machine.buttonStable shortPress
  split
  · dsimp only
    split
    · split
      · exact (hr.latchEvent _).due
      · exact hr.requestRelease
    · exact hr.due
  · exact (h.modCart b _ rfl rfl rfl rfl).due

/-- R18: the wait is over with the cartridge still in, so LATCH is off. -/
theorem waitOver (h : Moves d s t) (he : (t.bay b).cart.state = .ejecting) (hp : (t.bay b).cart.phase = some .wait) :
    Moves true s (waitOver b t) := by
  have change : ∀ x, Moves d s (changeCart b (fun c => { c with state := x, phase := none, waitTimer := none }) t) :=
    fun x => h.cart b _ (fun hl => ⟨hl, fun _ hc => by simp [hp] at hc⟩) fun _ => .inr he
  unfold Machine.waitOver
  split
  · exact (change _).acts b (Acts.refl false _).judgeLatch
  · exact (change _).acts b ((Acts.refl false _).raiseFatal _)

/-! #### Events of the supply -/

theorem supplyFailBay (h : Moves d s t) (b : Bay) : Moves true s (supplyFailBay b t) := by
  have abandoned : Moves true s (abandonCycle b t) := by
    unfold abandonCycle
    split
    · refine Moves.acts b (h.cart b _ (fun hl => by simp at hl) (fun hr => by simp at hr)) ((Acts.refl false _).dropLatch ?_)
      rw [(changeCart_sameButLamp _).eqs.1]
      simp
    · exact h.due
  exact abandoned.acts b (Acts.refl false _).supplyFail

theorem supplyFails (h : Moves d s t) : Moves true s (supplyFails t) :=
  ((h.recast t.ledger.failed [] (Ledger.recast_drop rfl rfl (List.nil_sublist _))).supplyFailBay .A).supplyFailBay .B

theorem changeSupply (h : Moves d s t) (x : SupplyState) : Moves true s (changeSupply x t) := by
  have hx := (h.setSupply { t.supply with state := x }).latchEvent .supply
  unfold Machine.changeSupply
  dsimp only
  split
  · exact ((hx.setSupply _).countPart _).supplyFails
  · exact ((hx.countPart _).recast _ _ (Ledger.recast_supply _ _)).due
  · exact (hx.recast _ _ (Ledger.recast_supply _ _)).due

theorem judgeSample (h : Moves d s t) (position v : Nat) : Moves true s (judgeSample position v t) := by
  have reserve : ∀ b, Moves true s (judgeReserve b v t) := by
    intro b
    unfold judgeReserve
    dsimp only
    split
    · split
      · exact (h.modMon b _).acts b (Acts.refl false _).reserveDisqualified
      · exact h.due
    · split
      · split
        · exact (h.modMon b _).acts b (Acts.refl false _).tryLoading
        · exact (h.modMon b _).due
      · exact (h.modMon b _).due
  have current : ∀ b, Moves true s (judgeCurrent b v t) := by
    intro b
    unfold judgeCurrent
    dsimp only
    split
    · exact (h.modMon b _).due
    · split
      · exact (h.modMon b _).due
      · split
        · exact ((h.modMon b _).latchEvent _).acts b (Acts.refl false _).spindleOvercurrent
        · exact (h.modMon b _).due
  unfold Machine.judgeSample
  split
  · unfold judge12
    dsimp only
    split
    · exact (h.setSupply _).due
    · exact (h.setSupply _).changeSupply _
  · unfold judge5
    dsimp only
    split
    · split
      · split
        · exact (h.setSupply _).changeSupply _
        · exact (h.setSupply _).due
      · exact (h.setSupply _).due
    · split
      · exact h.changeSupply _
      · exact h.due
  · exact reserve .A
  · exact reserve .B
  · exact current .A
  · exact current .B
  · exact h.due

/-! #### Events of the sense sequencer -/

theorem openScan (h : Moves d s t) : Moves d s (openScan t) := by
  unfold Machine.openScan
  dsimp only
  refine Moves.modSense ?_ _
  split
  · exact (h.modSense _).setList _
  · exact h.modSense _

theorem goOn (h : Moves d s t) (goal : Option Nat) : Moves d s (goOn goal t) := by
  unfold Machine.goOn
  dsimp only
  refine Moves.modSense ?_ _
  split
  · exact h.modSense _
  · split
    · exact (h.modSense _).openScan
    · exact h.modSense _

theorem storeSample (h : Moves d s t) (position channel v : Nat) : Moves d s (storeSample position channel v t) := by
  unfold Machine.storeSample storeImage storeHistory
  split
  · exact h.modStore _
  · dsimp only
    split
    · exact h.modStore _
    · exact ((h.modStore _).countPart _).latchEvent _

theorem actOnMarks (h : Moves d s t) (e : SenseEntry) : Moves d s (actOnMarks e t) := by
  unfold Machine.actOnMarks
  dsimp only
  split <;> split
  · exact (h.latchEvent _).modSense _
  · exact h.modSense _
  · exact h.latchEvent _
  · exact h

theorem listCompletion (h : Moves d s t) (position : Nat) (raw : BitVec 10) : Moves true s (listCompletion position raw t) := by
  unfold Machine.listCompletion
  split
  · exact h.due
  · exact (((h.storeSample _ _ _).judgeSample _ _).actOnMarks _).goOn _

theorem scanDueNow (h : Moves d s t) : Moves d s (scanDueNow t) := by
  unfold Machine.scanDueNow beginScan
  dsimp only
  split
  · exact (h.modSense _).modSense _
  · exact (h.modSense _).openScan.modSense _

/-! #### Events of the servo -/

theorem reportArrives (h : Moves d s t) (r : Report) : Moves d s (reportArrives b r t) := by
  unfold Machine.reportArrives
  split
  · exact h.setSau _
  · dsimp only
    split
    · exact (h.modCnt b _).modSlot b _
    · exact h.modSlot b _

theorem takeSlot (h : Moves d s t) (c : Bay) (ht : takeSlot c t = some u) : Moves d s u := by
  unfold Machine.takeSlot at ht
  rw [Option.map_eq_some_iff] at ht
  obtain ⟨r, -, rfl⟩ := ht
  exact (h.setSau _).modSlot c _

theorem chooseNext (h : Moves d s t) (c : Bay) : Moves d s (chooseNext c t) := by
  unfold Machine.chooseNext
  split
  · next ht => exact h.takeSlot _ ht
  · split
    · next ht => exact h.takeSlot _ ht
    · exact h.setSau _

theorem writeResult (h : Moves d s t) (r : WedgeResult) : Moves d s (writeResult b r t) := by
  have hp : Moves d s ((t.modServo b fun _ => r.servo).modPos b fun p => { p with act := r.servo.I }) := (h.modServo b _).modPos b _ rfl
  unfold Machine.writeResult
  dsimp only
  refine Moves.modGate ?_ b _ rfl
  split
  · exact hp
  · exact hp.modCnt b _

theorem applyCompletion (h : Moves d s t) (c : Computation) : Moves true s (applyCompletion c t) :=
  (h.writeResult _).acts c.bay ((Acts.refl false _).countWedges _)

theorem gateRises (h : Moves d s t) : Moves d s (gateRises b t) := by
  unfold Machine.gateRises
  split
  · exact h
  · exact (h.modGate b _ rfl).modCnt b _

end Moves

/-! #### The commands -/

/-- An event that begins with acts of its bay, settled at its end. -/
theorem Moves.settleActs (h : Moves d s t) (b : Bay) (ha : Acts b false t u) : Moves false s (Machine.settle u) := (h.acts b ha).settle

theorem exec_request (i : Instr) (h : i.isRequest = true) (s : State) : exec i s = .next (deliver (frameOf i) (takeRequest i) s) := by
  cases i <;> first | rfl | cases h

/-- Every command is moves that leave no taking due. -/
theorem exec_moves (i : Instr) (h : exec i s = .next t) : Moves false s t := by
  have start : ∀ {d}, Moves d s s := .refl _ s
  have acts : ∀ {b u}, Acts b false s u → Moves false s (settle u) := fun ha => (start (d := true)).settleActs _ ha
  have next : ∀ {u}, exec i s = .next u → Moves false s u → Moves false s t := fun hu hm => by
    rw [hu] at h
    cases h
    exact hm
  by_cases hr : i.isRequest = true
  · exact next (exec_request i hr s) (start.deliver _ fun u hu => hu.takeRequest i)
  cases i with
  | frameRefused bytes =>
    refine next rfl ?_
    split
    · exact start.lfrmReleased
    · exact start.deliver _ fun u hu => (hu.modLink _).endFrame
  | linkStrobe ldir lfrm x => exact next rfl (start.strobe _ _ _)
  | strobeNegated =>
    refine next rfl ?_
    unfold strobeEnd
    split
    · exact start
    · exact start.modLink _
  | resetNFall => exact next rfl (start.reset.modLink _)
  | powerOn => exact next rfl (start.reset.modLink _)
  | resetNRise lfrm =>
    refine next rfl ?_
    split
    · exact start
    · exact (start.modLink _).modLink _
  | presRise b =>
    refine next rfl ?_
    have hp : Moves false s (s.modPins b fun p => { p with pres := true }) := start.modPins b _
    split
    · next he => exact hp.cartFrom b _ he (by simp) rfl (by simp)
    · exact hp
  | presFall b => exact next rfl ((start (d := true)).modPins b _).presenceFall.settle
  | debounceExpiry b med1 med0 wprot =>
    refine next rfl ?_
    split
    · next hc =>
      have he : (s.bay b).cart.state = .seating := of_decide_eq_true (Bool.and_eq_true _ _ ▸ hc).2
      exact (((start (d := true)).cartFrom b _ he (by simp) rfl (by simp)).latchEvent _).settle
    · exact start
  | btnChange b level => exact next rfl ((start.modPins b _).modCart b _ rfl rfl rfl rfl)
  | buttonLevelExpiry b =>
    refine next rfl ?_
    split
    · exact (start (d := true)).buttonStable.settle
    · exact start
  | longPress b =>
    refine next rfl ?_
    split
    · exact ((start (d := true)).modCart b _ rfl rfl rfl rfl).longPressAction.settle
    · exact start
  | pulseTimerExpiry b =>
    refine next rfl ?_
    split
    · next hc =>
      simp only [Bool.and_eq_true, decide_eq_true_eq] at hc
      exact acts ((Acts.refl false s).endPulse hc.1.2)
    · exact start
  | waitTimerExpiry b =>
    refine next rfl ?_
    split
    · next hc =>
      simp only [Bool.and_eq_true, decide_eq_true_eq] at hc
      exact ((start (d := true)).waitOver hc.1.2 hc.2).settle
    · exact start
  | lampFlashToggle b =>
    refine next rfl ?_
    split
    · exact start.modCart b _ rfl rfl rfl rfl
    · exact start
  | tachPulse b n =>
    exact next rfl (((start (d := true)).acts b ((Acts.refl false s).pulse n)).modDemod b _).settle
  | tachTimerExpiry b =>
    refine next rfl ?_
    split
    · exact acts (Acts.refl false s).tachExpired
    · exact start
  | stageTimerExpiry b =>
    refine next rfl ?_
    split
    · exact acts (Acts.refl false s).stageOver
    · exact start
  | brakeLimitExpiry b =>
    refine next rfl ?_
    split
    · exact acts ((Acts.refl false s).enterSpinFault.raiseFatal _)
    · exact start
  | speedLostTimerExpiry b =>
    refine next rfl ?_
    split
    · exact acts (((Acts.refl false s).spinKeep _ rfl rfl).faultAndUnload _)
    · exact start
  | wedgeWindowEnd b code parityOk ampA ampB =>
    refine next rfl ?_
    split
    · unfold windowEnds
      dsimp only
      split
      · exact (start.modDemod b _).reportArrives _
      · exact start.modDemod b _
    · exact start
  | sauCompletion =>
    refine next rfl ?_
    split
    · next c _ =>
      split
      · exact ((start (d := true)).applyCompletion c |>.chooseNext _).settle
      · exact ((start (d := true)).chooseNext _).settle
    · exact start
  | loadWaitTimerExpiry b =>
    refine next rfl ?_
    split
    · exact acts (Acts.refl false s).loadWaitOver
    · exact start
  | loadTimerExpiry b =>
    refine next rfl ?_
    split
    · exact acts (((Acts.refl false s).posKeep _ rfl).faultAndUnload _)
    · exact start
  | seekTimerExpiry b =>
    refine next rfl ?_
    split
    · next hc => exact acts ((Acts.refl false s).seekTimedOut (Bool.and_eq_true _ _ ▸ hc).2)
    · exact start
  | unloadTimerExpiry b =>
    refine next rfl ?_
    split
    · exact acts ((Acts.refl false s).raiseFatal _).enterPosFault
    · exact start
  | retractTimerExpiry b =>
    refine next rfl ?_
    split
    · exact acts ((Acts.refl false s).raiseFatal _).enterPosFault
    · exact start
  | parkRise b => exact next rfl ((start (d := true)).modPins b _ |>.acts b (Acts.refl false _).parkReached).settle
  | parkFall b => exact next rfl ((start (d := true)).modPins b _ |>.acts b (Acts.refl false _).parkLost).settle
  | wgateRise b => exact next rfl (((start.modPins b _).gateRises).gate b)
  | wgateFall b => exact next rfl (((start.modPins b _).modGate b _ rfl).gate b)
  | scanTimerExpiry =>
    refine next rfl ?_
    split
    · exact start.scanDueNow
    · exact start
  | conversionCompletion raw =>
    refine next rfl ?_
    split
    · exact ((start (d := true)).listCompletion _ _).settle
    all_goals exact start
  | sampleNowCompletion raw =>
    refine next rfl ?_
    split
    · exact ((start.modSense _).done _ _ _).judgeWithheld
    all_goals exact start
  | lfrmRelease => exact next rfl start.lfrmReleased
  | _ => exact absurd rfl hr

/-- Every step is moves that leave no taking due. -/
theorem step_moves (h : step s = .next t) : Moves false s t := by
  unfold step at h
  split at h
  · cases h
    exact .refl _ s
  · next c rest _ =>
    have hq : Moves false s (s.setPending rest) := (Moves.refl false s).ofBay (fun c => by cases c <;> rfl) rfl
    exact hq.trans (exec_moves c h)

/-! ### The laws that every step keeps -/

/-- Settles O8: a step is moves, each of which keeps the schedulers quiet. -/
theorem stepKeepsSchedulersQuiet : Obligations.StepKeepsSchedulersQuiet :=
  ⟨fun _ _ hs h => (step_moves h).haltedIdle hs, fun _ _ hs h => (step_moves h).takingsDone rfl hs,
    fun _ _ hs h => (step_moves h).releaseQuiet hs⟩

/-- Settles O11: a step is moves, each of which keeps LATCH at rest under its 120, and the wait list distinct. -/
theorem stepKeepsLatchSafe : Obligations.StepKeepsLatchSafe := fun _ _ hl hw h => (step_moves h).latchSafe ⟨hl, hw⟩

/-- Settles O15: a step is moves, each of which works the lamp out again or leaves what it shows. -/
theorem stepKeepsLampExact : Obligations.StepKeepsLampExact := fun _ _ hs h => (step_moves h).lampExact hs

end Sys2Proof.Machine
end

section
namespace Sys2Proof.Machine

/-- Settles O2: each value is a field of `State.reset`, the per-bay ones for either bay. -/
theorem resetLeavesTheSpecsValues : Obligations.ResetLeavesTheSpecsValues := by
  unfold Obligations.ResetLeavesTheSpecsValues
  repeat' apply And.intro
  case' right => intro b; cases b
  all_goals decide

/-- The actuator wait clauses are about an empty wait list after reset. -/
theorem actuatorsSound_reset : ActuatorsSound State.reset := by
  intro b
  refine ⟨fun _ => ?_, ?_, fun e he => ?_⟩
  · cases b <;> decide
  · cases b <;> exact ⟨rfl, rfl⟩
  · exact absurd he List.not_mem_nil

/-- Settles O3: the laws over both bays are decided bay by bay. -/
theorem lawsHoldAtReset : Obligations.LawsHoldAtReset := by
  unfold Obligations.LawsHoldAtReset StoresBounded AttnExact WaitDistinct TagsDistinct LinkSound
  refine ⟨⟨by decide, by decide⟩, actuatorsSound_reset, by decide, by decide, by decide, ?halted, ?heads, ?outputs, ?overcurrent,
    ?latch, ?permit, ⟨by decide, ?pool⟩, by decide, ?quiet, ?lamp, ?takings, by decide⟩
  all_goals
    intro b
    cases b <;> decide

end Sys2Proof.Machine
end

section
namespace Sys2Proof.Machine

variable {b c : Bay} {s t : State}

/-! ### Operations that change nothing where they stand -/

@[simp] theorem State.setBay_self (s : State) (b : Bay) : s.setBay b (s.bay b) = s := by cases b <;> rfl

@[simp] theorem State.setBay_setBay (s : State) (b : Bay) (x y : BayState) : (s.setBay b x).setBay b y = s.setBay b y := by cases b <;> rfl

theorem State.modCart_self {f : Cartridge → Cartridge} (h : f (s.bay b).cart = (s.bay b).cart) : s.modCart b f = s := by
  unfold State.modCart
  rw [h]
  exact State.setBay_self s b

/-- A lamp in its mode is left as it is (R21). -/
theorem lampUpdate_of_lampAt (h : LampAt b s) : lampUpdate b s = s :=
  State.modCart_self (if_pos (Eq.symm h))

/-- A change of the cartridge that leaves the lamp its mode is that change alone. -/
theorem changeCart_of_lampAt {f : Cartridge → Cartridge} (h : LampAt b (s.modCart b f)) : changeCart b f s = s.modCart b f :=
  lampUpdate_of_lampAt h

/-- ATTN is worked out from what ATTN itself is no part of. -/
theorem attnDue_congr (hr : t.link.resetN = s.link.resetN) (hl : t.events = s.events) (hc : t.completions = s.completions)
    (hA : t.bayA.sched = s.bayA.sched) (hB : t.bayB.sched = s.bayB.sched) : attnDue t = attnDue s := by
  simp [attnDue, pendingSet, conditions, hr, hl, hc, hA, hB]

@[simp] theorem refreshAttn_bay (s : State) (c : Bay) : (refreshAttn s).bay c = s.bay c := by simp [refreshAttn]

@[simp] theorem latchEvent_bay (x : LatchedClass) (s : State) (c : Bay) : (latchEvent x s).bay c = s.bay c := by simp [latchEvent]

@[simp] theorem latchEvent_supply (x : LatchedClass) (s : State) : (latchEvent x s).supply = s.supply := rfl

@[simp] theorem latchEvent_ledger (x : LatchedClass) (s : State) : (latchEvent x s).ledger = s.ledger := rfl

/-- No taking comes due where a bay's scheduler stays, and the other bay. -/
theorem TakingsDone.ofBay (h : TakingsDone s) (ho : t.bay b.other = s.bay b.other) (hs : (t.bay b).sched = (s.bay b).sched) :
    TakingsDone t := by
  intro c
  rcases Bay.cases_eq b c with rfl | rfl
  · rw [hs]; exact h c
  · rw [ho]; exact h b.other

/-- WPERM stays exact where the other bay and the supply state are as they were, and in the bay itself. -/
theorem PermitExact.ofBay (h : PermitExact s) (ho : t.bay b.other = s.bay b.other) (hx : t.supply.state = s.supply.state)
    (hb : (t.bay b).gate.wperm = permitDue (t.bay b) t.supply.state) : PermitExact t := by
  intro c
  rcases Bay.cases_eq b c with rfl | rfl
  · exact hb
  · rw [ho, hx]
    exact h b.other

/-- An event of one bay that leaves its scheduler and its permit as they were leaves nothing to settle. -/
theorem Settled.settle_eq (h : Settled s) (ho : t.bay b.other = s.bay b.other) (hs : (t.bay b).sched = (s.bay b).sched)
    (hx : t.supply.state = s.supply.state) (hb : (t.bay b).gate.wperm = permitDue (t.bay b) t.supply.state) : settle t = t :=
  settle_exact t (h.2.2.1.ofBay ho hx hb) (h.2.2.2.ofBay ho hs)

/-! ### Seating, the button and the lamp (R2 to R8, R21) -/

/-- A bay between EMPTY and SEATED keeps its lamp. -/
theorem lampAt_seating {f : Cartridge → Cartridge} (h : LampAt b s) (hm : (f (s.bay b).cart).lampMode = (s.bay b).cart.lampMode)
    (hs : (s.bay b).cart.state = .empty ∨ (s.bay b).cart.state = .seating)
    (hf : (f (s.bay b).cart).state = .empty ∨ (f (s.bay b).cart).state = .seating ∨ (f (s.bay b).cart).state = .seated) :
    LampAt b (s.modCart b f) := by
  unfold LampAt at *
  rw [State.modCart_cart, State.modCart_sched, hm, h]
  rcases hs with hs | hs <;> rcases hf with hf | hf | hf <;> simp [lampModeOf, hs, hf]

/-- WPERM is off, and stays so, over a closed window. -/
theorem permitDue_of_closed {x : BayState} (h : x.gate.window = false) (y : SupplyState) : permitDue x y = false := by simp [permitDue, h]

/-- R4: the presence class of a bay. -/
theorem presence_bit (b : Bay) : bitSet (classBit (.presence b)) = if b = .A then 0x0008 else 0x0010 := by cases b <;> rfl

/-- R8: the button class of a bay. -/
theorem button_bit (b : Bay) : bitSet (classBit (.button b)) = if b = .A then 0x0020 else 0x0040 := by cases b <;> rfl

/-- A class latched in the event unit is that class and the line (R186, R187). -/
theorem latchEvent_eq (x : LatchedClass) (s : State) :
    latchEvent x s =
      { s with
        link := { s.link with attn := attnDue (latchEvent x s) }
        events := { s.events with latched := s.events.latched ||| bitSet (classBit x) } } := rfl

/-- WPERM of a settled bay is off over a closed window. -/
theorem PermitExact.wperm_of_closed (h : PermitExact s) (hw : (s.bay b).gate.window = false) : (s.bay b).gate.wperm = false :=
  (h b).trans (permitDue_of_closed hw _)

/-- R3, R4: the seating of a lamp that shows SEATING changes the cartridge's record and latches the presence class. -/
theorem seatCartridge_eq (h : LampAt b s) (hs : (s.bay b).cart.state = .seating) (m : Media) :
    seatCartridge b m s = latchEvent (.presence b)
      (s.modCart b fun c => { c with state := .seated, media := some m, pulseCount := 0, debounce := none }) := by
  unfold seatCartridge
  rw [changeCart_of_lampAt (lampAt_seating h rfl (.inr hs) (.inr (.inr rfl)))]

/-- A change of the button's part of a controller leaves a settled state settled. -/
theorem Settled.settle_button (h : Settled s) {f : Cartridge → Cartridge} (hf : (f (s.bay b).cart).state = (s.bay b).cart.state)
    (hm : (f (s.bay b).cart).media = (s.bay b).cart.media) : settle (s.modCart b f) = s.modCart b f := by
  refine h.settle_eq (b := b) (by simp) (by simp) (by simp) ?_
  have := h.2.2.1 b
  unfold permitDue at this ⊢
  simpa [hf, hm] using this

/-- Settles O44: the debounce of EMPTY and SEATING keeps the lamp, and a closed window the permit. -/
theorem cartridgeSeats : Obligations.CartridgeSeats := by
  refine ⟨fun b s hl => ⟨fun he => ?_, fun he => ?_⟩, fun b med1 med0 wprot s hset hs hd hw => ?_⟩
  · simp [exec, execPresRise, he]
  · have hlamp : LampAt b (s.modPins b fun p => { p with pres := true }) := (show LampAt b s from hl b).congr (by simp) (by simp) (by simp)
    simp only [exec, execPresRise, State.modPins_cart, he, if_true]
    rw [changeCart_of_lampAt (lampAt_seating hlamp rfl (.inl (by simpa using he)) (.inr (.inl rfl)))]
  · have hsettle : settle (seatCartridge b (mediaRecord med1 med0 wprot) s) = seatCartridge b (mediaRecord med1 med0 wprot) s := by
      rw [seatCartridge_eq (hset.2.1 b) hs]
      refine hset.settle_eq (b := b) (by simp) (by simp) (by simp) ?_
      rw [permitDue_of_closed (by simpa using hw)]
      simpa using hset.2.2.1.wperm_of_closed hw
    have hexec : exec (.debounceExpiry b med1 med0 wprot) s = .next (seatCartridge b (mediaRecord med1 med0 wprot) s) := by
      simp only [exec, execDebounceExpiry, hd, hs, decide_true, Bool.and_self, if_true, hsettle]
    refine ⟨_, hexec, ?_⟩
    rw [seatCartridge_eq (hset.2.1 b) hs, latchEvent_eq, presence_bit]
    cases med1 <;> cases med0 <;> cases b <;> rfl

/-- A short press clears the button's timers and acts (R7, R8). -/
theorem exec_buttonLevelExpiry_short (ht : (s.bay b).cart.levelTimer.isSome = true) (hp : (s.bay b).cart.pressed = true)
    (hx : (s.bay b).cart.pressTimer.isSome = true) :
    exec (.buttonLevelExpiry b) s =
      .next (settle (shortPress b (s.modCart b fun c => { c with levelTimer := none, pressed := false, pressTimer := none }))) := by
  simp only [exec, execButtonLevelExpiry, ht, if_true, buttonStable, hp, hx]

/-- R13: a release is asked of a SEATED and of a JAMMED cartridge alone. -/
theorem requestRelease_of_not (h : (s.bay b).cart.state ≠ .seated) (h' : (s.bay b).cart.state ≠ .jammed) : requestRelease b s = s := by
  unfold requestRelease
  split
  · next hc => exact absurd hc h
  · next hc => exact absurd hc h'
  all_goals rfl

/-- R8: a short press on a SEATED cartridge with the prevent flag sets the button class alone. -/
theorem shortPress_prevented (hs : (s.bay b).cart.state = .seated) (hv : (s.bay b).cart.prevent = true) :
    shortPress b s = latchEvent (.button b) s := by simp [shortPress, hs, hv]

/-- Settles O45: a button level or press of a bay whose cartridge does not answer changes the button's part of the controller alone. -/
theorem buttonAndLamp : Obligations.ButtonAndLamp := by
  refine ⟨fun b level s hset => ⟨⟨_, rfl, ?_⟩, fun ht hp => ?_, fun ht hp hx => ?_, fun ht hp hx => ⟨fun hs hv => ?_, fun hs => ?_⟩⟩,
    fun b s hf => ?_⟩
  · congr 1
    funext k
    simp [Cartridge.buttonLevel]
  · simp only [exec, execButtonLevelExpiry, ht, if_true, buttonStable, hp, Bool.false_eq_true, if_false]
    rw [hset.settle_button rfl rfl]
  · simp only [exec, execButtonLevelExpiry, ht, if_true, buttonStable, hp, hx, Option.isSome_none, Bool.false_eq_true, if_false]
    rw [hset.settle_button rfl rfl]
    simp [State.modCart, hx]
  · rw [exec_buttonLevelExpiry_short ht hp hx, shortPress_prevented (by simpa using hs) (by simpa using hv)]
    refine ⟨_, rfl, ?_⟩
    rw [hset.settle_eq (b := b) (by simp) (by simp) (by simp), latchEvent_eq, button_bit]
    · cases b <;> rfl
    · have := hset.2.2.1 b
      unfold permitDue at this ⊢
      simpa using this
  · rw [exec_buttonLevelExpiry_short ht hp hx]
    have hn : (s.bay b).cart.state ≠ .seated := by rcases hs with h | h | h | h <;> simp [h]
    have hj : (s.bay b).cart.state ≠ .jammed := by rcases hs with h | h | h | h <;> simp [h]
    rw [shortPress, if_neg (by simp [hn]), requestRelease_of_not (by simpa using hn) (by simpa using hj), hset.settle_button rfl rfl]
  · simp [exec, execLampFlashToggle, hf]

end Sys2Proof.Machine
end

section
namespace Sys2Proof.Machine

variable {b c : Bay} {s t u : State}

/-! ### Requests that answer at once (R166, R168) -/

/-- A request whose frame the link takes is taken behind that frame. -/
theorem exec_framed {i : Instr} (h : i.isRequest = true) (hl : LinkTakes (frameOf i) s) :
    exec i s = .next (takeRequest i (s.modLink Link.framed)) := by
  rw [exec_request i h, (deliver_cases s (frameOf i) (takeRequest i)).2.2.2.1 hl]

/-- The answer is made of what the state is beside its link. -/
theorem State.answer_congr (bytes : List Byte) (hl : t.link.resetN = s.link.resetN) (h : { t with link := s.link } = s) :
    t.answer bytes = s.answer bytes := by
  have ha : attnDue t = attnDue s := by rw [← h]; simp [attnDue, pendingSet, conditions, hl]
  rw [State.answer, State.answer, ha, ← h]

/-- A signed byte in a payload. -/
theorem i8_eq (x : Int) : i8 x = [BitVec.ofInt 8 x] := by simp only [i8, u8, byteOf, BitVec.ofNat_toNat, BitVec.setWidth_eq]

theorem clampInt_eq {lo hi : Int} (h : lo ≤ hi) (x : Int) : clampInt lo hi x = max lo (min hi x) := by
  unfold clampInt
  split <;> [skip; split] <;> omega

theorem clampNat_eq {lo hi : Nat} (h : lo ≤ hi) (x : Nat) : clampNat lo hi x = max lo (min hi x) := by
  unfold clampNat
  split <;> [skip; split] <;> omega

theorem State.modCart_framed (f : Cartridge → Cartridge) : (s.modLink Link.framed).modCart b f = (s.modCart b f).modLink Link.framed := by
  cases b <;> rfl

theorem State.modSpin_framed (f : Spindle → Spindle) : (s.modLink Link.framed).modSpin b f = (s.modSpin b f).modLink Link.framed := by
  cases b <;> rfl

/-- ATTN stays exact where neither the line, the event unit, the completions nor a scheduler changes. -/
theorem AttnExact.congr (h : AttnExact s) (hl : t.link = s.link) (he : t.events = s.events) (hc : t.completions = s.completions)
    (hs : ∀ c, (t.bay c).sched = (s.bay c).sched) : AttnExact t := by
  unfold AttnExact at *
  rw [hl, h, attnDue_congr (by rw [hl]) he hc (hs .A) (hs .B)]

/-! ### SET GAINS and the permit (R86, R116, R120) -/

/-- WPERM drops under an active WGATE: a write fault (R120). -/
theorem dropPermit_active (hg : (s.bay b).pins.wgate = true) :
    dropPermit b s = latchEvent .writeFault (s.setBay b
      { s.bay b with
        gate := { (s.bay b).gate with wperm := false, window := false }
        cnt := { (s.bay b).cnt with writeFaults := bump 65535 (s.bay b).cnt.writeFaults } }) := by
  unfold dropPermit
  rw [if_pos (by simpa using hg)]
  cases b <;> rfl

theorem dropPermit_idle (hg : (s.bay b).pins.wgate = false) : dropPermit b s = s.modGate b fun g => { g with wperm := false } := by
  unfold dropPermit
  rw [if_neg (by simp [hg])]

/-- The permit that a new write limit leaves (R115, R116): the one there was, with the qualification judged again. -/
theorem permitDue_requalified (x : BayState) (y : SupplyState) (g : Gains) (q : Bool) :
    permitDue { x with gains := g, gate := { x.gate with qualified := x.gate.qualified && q } } y = (permitDue x y && q) := by
  simp only [permitDue]
  cases q <;> simp

/-- The gate worked out where no write fault comes of it is the permit alone (R117). -/
theorem judgeGate_of_no_fault (h : permitDue (s.bay b) s.supply.state = true ∨ (s.bay b).gate.wperm = false ∨ (s.bay b).pins.wgate = false) :
    judgeGate b s = s.modGate b fun g => { g with wperm := permitDue (s.bay b) s.supply.state } := by
  unfold judgeGate
  split
  · next hd => rw [hd]
  · next hd =>
    have hd : permitDue (s.bay b) s.supply.state = false := by simpa using hd
    split
    · next hw =>
      have hg : (s.bay b).pins.wgate = false := by simpa [hd, hw] using h
      rw [dropPermit_idle hg, hd]
    · next hw => rw [State.modGate_self]; rw [hd]; simp at hw; rw [← hw]

/-- The gate worked out where the permit lapses under an active WGATE (R117, R120). -/
theorem judgeGate_of_fault (hd : permitDue (s.bay b) s.supply.state = false) (hw : (s.bay b).gate.wperm = true)
    (hg : (s.bay b).pins.wgate = true) :
    judgeGate b s = latchEvent .writeFault (s.setBay b
      { s.bay b with
        gate := { (s.bay b).gate with wperm := false, window := false }
        cnt := { (s.bay b).cnt with writeFaults := bump 65535 (s.bay b).cnt.writeFaults } }) := by
  rw [judgeGate, if_neg (by simp [hd]), if_pos hw, dropPermit_active hg]

theorem judgeGate_framed : judgeGate b (s.modLink Link.framed) = (judgeGate b s).modLink Link.framed := by
  have hb : (s.modLink Link.framed).bay b = s.bay b := by simp
  by_cases h : permitDue (s.bay b) s.supply.state = true ∨ (s.bay b).gate.wperm = false ∨ (s.bay b).pins.wgate = false
  · rw [judgeGate_of_no_fault h, judgeGate_of_no_fault (by simpa using h), hb]
    cases b <;> rfl
  · simp only [not_or, Bool.not_eq_true, Bool.not_eq_false] at h
    obtain ⟨hd, hw, hg⟩ := h
    rw [judgeGate_of_fault hd hw hg, judgeGate_of_fault (by simpa using hd) (by simpa using hw) (by simpa using hg), hb]
    cases b <;> rfl

theorem judgeGate_resetN : (judgeGate b s).link.resetN = s.link.resetN := by
  by_cases h : permitDue (s.bay b) s.supply.state = true ∨ (s.bay b).gate.wperm = false ∨ (s.bay b).pins.wgate = false
  · rw [judgeGate_of_no_fault h, State.modGate_link]
  · simp only [not_or, Bool.not_eq_true, Bool.not_eq_false] at h
    obtain ⟨hd, hw, hg⟩ := h
    rw [judgeGate_of_fault hd hw hg]
    cases b <;> rfl

theorem AttnExact.judgeGate (h : AttnExact s) (b : Bay) : AttnExact (judgeGate b s) := by
  by_cases hc : permitDue (s.bay b) s.supply.state = true ∨ (s.bay b).gate.wperm = false ∨ (s.bay b).pins.wgate = false
  · rw [judgeGate_of_no_fault hc]
    exact h.congr (by simp) (by simp) (by simp) (by simp)
  · simp only [not_or, Bool.not_eq_true, Bool.not_eq_false] at hc
    obtain ⟨hd, hw, hg⟩ := hc
    rw [judgeGate_of_fault hd hw hg]
    exact refreshAttn_exact _

/-! ### SET PREVENT, SET TRIM, SET GAINS, WRITE PROFILE (R6, R27, R84, R86) -/

theorem exec_setPrevent (on : Bool) (hl : LinkTakes (frameOf (.setPrevent b on)) s) (ha : AttnExact s) :
    exec (.setPrevent b on) s =
      if (s.bay b).cart.state = .empty ∨ (s.bay b).cart.state = .seating then .next (s.refusedAs 21 (toBay b) .noCartridge)
      else .next (State.answer [1, 21, toBay b, 0] (s.modCart b fun c => { c with prevent := on })) := by
  have taken : done 21 (toBay b) [] ((s.modLink Link.framed).modCart b fun c => { c with prevent := on }) =
      State.answer [1, 21, toBay b, 0] (s.modCart b fun c => { c with prevent := on }) := by
    rw [State.modCart_framed, done, reply_framed _ _ _ _ _ (by simpa using hl.1) (ha.congr (by simp) (by simp) (by simp) (by simp))]
    rfl
  rw [exec_framed rfl hl]
  simp only [takeRequest, requestSetPrevent, State.modLink_bay]
  cases hc : (s.bay b).cart.state
  case empty | seating =>
    rw [if_pos (by decide)]
    exact congrArg _ (refuse_framed s 21 (toBay b) .noCartridge hl.1 ha)
  all_goals
    rw [if_neg (by decide)]
    exact congrArg _ taken

theorem exec_setTrim (trim : Byte) (hl : LinkTakes (frameOf (.setTrim b trim)) s) (ha : AttnExact s) :
    exec (.setTrim b trim) s =
      .next (State.answer ([1, 22, toBay b, 1] ++ [BitVec.ofInt 8 (max (-32) (min 31 trim.toInt))])
        (s.modSpin b fun x => { x with trim := max (-32) (min 31 trim.toInt) })) := by
  rw [exec_framed rfl hl]
  simp only [takeRequest, requestSetTrim, clampInt_eq (show (-32 : Int) ≤ 31 by decide), i8_eq]
  rw [State.modSpin_framed, done, reply_framed _ _ _ _ _ (by simpa using hl.1) (ha.congr (by simp) (by simp) (by simp) (by simp))]
  rfl

theorem gainsTaken_eq (kv kp kd limit : BitVec 16) :
    gainsTaken kv kp kd limit =
      { kv := min 255 kv.toNat, kp := min 255 kp.toNat, kd := min 255 kd.toNat, limit := max 1 (min 48 limit.toNat) } := by
  simp [gainsTaken, clampNat_eq]

/-- The bay whose gains have been replaced and whose qualification has been judged again (R86, R116). -/
def regained (b : Bay) (g : Gains) (s : State) : State := requalify b (s.modGains b fun _ => g)

theorem regained_eq (g : Gains) :
    regained b g s = s.setBay b
      { s.bay b with
        gains := g
        gate := { (s.bay b).gate with
          qualified := (s.bay b).gate.qualified && (s.bay b).servo.pesValid && decide ((s.bay b).servo.pes.natAbs ≤ g.limit) } } := by
  cases b <;> rfl

theorem exec_setGains {kv kp kd limit : BitVec 16} (hl : LinkTakes (frameOf (.setGains b kv kp kd limit)) s) (ha : AttnExact s) :
    exec (.setGains b kv kp kd limit) s =
      .next ((judgeGate b (regained b (gainsTaken kv kp kd limit) s)).answer
        (replyFrame 1 23 (toBay b) (gainsBytes (gainsTaken kv kp kd limit)))) := by
  have hr : AttnExact (regained b (gainsTaken kv kp kd limit) s) := by
    rw [regained_eq]
    refine ha.congr (by simp) (by simp) (by simp) fun c => ?_
    rcases Bay.cases_eq b c with rfl | rfl <;> simp
  have hf : regained b (gainsTaken kv kp kd limit) (s.modLink Link.framed) = (regained b (gainsTaken kv kp kd limit) s).modLink Link.framed := by
    cases b <;> rfl
  rw [exec_framed rfl hl]
  simp only [takeRequest, requestSetGains]
  change Host.Outcome.next (done _ _ _ (judgeGate b (regained b _ _))) = _
  rw [hf, judgeGate_framed, done, reply_framed _ _ _ _ _ ?_ (hr.judgeGate b)]
  rw [judgeGate_resetN, regained_eq, State.setBay_link]
  exact hl.1

/-- R116, R120: what SET GAINS leaves of the permit. A lapse under an active WGATE is a write fault, any other change is the gate's. -/
theorem judgeGate_regained (g : Gains) (hp : PermitExact s) :
    let t := judgeGate b (regained b g s)
    let q := (s.bay b).gate.qualified && (s.bay b).servo.pesValid && decide ((s.bay b).servo.pes.natAbs ≤ g.limit)
    { t with link := s.link } = { s with events := t.events }.setBay b { s.bay b with gains := g, gate := (t.bay b).gate, cnt := (t.bay b).cnt } ∧
      (t.bay b).gate.qualified = q ∧
      (if (s.bay b).gate.wperm = true ∧ q = false ∧ (s.bay b).pins.wgate = true then
        (t.bay b).gate.window = false ∧ (t.bay b).cnt.writeFaults = bump 65535 (s.bay b).cnt.writeFaults ∧
          t.events.latched = s.events.latched ||| 0x1000
      else (t.bay b).gate.window = (s.bay b).gate.window ∧ (t.bay b).cnt = (s.bay b).cnt ∧ t.events = s.events) := by
  have hpb := hp b
  have hdue : permitDue ((regained b g s).bay b) (regained b g s).supply.state =
      (permitDue (s.bay b) s.supply.state && ((s.bay b).servo.pesValid && decide ((s.bay b).servo.pes.natAbs ≤ g.limit))) := by
    rw [regained_eq, State.setBay_bay, State.setBay_supply, ← permitDue_requalified _ _ g, Bool.and_assoc]
  have hqual : permitDue (s.bay b) s.supply.state = true → (s.bay b).gate.qualified = true := by
    simp only [permitDue, Bool.and_eq_true]
    tauto
  have hgw : ((regained b g s).bay b).gate.wperm = (s.bay b).gate.wperm := by rw [regained_eq, State.setBay_bay]
  have hpin : ((regained b g s).bay b).pins = (s.bay b).pins := by rw [regained_eq, State.setBay_bay]
  dsimp only
  split
  · next hc =>
    obtain ⟨hw, hq, hg⟩ := hc
    have hd : permitDue ((regained b g s).bay b) (regained b g s).supply.state = false := by
      rw [hdue, ← hpb, hw, Bool.true_and]
      rwa [Bool.and_assoc, hqual (hpb.symm.trans hw), Bool.true_and] at hq
    rw [judgeGate_of_fault hd (hgw.trans hw) (by rw [hpin]; exact hg)]
    cases b <;> exact ⟨rfl, rfl, rfl, rfl, rfl⟩
  · next hc =>
    have hno : permitDue ((regained b g s).bay b) (regained b g s).supply.state = true ∨
        ((regained b g s).bay b).gate.wperm = false ∨ ((regained b g s).bay b).pins.wgate = false := by
      rw [hdue, hgw, hpin, ← hpb]
      by_contra hn
      simp only [not_or, Bool.not_eq_true, Bool.not_eq_false] at hn
      obtain ⟨hd, hw, hg⟩ := hn
      exact hc ⟨hw, by rw [Bool.and_assoc, hqual (hpb.symm.trans hw), Bool.true_and]; rwa [hw, Bool.true_and] at hd, hg⟩
    rw [judgeGate_of_no_fault hno]
    cases b <;> exact ⟨rfl, rfl, rfl, rfl, rfl⟩

theorem holdsProfile_iff (p : PosState) : holdsProfile p = true ↔ p = .seeking ∨ p = .settling := by simp [holdsProfile]

/-- Settles O35: the flag, the trim and the table are set where they stand, and the gains bring the permit to a new judgement. -/
theorem preventTrimAndGainsAreSet : Obligations.PreventTrimAndGainsAreSet := by
  refine ⟨fun b on s hl ha => exec_setPrevent on hl ha, fun b trim kv kp kd limit s ha hp => ⟨fun hl => exec_setTrim trim hl ha, fun hl => ?_⟩,
    fun ds s hd hl ha => ⟨fun hx => ?_, fun hx => ?_⟩⟩
  · refine ⟨_, exec_setGains hl ha, ?_⟩
    obtain ⟨hsame, hqual, hfault⟩ := judgeGate_regained (b := b) (gainsTaken kv kp kd limit) hp
    have hg : (((judgeGate b (regained b (gainsTaken kv kp kd limit) s))).bay b).gains = gainsTaken kv kp kd limit := by
      rw [judgeGate_bay, regained_eq, State.setBay_bay]
    have hans : ∀ (bytes : List Byte) (u : State) (c : Bay), (u.answer bytes).bay c = u.bay c := fun _ _ c => by cases c <;> rfl
    refine ⟨?_, ?_, ?_, ?_⟩
    · rw [hans, hg, gainsTaken_eq]
    · simp only [hans, hg]
      exact State.answer_congr _ (by rw [judgeGate_resetN, regained_eq, State.setBay_link, State.setBay_link]) (by rw [State.setBay_link]; exact hsame)
    · simp only [hans, hg]
      exact hqual
    · simp only [hans]
      rw [hqual]
      exact hfault
  · have hbusy : (holdsProfile s.bayA.pos.state || holdsProfile s.bayB.pos.state) = true := by
      obtain ⟨b, hb⟩ := hx
      rw [← holdsProfile_iff] at hb
      cases b <;> simp_all
    rw [exec_framed rfl hl]
    simp only [takeRequest, requestWriteProfile]
    rw [if_neg (by simp [hd]), if_pos (by simpa [State.modLink, State.setLink] using hbusy)]
    exact congrArg _ (refuse_framed s 33 0 .busy hl.1 ha)
  · have hfree : (holdsProfile s.bayA.pos.state || holdsProfile s.bayB.pos.state) = false := by
      have hA := hx .A
      have hB := hx .B
      simp_all [holdsProfile]
    rw [exec_framed rfl hl]
    simp only [takeRequest, requestWriteProfile]
    rw [if_neg (by simp [hd]), if_neg (by simpa [State.modLink, State.setLink] using hfree), done]
    have hp : (ds.map fun d => clampNat 0 1023 d.toNat) = ds.map fun d => min 1023 d.toNat := by simp [clampNat_eq]
    rw [hp]
    refine congrArg _ ((reply_framed (s.setProfile (ds.map fun d => min 1023 d.toNat)) 1 33 0 _ hl.1
      (ha.congr rfl rfl rfl (by simp))).trans ?_)
    have hlen : (profileBytes (ds.map fun d => min 1023 d.toNat)).length = 32 := by
      simp [profileBytes, u16, List.length_flatMap, Function.comp_def, hd]
    simp only [replyFrame, hlen]
    rfl

end Sys2Proof.Machine
end

section
namespace Sys2Proof.Machine

variable {b c : Bay} {m : Bool} {s t u : State}

/-! ### Acts over a wait list of their own bay
The only way from an operation of one bay into the other is a grant (R56). While nothing of the other bay waits, none is made. -/

/-- The bay of a consumer. -/
def Consumer.bay : Consumer → Bay
  | .spindle b | .actuator b | .latch b => b

/-- No consumer of another bay waits. -/
def Ledger.WaitsOf (b : Bay) (l : Ledger) : Prop := ∀ d : Consumer, d.bay ≠ b → l.waits d = false

theorem Ledger.waitsOf_nil {l : Ledger} (h : l.wait = []) (b : Bay) : l.WaitsOf b := fun d _ => by simp [Ledger.waits, h]

theorem tellGrant_bay_other {g : Grant} (h : g.1.bay = b) : (tellGrant s g).bay b.other = s.bay b.other := by
  rcases g with ⟨c | c | c, n⟩ <;> (obtain rfl : c = b := h; simp [tellGrant])

theorem tellGrants_bay_other {gs : List Grant} (h : ∀ g ∈ gs, g.1.bay = b) : (tellGrants gs s).bay b.other = s.bay b.other := by
  unfold tellGrants
  induction gs generalizing s with
  | nil => rfl
  | cons g gs ih =>
    simp only [List.forall_mem_cons] at h
    exact (ih h.2).trans (tellGrant_bay_other h.1)

/-- Acts of a bay of which alone consumers wait leave the other bay as it is. -/
theorem Acts.other_bay (h : Acts b m s t) (hw : s.ledger.WaitsOf b) : t.bay b.other = s.bay b.other ∧ t.ledger.WaitsOf b := by
  induction h with
  | refl => exact ⟨rfl, hw⟩
  | moved _ ih => exact ih hw
  | judged _ _ ih => exact ih hw
  | spin _ _ _ _ ih | pos _ _ _ ih | count _ _ ih | unqualify _ ih | dropSau _ ih | history _ _ ih | close _ ih | cancel _ ih
  | complete _ _ ih | pulseOff _ _ ih | abandon _ _ ih | lamp _ ih =>
    simpa [closeWindow, changeCart, clearQualified, completeOp_ledger] using ih hw
  | fault c _ ih => simpa [faultHalt] using ih hw
  | ledger c l gs _ he hc ih =>
    obtain ⟨ho, hl⟩ := ih hw
    have hcb : c.bay = b := by rcases hc with rfl | rfl | ⟨rfl, -⟩ <;> rfl
    refine ⟨?_, fun d hd => ?_⟩
    · rw [tellGrants_bay_other fun g hg => ?_]
      · simpa using ho
      · by_contra hn
        rcases he.told g hg with e | e
        · exact hn (e ▸ hcb)
        · rw [hl g.1 hn] at e
          cases e
    · rw [tellGrants_ledger, State.setLedger_ledger]
      exact (he.kept d (fun e => hd (e ▸ hcb)) (hl d hd)).2

/-- Acts open no write window. -/
theorem Acts.window_closed (h : Acts b m s t) (c : Bay) (hw : (s.bay c).gate.window = false) : (t.bay c).gate.window = false := by
  rcases Bay.cases_eq b c with rfl | rfl
  case inr => rw [h.other_kept.2]; exact hw
  induction h with
  | refl => exact hw
  | moved _ ih => exact ih hw
  | judged _ _ ih => exact ih hw
  | close _ ih => exact closeWindow_window _ c
  | fault x _ ih => rw [faultHalt_gate]; exact ih hw
  | cancel _ ih => rw [cancelQueue_bay]; exact ih hw
  | spin _ _ _ _ ih | pos _ _ _ ih | count _ _ ih | unqualify _ ih | dropSau _ ih | history _ _ ih | complete _ _ ih
  | ledger _ _ _ _ _ _ ih | pulseOff _ _ ih | abandon _ _ ih | lamp _ ih =>
    simpa [changeCart, lampUpdate, clearQualified] using ih hw

/-! ### What acts leave of a bay and of the part -/

/-- What no operation of a bay sets of it: lines, settings and judgements, and what the cartridge is. -/
structure BayState.Kept (x y : BayState) : Prop where
  pins : y.pins = x.pins
  gains : y.gains = x.gains
  mon : y.mon = x.mon
  held : y.gate.held = x.gate.held
  wperm : y.gate.wperm = x.gate.wperm
  media : y.cart.media = x.cart.media
  prevent : y.cart.prevent = x.cart.prevent
  trim : y.spin.trim = x.spin.trim

/-- What no operation of a bay sets of the part: settings, the supply and its samples, the tags, the capacities, the reply held. -/
structure Kept (s t : State) : Prop where
  bay : ∀ c, (s.bay c).Kept (t.bay c)
  profile : t.profile = s.profile
  sense : t.sense = s.sense
  store : t.store = s.store
  supply : t.supply = s.supply
  nextTag : t.nextTag = s.nextTag
  refusals : t.refusals = s.refusals
  events : t.events = s.events
  capacity : t.ledger.capacity = s.ledger.capacity
  effective : t.ledger.effective = s.ledger.effective
  resetN : t.link.resetN = s.link.resetN
  reply : t.link.held = s.link.held

theorem BayState.Kept.refl (x : BayState) : x.Kept x := ⟨rfl, rfl, rfl, rfl, rfl, rfl, rfl, rfl⟩

theorem BayState.Kept.trans {x y z : BayState} (h : x.Kept y) (k : y.Kept z) : x.Kept z := by
  cases h; cases k; constructor <;> simp_all

theorem Kept.refl (s : State) : Kept s s := ⟨fun _ => .refl _, rfl, rfl, rfl, rfl, rfl, rfl, rfl, rfl, rfl, rfl, rfl⟩

theorem Kept.trans (h : Kept s t) (k : Kept t u) : Kept s u := by
  have hb := fun c => (h.bay c).trans (k.bay c)
  cases h; cases k; constructor <;> simp_all

/-- A change of one bay. -/
theorem Kept.setBay {x : BayState} (h : (s.bay b).Kept x) : Kept s (s.setBay b x) := by
  refine ⟨fun c => ?_, ?_, ?_, ?_, ?_, ?_, ?_, ?_, ?_, ?_, ?_, ?_⟩
  · rcases Bay.cases_eq b c with rfl | rfl
    · simpa using h
    · simpa using BayState.Kept.refl _
  all_goals simp

theorem Granted.kept (h : Granted s t) : Kept s t where
  bay c := ⟨(h.bay c).pins, (h.bay c).gains, (h.bay c).mon, (h.bay c).held, (h.bay c).wperm, (h.bay c).media, (h.bay c).prevent, (h.bay c).trim⟩
  profile := h.profile
  sense := h.sense
  store := h.store
  supply := h.supply
  nextTag := h.nextTag
  refusals := h.refusals
  events := h.events
  capacity := by rw [h.ledger]
  effective := by rw [h.ledger]
  resetN := by rw [h.link]
  reply := by rw [h.link]

theorem kept_appendRecord (r : Completion) (s : State) : Kept s (appendRecord r s) := by
  rw [appendRecord_spec]
  exact ⟨fun c => by cases c <;> exact .refl _, rfl, rfl, rfl, rfl, rfl, rfl, rfl, rfl, rfl, rfl, rfl⟩

theorem kept_lampUpdate (b : Bay) (s : State) : Kept s (lampUpdate b s) := (granted_lampUpdate b s).kept

theorem kept_changeSched (b : Bay) (f : Sched → Sched) (s : State) : Kept s (changeSched b f s) := by
  have h1 : Kept s (s.modSched b f) := .setBay ⟨rfl, rfl, rfl, rfl, rfl, rfl, rfl, rfl⟩
  refine (h1.trans (kept_lampUpdate b _)).trans ?_
  exact ⟨fun c => by rw [changeSched, refreshAttn_bay]; exact .refl _, rfl, rfl, rfl, rfl, rfl, rfl, rfl, rfl, rfl, rfl, rfl⟩

theorem kept_completeOp (b : Bay) (o : OpOutcome) (s : State) : Kept s (completeOp b o s) := by
  unfold completeOp
  split
  · exact .refl s
  · exact (kept_appendRecord _ s).trans (kept_changeSched b _ _)

theorem kept_cancelAll (b : Bay) (ops : List Op) (s : State) : Kept s (cancelAll b ops s) := by
  induction ops generalizing s with
  | nil => exact .refl s
  | cons op ops ih => exact (kept_appendRecord _ s).trans (ih _)

theorem kept_cancelQueue (b : Bay) (s : State) : Kept s (cancelQueue b s) :=
  (Kept.setBay (b := b) (x := { s.bay b with sched := { (s.bay b).sched with queue := [] } })
    ⟨rfl, rfl, rfl, rfl, rfl, rfl, rfl, rfl⟩).trans (kept_cancelAll b _ _)

theorem Acts.kept (h : Acts b m s t) : Kept s t := by
  induction h with
  | refl => exact .refl _
  | moved _ ih => exact ih
  | judged _ _ ih => exact ih
  | spin _ _ _ ht ih => exact ih.trans (.setBay ⟨rfl, rfl, rfl, rfl, rfl, rfl, rfl, ht⟩)
  | pos _ _ _ ih | count _ _ ih | history _ _ ih | close _ ih | pulseOff _ _ ih | unqualify _ ih =>
    exact ih.trans (.setBay ⟨rfl, rfl, rfl, rfl, rfl, rfl, rfl, rfl⟩)
  | dropSau _ ih => exact ih.trans (granted_dropSauWork b _).kept
  | cancel _ ih => exact ih.trans (kept_cancelQueue b _)
  | complete o _ ih => exact ih.trans (kept_completeOp b o _)
  | fault c _ ih => exact (ih.trans (kept_completeOp b _ _)).trans (kept_changeSched b _ _)
  | ledger c l gs _ he _ ih =>
    refine (ih.trans ?_).trans (granted_tellGrants gs _).kept
    exact ⟨fun c => by simpa using .refl _, rfl, rfl, rfl, rfl, rfl, rfl, rfl, he.capacity, he.effective, rfl, rfl⟩
  | abandon _ _ ih => exact ih.trans (granted_changeCart b rfl rfl).kept
  | lamp _ ih => exact ih.trans (kept_lampUpdate b _)

end Sys2Proof.Machine
end

section
namespace Sys2Proof.Machine

variable {b : Bay} {m : Bool} {s t u : State} {c : Consumer}

/-! ### The ledger's answers where little waits (R51 to R57) -/

theorem Ledger.setHold_self (l : Ledger) (c : Consumer) : l.setHold c (l.hold c) = l := by rcases c with b | b | b <;> cases b <;> rfl

theorem Ledger.setHold_of_hold {l : Ledger} {n : Nat} (h : l.hold c = n) : l.setHold c n = l := by rw [← h, Ledger.setHold_self]

theorem Ledger.waits_of_nil {l : Ledger} (h : l.wait = []) (c : Consumer) : l.waits c = false := by simp [Ledger.waits, h]

/-- R57: who does not wait has nothing to withdraw. -/
theorem withdrawRequest_of_not_waits (h : s.ledger.waits c = false) : withdrawRequest c s = s := by
  unfold withdrawRequest
  rw [(s.ledger.withdraw_spec c).2.2.2.2.1 h]
  rfl

/-- R55: with nothing waiting a reduction is the holding alone. -/
theorem lowerHolding_of_nil (h : s.ledger.wait = []) (c : Consumer) (n : Nat) :
    lowerHolding c n s = s.setLedger (if n < s.ledger.hold c then s.ledger.setHold c n else s.ledger) := by
  unfold lowerHolding Ledger.lower
  split
  · have hw : (s.ledger.setHold c n).wait = [] := by rw [Ledger.setHold_wait, h]
    have he : { s.ledger.setHold c n with wait := [] } = s.ledger.setHold c n := by rw [← hw]
    simp only [Ledger.reexamine, hw, Ledger.grantHeads, he]
    rfl
  · rfl

/-- R55: with nothing waiting a release is the holding put to 0. -/
theorem lowerHolding_zero_of_nil (h : s.ledger.wait = []) (c : Consumer) : lowerHolding c 0 s = s.setLedger (s.ledger.setHold c 0) := by
  rw [lowerHolding_of_nil h]
  split
  · rfl
  · rw [Ledger.setHold_of_hold (by omega)]

/-- R55: a consumer that does not wait holds nothing behind its release. -/
theorem lowerHolding_zero_hold (h : s.ledger.waits c = false) : (lowerHolding c 0 s).ledger.hold c = 0 := by
  unfold lowerHolding Ledger.lower
  rw [tellGrants_ledger, State.setLedger_ledger]
  split
  · rw [Ledger.reexamine, Ledger.grantHeads_hold _ _ _ (Ledger.waits_eq_false.mp (by simpa [Ledger.waits] using h)), Ledger.setHold_hold]
  · next h => exact Nat.eq_zero_of_not_pos h

/-- R52: a request above C. -/
theorem ask_of_exceeding {r : Req} (hw : s.ledger.waits c = false) (h : s.ledger.capacity < r.need) : ask c r s = tellNoBudget c s := by
  simp only [ask, Ledger.request, hw, h, Bool.false_eq_true, if_false, if_true]
  rfl

/-- R53: a request that fits over an empty list is granted. -/
theorem ask_of_fitting {r : Req} {n : Nat} (hw : s.ledger.wait = []) (hc : r.need ≤ s.ledger.capacity) (hf : s.ledger.fit c r = some n) :
    ask c r s = tellGrant (s.setLedger (s.ledger.setHold c n)) (c, n) := by
  simp only [ask, Ledger.request, Ledger.waits_of_nil hw, hf, Nat.not_lt.mpr hc, Bool.false_eq_true, if_false]
  rw [hw]
  rfl

/-- R53: a request that does not fit, or finds others waiting, joins the list. -/
theorem ask_of_waiting {r : Req} (hw : s.ledger.waits c = false) (hc : r.need ≤ s.ledger.capacity)
    (hn : s.ledger.wait = [] → s.ledger.fit c r = none) :
    ask c r s = s.setLedger { s.ledger with wait := s.ledger.wait ++ [⟨c, r⟩] } := by
  simp only [ask, Ledger.request, hw, Nat.not_lt.mpr hc, Bool.false_eq_true, if_false]
  cases hl : s.ledger.wait with
  | nil => rw [hn hl]; rfl
  | cons => rfl

/-! ### The end of an operation of a kind -/

theorem completeIf_of_kind {p : OpKind → Bool} {op : Op} (h : (s.bay b).sched.inflight = some op) (hp : p op.kind = true) (o : OpOutcome) :
    completeIf b p o s = completeOp b o s := by simp [completeIf, inflightIs, h, hp]

theorem completeIf_of_not {p : OpKind → Bool} (h : inflightIs b p s = false) (o : OpOutcome) : completeIf b p o s = s := by
  simp [completeIf, h]

theorem inflightIs_of {p : OpKind → Bool} {op : Op} (h : (s.bay b).sched.inflight = some op) : inflightIs b p s = p op.kind := by
  simp [inflightIs, h]

theorem inflightIs_none {p : OpKind → Bool} (h : (s.bay b).sched.inflight = none) : inflightIs b p s = false := by simp [inflightIs, h]

theorem inflightIs_congr {p : OpKind → Bool} (h : (t.bay b).sched.inflight = (s.bay b).sched.inflight) :
    inflightIs b p t = inflightIs b p s := by simp [inflightIs, h]

/-- R152: only a success gives another detail than the attempt of a SPIN UP. -/
theorem detailOf_of_failed {o : OpOutcome} (ho : o ≠ .success) (x : BayState) (k : OpKind) :
    detailOf x k o = if k = .spinUp then some x.spin.attempt else none := by
  cases k <;> cases o <;> first | rfl | exact absurd rfl ho

theorem completeOp_completions {op : Op} (h : (s.bay b).sched.inflight = some op) (o : OpOutcome) :
    (completeOp b o s).completions = recorded s.completions ⟨op.tag, b, op.kind, o, detailOf (s.bay b) op.kind o⟩ :=
  ((completeOp_spec s b o).2 op h).1

@[simp] theorem completeIf_pos (p : OpKind → Bool) (o : OpOutcome) (s : State) (b c : Bay) :
    ((completeIf b p o s).bay c).pos = (s.bay c).pos := by unfold completeIf; split <;> simp

@[simp] theorem completeIf_spin (p : OpKind → Bool) (o : OpOutcome) (s : State) (b c : Bay) :
    ((completeIf b p o s).bay c).spin = (s.bay c).spin := by unfold completeIf; split <;> simp

@[simp] theorem completeIf_cart_state (p : OpKind → Bool) (o : OpOutcome) (s : State) (b c : Bay) :
    ((completeIf b p o s).bay c).cart.state = (s.bay c).cart.state := by unfold completeIf; split <;> simp

@[simp] theorem completeIf_bay_other (p : OpKind → Bool) (o : OpOutcome) (s : State) :
    (completeIf b p o s).bay b.other = s.bay b.other := by unfold completeIf; split <;> simp

theorem completeIf_sameButLamp (p : OpKind → Bool) (o : OpOutcome) (s : State) (b : Bay) :
    (s.bay b).cart.sameButLamp ((completeIf b p o s).bay b).cart := by
  unfold completeIf
  split
  · exact completeOp_sameButLamp s b o
  · exact sameButLamp_refl _

@[simp] theorem completeIf_queue (p : OpKind → Bool) (o : OpOutcome) (s : State) (b c : Bay) :
    ((completeIf b p o s).bay c).sched.queue = (s.bay c).sched.queue := by unfold completeIf; split <;> simp

/-! ### What a scheduler's changes leave of its bay -/

@[simp] theorem faultHalt_pos (s : State) (b c : Bay) (x : Cause) : ((faultHalt b x s).bay c).pos = (s.bay c).pos := by simp [faultHalt]

@[simp] theorem faultHalt_spin (s : State) (b c : Bay) (x : Cause) : ((faultHalt b x s).bay c).spin = (s.bay c).spin := by simp [faultHalt]

@[simp] theorem faultHalt_ledger (s : State) (b : Bay) (x : Cause) : (faultHalt b x s).ledger = s.ledger := by simp [faultHalt]

theorem faultHalt_sameButLamp (x : Cause) (s : State) (b : Bay) : (s.bay b).cart.sameButLamp ((faultHalt b x s).bay b).cart :=
  (completeOp_sameButLamp s b _).trans (changeSched_sameButLamp _ b _)

/-- R153: the records of a fatal outcome. -/
theorem faultHalt_completions (x : Cause) (s : State) (b : Bay) :
    (faultHalt b x s).completions = recordedAll s.completions (faultRecords b (s.bay b) x) := by
  unfold faultHalt faultRecords
  rw [changeSched_completions]
  cases h : (s.bay b).sched.inflight with
  | none => rw [(completeOp_spec s b _).1 h]; rfl
  | some op =>
    rw [completeOp_completions h, detailOf_of_failed (by simp)]
    rfl

@[simp] theorem closeWindow_cart (s : State) (b c : Bay) : ((closeWindow b s).bay c).cart = (s.bay c).cart := by simp [closeWindow]

@[simp] theorem closeWindow_pos (s : State) (b c : Bay) : ((closeWindow b s).bay c).pos = (s.bay c).pos := by simp [closeWindow]

@[simp] theorem closeWindow_spin (s : State) (b c : Bay) : ((closeWindow b s).bay c).spin = (s.bay c).spin := by simp [closeWindow]

@[simp] theorem closeWindow_sched (s : State) (b c : Bay) : ((closeWindow b s).bay c).sched = (s.bay c).sched := by simp [closeWindow]

@[simp] theorem closeWindow_ledger (s : State) (b : Bay) : (closeWindow b s).ledger = s.ledger := by simp [closeWindow]

@[simp] theorem closeWindow_completions (s : State) (b : Bay) : (closeWindow b s).completions = s.completions := by simp [closeWindow]

@[simp] theorem closeWindow_bay_other (s : State) (b : Bay) : (closeWindow b s).bay b.other = s.bay b.other := by simp [closeWindow]

@[simp] theorem cancelQueue_pos (s : State) (b c : Bay) : ((cancelQueue b s).bay c).pos = (s.bay c).pos := by
  rcases Bay.cases_eq b c with rfl | rfl
  · rw [cancelQueue_bay]
  · simp

@[simp] theorem cancelQueue_spin (s : State) (b c : Bay) : ((cancelQueue b s).bay c).spin = (s.bay c).spin := by
  rcases Bay.cases_eq b c with rfl | rfl
  · rw [cancelQueue_bay]
  · simp

@[simp] theorem cancelQueue_gate (s : State) (b c : Bay) : ((cancelQueue b s).bay c).gate = (s.bay c).gate := by
  rcases Bay.cases_eq b c with rfl | rfl
  · rw [cancelQueue_bay]
  · simp

/-- R11, R159: the records of a cancelled queue. -/
theorem cancelQueue_completions (s : State) (b : Bay) :
    (cancelQueue b s).completions = recordedAll s.completions (cancelRecords b (s.bay b)) := by
  unfold cancelQueue cancelRecords
  rw [(cancelAll_spec b _ _).1, State.modSched_completions]
  exact congrArg _ (List.map_congr_left fun op _ => by rw [detailOf_of_failed (by simp), State.modSched_spin])

theorem cancelQueue_of_nil (h : (s.bay b).sched.queue = []) : cancelQueue b s = s := by
  unfold cancelQueue
  rw [h]
  simp only [cancelAll]
  unfold State.modSched
  rw [← h]
  exact State.setBay_self s b

@[simp] theorem lampUpdate_pos (s : State) (b c : Bay) : ((lampUpdate b s).bay c).pos = (s.bay c).pos := by simp [lampUpdate]

@[simp] theorem lampUpdate_spin (s : State) (b c : Bay) : ((lampUpdate b s).bay c).spin = (s.bay c).spin := by simp [lampUpdate]

@[simp] theorem lampUpdate_gate (s : State) (b c : Bay) : ((lampUpdate b s).bay c).gate = (s.bay c).gate := by simp [lampUpdate]

@[simp] theorem changeCart_pos (f : Cartridge → Cartridge) (s : State) (b c : Bay) : ((changeCart b f s).bay c).pos = (s.bay c).pos := by
  simp [changeCart]

@[simp] theorem changeCart_spin (f : Cartridge → Cartridge) (s : State) (b c : Bay) : ((changeCart b f s).bay c).spin = (s.bay c).spin := by
  simp [changeCart]

@[simp] theorem changeCart_gate (f : Cartridge → Cartridge) (s : State) (b c : Bay) : ((changeCart b f s).bay c).gate = (s.bay c).gate := by
  simp [changeCart]

@[simp] theorem changeCart_sched (f : Cartridge → Cartridge) (s : State) (b c : Bay) : ((changeCart b f s).bay c).sched = (s.bay c).sched := by
  simp [changeCart]

@[simp] theorem changeCart_completions (f : Cartridge → Cartridge) (s : State) (b : Bay) : (changeCart b f s).completions = s.completions := by
  simp [changeCart]

@[simp] theorem speedLostUpdate_pos (s : State) (b c : Bay) : ((speedLostUpdate b s).bay c).pos = (s.bay c).pos := by simp [speedLostUpdate]

@[simp] theorem speedLostUpdate_sched (s : State) (b c : Bay) : ((speedLostUpdate b s).bay c).sched = (s.bay c).sched := by
  simp [speedLostUpdate]

@[simp] theorem speedLostUpdate_ledger (s : State) (b : Bay) : (speedLostUpdate b s).ledger = s.ledger := by simp [speedLostUpdate]

@[simp] theorem speedLostUpdate_spin_state (s : State) (b : Bay) : ((speedLostUpdate b s).bay b).spin.state = (s.bay b).spin.state := by
  simp [speedLostUpdate]

/-- R36: away from UNLOCKED over loaded heads the speed-lost timer is off. -/
theorem speedLostUpdate_off (h : (s.bay b).spin.state ≠ .unlocked ∨ (s.bay b).pos.state.loaded = false) :
    speedLostUpdate b s = s.modSpin b fun x => { x with speedLost := none } := by
  unfold speedLostUpdate
  have hw : (decide ((s.bay b).spin.state = .unlocked) && (s.bay b).pos.state.loaded) = false := by
    rcases h with h | h <;> simp [h]
  simp only [hw, Bool.false_eq_true, if_false]

/-! ### The latch: its pulse and its request (R14 to R16) -/

theorem loadWaiting_iff : loadWaiting b s = true ↔ (s.bay b).pos.state = .parked ∧ (s.bay b).pos.pending = .load := by simp [loadWaiting]

/-- No latch pulse runs. -/
def PulseOff (b : Bay) (s : State) : Prop := (s.bay b).cart.state = .ejecting → (s.bay b).cart.phase ≠ some .pulse

theorem PulseOff.congr (h : PulseOff b s) (hc : (s.bay b).cart.sameButLamp (t.bay b).cart) : PulseOff b t := by
  unfold PulseOff
  rw [hc.eqs.1, hc.eqs.2.1]
  exact h

theorem pulseOff_of_state (h : (s.bay b).cart.state ≠ .ejecting) : PulseOff b s := fun he => absurd he h

theorem cutPulse_of_not (h : PulseOff b s) : cutPulse b s = s := by
  unfold cutPulse
  rw [if_neg]
  simp only [Bool.and_eq_true, decide_eq_true_eq]
  exact fun hc => h hc.1.1 hc.1.2

theorem judgeLatch_of_not (h : (s.bay b).cart.state ≠ .releasePending) : judgeLatch b s = s := if_neg h

theorem judgeLatch_away (hr : atRest b s = false) (hw : s.ledger.waits (.latch b) = false) : judgeLatch b s = s := by
  simp [judgeLatch, hr, withdrawRequest_of_not_waits hw]

theorem judgeLatch_rest (hs : (s.bay b).cart.state = .releasePending) (hr : atRest b s = true) (hw : s.ledger.waits (.latch b) = false) :
    judgeLatch b s = ask (.latch b) (.fixed 120) s := by simp [judgeLatch, hs, hr, hw]

/-- The cartridge behind the start of a pulse (R15). -/
def Cartridge.pulsing (c : Cartridge) : Cartridge :=
  { c with state := .ejecting, phase := some .pulse, latch := true, pulseCount := bump 3 c.pulseCount, pulseTimer := some 80000 }

/-- R15: the pulse starts at the grant of its 120, at rest. -/
theorem startPulse_eq (hs : (s.bay b).cart.state = .releasePending) (hr : atRest b s = true) :
    startPulse b 120 s = changeCart b Cartridge.pulsing
      (if 2 ≤ bump 3 (s.bay b).cart.pulseCount then countBay b (fun c => { c with ejectRetries := count c.ejectRetries }) s else s) := by
  unfold startPulse
  rw [if_pos (by simp [hs, hr])]
  dsimp only
  split <;> cases b <;> rfl

end Sys2Proof.Machine
end

section
namespace Sys2Proof.Machine

variable {b : Bay} {m : Bool} {s t u : State} {c : Consumer}

/-! ### What a pending release gets for its request (R14, R15, R52, R53) -/

theorem bump_three (n : Nat) : bump 3 n = min 3 (n + 1) := by unfold bump; split <;> omega

/-- A latch whose 120 exceed C is abandoned (R14). -/
theorem judgeLatch_noBudget (hs : (s.bay b).cart.state = .releasePending) (hr : atRest b s = true)
    (hw : s.ledger.waits (.latch b) = false) (hc : s.ledger.capacity < 120) :
    judgeLatch b s = completeIf b OpKind.isEject (.failed .noBudget)
      (changeCart b (fun c => { c with state := .seated, pulseCount := 0, phase := none }) s) := by
  rw [judgeLatch_rest hs hr hw, ask_of_exceeding (r := .fixed 120) hw hc, tellNoBudget, if_pos hs]

/-- A latch whose 120 fit over an empty list begins its pulse (R15, R53). -/
theorem judgeLatch_granted (hs : (s.bay b).cart.state = .releasePending) (hr : atRest b s = true) (hw : s.ledger.wait = [])
    (hc : 120 ≤ s.ledger.capacity) (hf : s.ledger.sum - s.ledger.hold (.latch b) + 120 ≤ s.ledger.effective) :
    judgeLatch b s = startPulse b 120 (s.setLedger (s.ledger.setHold (.latch b) 120)) := by
  rw [judgeLatch_rest hs hr (Ledger.waits_of_nil hw _), ask_of_fitting (r := .fixed 120) (n := 120) hw hc (by rw [Ledger.fit_fixed, if_pos hf])]
  rfl

/-- A latch whose 120 do not fit, or behind others, waits (R53). -/
theorem judgeLatch_waiting (hs : (s.bay b).cart.state = .releasePending) (hr : atRest b s = true)
    (hw : s.ledger.waits (.latch b) = false) (hc : 120 ≤ s.ledger.capacity)
    (hn : ¬(s.ledger.wait = [] ∧ s.ledger.sum - s.ledger.hold (.latch b) + 120 ≤ s.ledger.effective)) :
    judgeLatch b s = s.setLedger { s.ledger with wait := s.ledger.wait ++ [⟨.latch b, .fixed 120⟩] } := by
  rw [judgeLatch_rest hs hr hw, ask_of_waiting (r := .fixed 120) hw hc fun h => by rw [Ledger.fit_fixed, if_neg fun hf => hn ⟨h, hf⟩]]

/-- The pulse that starts leaves all of its bay but the cartridge and the counters. -/
theorem startPulse_bay (hs : (s.bay b).cart.state = .releasePending) (hr : atRest b s = true) :
    (s.bay b).cart.pulsing.sameButLamp ((startPulse b 120 s).bay b).cart ∧ ((startPulse b 120 s).bay b).pos = (s.bay b).pos ∧
      ((startPulse b 120 s).bay b).spin = (s.bay b).spin ∧ ((startPulse b 120 s).bay b).gate = (s.bay b).gate ∧
      ((startPulse b 120 s).bay b).cnt.ejectRetries =
        if 2 ≤ bump 3 (s.bay b).cart.pulseCount then bump 65535 (s.bay b).cnt.ejectRetries else (s.bay b).cnt.ejectRetries := by
  rw [startPulse_eq hs hr]
  split
  · refine ⟨?_, ?_, ?_, ?_, ?_⟩
    · simpa [countBay] using changeCart_sameButLamp (b := b) (s := s.modCnt b _) Cartridge.pulsing
    all_goals simp [changeCart, lampUpdate, countBay, count, Const.counterMax]
  · refine ⟨changeCart_sameButLamp _, ?_, ?_, ?_, ?_⟩
    all_goals simp [changeCart, lampUpdate]

theorem startPulse_completions (n : Nat) (s : State) : (startPulse b n s).completions = s.completions := (granted_startPulse b s n).completions

theorem startPulse_sched (n : Nat) (s : State) : ((startPulse b n s).bay b).sched = (s.bay b).sched := ((granted_startPulse b s n).bay b).sched

/-- At rest a pending release asks for its 120: the answer, and what it leaves of the bay. -/
theorem judgeLatch_asks (hs : (s.bay b).cart.state = .releasePending) (hr : atRest b s = true) (hw : s.ledger.waits (.latch b) = false) :
    LatchAsked b s.ledger (s.bay b).cart.pulseCount (judgeLatch b s) ∧ ((judgeLatch b s).bay b).spin = (s.bay b).spin ∧
      ((judgeLatch b s).bay b).pos = (s.bay b).pos ∧ (judgeLatch b s).bay b.other = s.bay b.other ∧
      (120 ≤ s.ledger.capacity →
        ((judgeLatch b s).bay b).sched = (s.bay b).sched ∧ (judgeLatch b s).completions = s.completions) := by
  unfold LatchAsked
  by_cases hc : s.ledger.capacity < 120
  · rw [judgeLatch_noBudget hs hr hw hc, if_pos hc]
    have hcart := (changeCart_sameButLamp (b := b) (s := s) fun c => { c with state := .seated, pulseCount := 0, phase := none }).trans
      (completeIf_sameButLamp OpKind.isEject (.failed .noBudget) _ b)
    refine ⟨⟨by simp, hcart.eqs.1, hcart.eqs.2.2.2.2.2.1⟩, by simp, by simp, by simp, fun h => absurd hc (by omega)⟩
  · rw [if_neg hc]
    rw [Nat.not_lt] at hc
    by_cases hf : s.ledger.wait = [] ∧ s.ledger.sum - s.ledger.hold (.latch b) + 120 ≤ s.ledger.effective
    · rw [judgeLatch_granted hs hr hf.1 hc hf.2, if_pos hf]
      obtain ⟨hcart, hpos, hspin, -, -⟩ := startPulse_bay (s := s.setLedger (s.ledger.setHold (.latch b) 120)) (by simpa using hs)
        ((atRest_congr (by simp) (by simp)).trans hr)
      rw [State.setLedger_bay] at *
      have hother : (startPulse b 120 (s.setLedger (s.ledger.setHold (.latch b) 120))).bay b.other = s.bay b.other := by simp
      obtain ⟨h1, h2, h3, -, -, h6, h7, -⟩ := hcart.eqs
      exact ⟨⟨by simp, h1, h2, h3, h6.trans (bump_three _), h7⟩, hspin, hpos, hother,
        fun _ => ⟨by simp [startPulse_sched], by simp [startPulse_completions]⟩⟩
    · rw [judgeLatch_waiting hs hr hw hc hf, if_neg hf]
      exact ⟨⟨rfl, by simpa using hs, by simp⟩, by simp, by simp, by simp, fun _ => ⟨by simp, by simp⟩⟩

/-! ### The end of an event that begins no taking (R117, R149) -/

/-- The gate worked out afresh changes its bay, the event unit and ATTN alone. -/
theorem judgeGate_eq (b : Bay) (s : State) :
    judgeGate b s = { s.setBay b ((judgeGate b s).bay b) with
      events := (judgeGate b s).events, link := { s.link with attn := (judgeGate b s).link.attn } } := by
  by_cases h : permitDue (s.bay b) s.supply.state = true ∨ (s.bay b).gate.wperm = false ∨ (s.bay b).pins.wgate = false
  · rw [judgeGate_of_no_fault h]
    cases b <;> rfl
  · simp only [not_or, Bool.not_eq_true, Bool.not_eq_false] at h
    obtain ⟨hd, hw, hg⟩ := h
    rw [judgeGate_of_fault hd hw hg]
    cases b <;> rfl

@[simp] theorem judgeGate_supply (b : Bay) (s : State) : (judgeGate b s).supply = s.supply := by
  rw [judgeGate_eq, State.setBay_supply]

@[simp] theorem judgeGate_completions (b : Bay) (s : State) : (judgeGate b s).completions = s.completions := by
  rw [judgeGate_eq, State.setBay_completions]

@[simp] theorem judgeGate_held (b : Bay) (s : State) : (judgeGate b s).link.held = s.link.held := by
  rw [judgeGate_eq]

@[simp] theorem judgeGates_cart (s : State) (c : Bay) : ((judgeGates s).bay c).cart = (s.bay c).cart := by simp [judgeGates]

@[simp] theorem judgeGates_pos (s : State) (c : Bay) : ((judgeGates s).bay c).pos = (s.bay c).pos := by simp [judgeGates]

@[simp] theorem judgeGates_spin (s : State) (c : Bay) : ((judgeGates s).bay c).spin = (s.bay c).spin := by simp [judgeGates]

@[simp] theorem judgeGates_ledger (s : State) : (judgeGates s).ledger = s.ledger := by simp [judgeGates]

@[simp] theorem judgeGates_completions (s : State) : (judgeGates s).completions = s.completions := by simp [judgeGates]

/-- An event behind which no taking is due ends with the gates. -/
theorem settle_of_takingsDone (h : TakingsDone u) : settle u = judgeGates u := by
  have hj : TakingsDone (judgeGates u) := fun c => by rw [judgeGates_sched]; exact h c
  simp only [settle, judgeTaking]
  rw [takeRun_idle _ .A _ (hj .A), takeRun_idle _ .B _ (hj .B)]

/-- Takings are due in no bay if none is in the bay of the event, the other bay's scheduler being as it was. -/
theorem TakingsDone.ofOther (h : TakingsDone s) (ho : (u.bay b.other).sched = (s.bay b.other).sched)
    (ht : mayTake (u.bay b).sched = true → (u.bay b).sched.queue = []) : TakingsDone u := by
  intro c
  rcases Bay.cases_eq b c with rfl | rfl
  · exact ht
  · rw [ho]; exact h b.other

/-- An event that leaves the other bay leaves its gate. -/
theorem judgeGates_own (hp : PermitExact s) (ho : u.bay b.other = s.bay b.other) (hx : u.supply.state = s.supply.state) :
    judgeGates u = judgeGate b u := by
  have exact_other : ∀ v : State, v.bay b.other = s.bay b.other → v.supply.state = s.supply.state → judgeGate b.other v = v :=
    fun v h1 h2 => judgeGate_exact v b.other (by rw [h1, h2]; exact hp b.other)
  cases b with
  | A => exact exact_other _ (by simpa using ho) (by simpa using hx)
  | B => exact congrArg (judgeGate .B) (exact_other u ho hx)

/-- An event of one bay that begins no taking ends with that bay's gate. -/
theorem Settled.settle_own (h : Settled s) (ho : u.bay b.other = s.bay b.other) (hx : u.supply.state = s.supply.state)
    (ht : mayTake (u.bay b).sched = true → (u.bay b).sched.queue = []) : settle u = judgeGate b u := by
  rw [settle_of_takingsDone (h.2.2.2.ofOther (congrArg BayState.sched ho) ht), judgeGates_own h.2.2.1 ho hx]

end Sys2Proof.Machine
end

section
namespace Sys2Proof.Machine

variable {b : Bay} {m : Bool} {s t u : State} {c : Consumer}

/-! ### The latch pulse and its wait (R15, R18) -/

theorem startPulse_of_not {n : Nat} (h : (s.bay b).cart.state ≠ .releasePending) : startPulse b n s = s := by simp [startPulse, h]

/-- A grant reaches the cartridge only of a bay in RELEASE_PENDING. -/
theorem tellGrant_cart {c : Bay} (g : Grant) (h : (s.bay c).cart.state ≠ .releasePending) : ((tellGrant s g).bay c).cart = (s.bay c).cart := by
  rcases g with ⟨d | d | d, n⟩
  · simp [tellGrant]
  · simp [tellGrant]
  · rcases Bay.cases_eq d c with rfl | rfl
    · rw [tellGrant, startPulse_of_not h]
    · simp [tellGrant]

theorem tellGrants_cart {c : Bay} (gs : List Grant) (h : (s.bay c).cart.state ≠ .releasePending) :
    ((tellGrants gs s).bay c).cart = (s.bay c).cart := by
  unfold tellGrants
  induction gs generalizing s with
  | nil => rfl
  | cons g gs ih => exact (ih (by rwa [tellGrant_cart g h])).trans (tellGrant_cart g h)

@[simp] theorem tellGrants_completions (gs : List Grant) (s : State) : (tellGrants gs s).completions = s.completions :=
  (granted_tellGrants gs s).completions

@[simp] theorem lowerHolding_sched (c : Consumer) (n : Nat) (s : State) (d : Bay) :
    ((lowerHolding c n s).bay d).sched = (s.bay d).sched := by simp [lowerHolding]

@[simp] theorem lowerHolding_completions (c : Consumer) (n : Nat) (s : State) : (lowerHolding c n s).completions = s.completions := by
  simp [lowerHolding]

/-- The cartridge behind the end of a pulse (R15). -/
def Cartridge.waiting (c : Cartridge) : Cartridge :=
  { c with latch := false, phase := some .wait, pulseTimer := none, waitTimer := some 1000000 }

theorem endPulse_cart (hs : (s.bay b).cart.state = .ejecting) : ((endPulse b s).bay b).cart = (s.bay b).cart.waiting := by
  unfold endPulse lowerHolding
  rw [tellGrants_cart _ (by simp [hs]), State.setLedger_bay, State.modCart_cart]
  rfl

theorem endPulse_sched (s : State) (c : Bay) : ((endPulse b s).bay c).sched = (s.bay c).sched := by simp [endPulse]

theorem endPulse_completions (s : State) : (endPulse b s).completions = s.completions := by simp [endPulse]

theorem permitDue_of_cart {x : BayState} (h : x.cart.state ≠ .seated) (y : SupplyState) : permitDue x y = false := by simp [permitDue, h]

/-- R15: the pulse ends; with nothing waiting nothing else happens. -/
theorem pulse_ends (hset : Settled s) (hs : (s.bay b).cart.state = .ejecting) (hw : s.ledger.waits (.latch b) = false)
    (hp : (s.bay b).cart.phase = some .pulse) (ht : (s.bay b).cart.pulseTimer.isSome = true) :
    After (exec (.pulseTimerExpiry b) s) fun t =>
      (t.bay b).cart = (s.bay b).cart.waiting ∧ t.hold (.latch b) = 0 ∧ (t.bay b).sched = (s.bay b).sched ∧
        t.completions = s.completions ∧
        (s.ledger.wait = [] → t = { s.modCart b fun _ => (t.bay b).cart with ledger := s.ledger.setHold (.latch b) 0 }) := by
  have hexec : exec (.pulseTimerExpiry b) s = .next (settle (endPulse b s)) := by simp [exec, execPulseTimerExpiry, hs, hp, ht]
  have hdone : TakingsDone (endPulse b s) := fun c => by rw [endPulse_sched]; exact hset.2.2.2 c
  refine ⟨_, hexec, ?_⟩
  rw [settle_of_takingsDone hdone]
  refine ⟨?_, ?_, ?_, ?_, fun hn => ?_⟩
  · rw [judgeGates_cart, endPulse_cart hs]
  · rw [State.hold, judgeGates_ledger, endPulse]
    exact lowerHolding_zero_hold (by simpa using hw)
  · rw [judgeGates_sched, endPulse_sched]
  · rw [judgeGates_completions, endPulse_completions]
  · have he : endPulse b s = (s.modCart b Cartridge.waiting).setLedger (s.ledger.setHold (.latch b) 0) := by
      unfold endPulse
      rw [lowerHolding_zero_of_nil (by simpa using hn), State.modCart_ledger]
      rfl
    have hgates : judgeGates (endPulse b s) = endPulse b s := by
      rw [← settle_of_takingsDone hdone, he]
      refine hset.settle_eq (b := b) (by simp) (by simp) (by simp) ?_
      rw [permitDue_of_cart (by simp [Cartridge.waiting, hs])]
      simpa using (hset.2.2.1 b).trans (permitDue_of_cart (by simp [hs]) _)
    rw [hgates, endPulse_cart hs, he]
    cases b <;> rfl

/-- A change of the cartridge in which the lamp stays is that change alone, in a settled state. -/
theorem lampAt_of_steady {f : Cartridge → Cartridge} (h : LampAt b s) (hm : (f (s.bay b).cart).lampMode = (s.bay b).cart.lampMode)
    (hs : (s.bay b).cart.state = .releasePending ∨ (s.bay b).cart.state = .ejecting)
    (hf : (f (s.bay b).cart).state = .releasePending ∨ (f (s.bay b).cart).state = .ejecting) : LampAt b (s.modCart b f) := by
  unfold LampAt at *
  rw [State.modCart_cart, State.modCart_sched, hm, h]
  rcases hs with hs | hs <;> rcases hf with hf | hf <;> simp [lampModeOf, hs, hf]

theorem closeWindow_of_closed (h : (s.bay b).gate.window = false) : closeWindow b s = s :=
  State.modGate_self s b _ (by cases hg : (s.bay b).gate; rw [hg] at h; cases h; rfl)

theorem isSpinUp_iff (k : OpKind) : k.isSpinUp = true ↔ k = .spinUp := by cases k <;> simp [OpKind.isSpinUp]

theorem inflightIs_isSpinUp_of_ne (h : (s.bay b).sched.inflight.map Op.kind ≠ some .spinUp) : inflightIs b OpKind.isSpinUp s = false := by
  unfold inflightIs
  split
  · next op ho =>
    rw [ho] at h
    simpa [← isSpinUp_iff] using h
  · rfl

/-- R153: a fatal outcome of a bay without a SPIN UP in flight. -/
theorem raiseFatal_of_not_spinUp (h : inflightIs b OpKind.isSpinUp s = false) (x : Cause) :
    raiseFatal b x s = faultHalt b x (closeWindow b s) := by simp [raiseFatal, h, raiseOutcome]

theorem lampModeOf_faulted (x : Cartridge) (y : Sched) (c : Cause) : lampModeOf x (y.faulted c) = .flashing := by
  simp [lampModeOf, faultHalted, Sched.faulted]

theorem faultHalt_lamp (x : Cause) (s : State) (b : Bay) : ((faultHalt b x s).bay b).cart.lampMode = .flashing := by
  have h : LampAt b (faultHalt b x s) := changeSched_lampAt b _ _
  unfold LampAt at h
  rw [h, faultHalt_sched, lampModeOf_faulted]

/-- R18: after three pulses the cartridge is jammed, a fatal outcome. -/
theorem waitOver_jams (hc : (s.bay b).cart.pulseCount = 3) (hg : (s.bay b).gate.window = false)
    (hk : (s.bay b).sched.inflight.map Op.kind ≠ some .spinUp) :
    waitOver b s = faultHalt b .jam (changeCart b (fun c => { c with state := .jammed, phase := none, waitTimer := none }) s) := by
  rw [waitOver, if_neg (by simp [hc]), raiseFatal_of_not_spinUp, closeWindow_of_closed (by simpa using hg)]
  exact inflightIs_isSpinUp_of_ne (by simpa using hk)

/-- R18: before the third pulse the release is pending again, and its latch judged. -/
theorem waitOver_retries (hset : Settled s) (hs : (s.bay b).cart.state = .ejecting) (hc : (s.bay b).cart.pulseCount < 3) :
    waitOver b s = judgeLatch b (s.modCart b fun c => { c with state := .releasePending, phase := none, waitTimer := none }) := by
  rw [waitOver, if_pos hc, changeCart_of_lampAt (lampAt_of_steady (hset.2.1 b) rfl (.inr hs) (.inl rfl))]

/-- A bay whose cartridge is not SEATED has no permit, before an operation of it and behind it. -/
theorem Settled.settle_unseated (h : Settled s) (hk : Kept s u) (ho : u.bay b.other = s.bay b.other) (hs : (u.bay b).sched = (s.bay b).sched)
    (hc : (s.bay b).cart.state ≠ .seated) (hc' : (u.bay b).cart.state ≠ .seated) : settle u = u := by
  refine h.settle_eq ho hs (by rw [hk.supply]) ?_
  rw [permitDue_of_cart hc', (hk.bay b).wperm]
  exact (h.2.2.1 b).trans (permitDue_of_cart hc _)

/-- The retry of the pulse that a granted request starts is counted (R15). -/
theorem judgeLatch_granted_cnt (hs : (s.bay b).cart.state = .releasePending) (hr : atRest b s = true) (hw : s.ledger.wait = [])
    (hc : 120 ≤ s.ledger.capacity) (hf : s.ledger.sum - s.ledger.hold (.latch b) + 120 ≤ s.ledger.effective) :
    ((judgeLatch b s).bay b).cnt.ejectRetries =
      if 1 ≤ (s.bay b).cart.pulseCount then bump 65535 (s.bay b).cnt.ejectRetries else (s.bay b).cnt.ejectRetries := by
  have hn : 2 ≤ bump 3 (s.bay b).cart.pulseCount ↔ 1 ≤ (s.bay b).cart.pulseCount := by rw [bump_three]; omega
  rw [judgeLatch_granted hs hr hw hc hf]
  simpa [hn] using (startPulse_bay (s := s.setLedger (s.ledger.setHold (.latch b) 120)) (by simpa using hs)
    ((atRest_congr (by simp) (by simp)).trans hr)).2.2.2.2

/-- R18: the retry asks for the 120 of the next pulse. -/
theorem waitOver_asks (hset : Settled s) (hs : (s.bay b).cart.state = .ejecting) (hc : (s.bay b).cart.pulseCount < 3)
    (hr : atRest b s = true) (hb : 120 ≤ s.ledger.capacity) (hw : s.ledger.wait = []) :
    let t := settle (waitOver b s)
    t.completions = s.completions ∧ (t.bay b).sched = (s.bay b).sched ∧
      LatchAsked b s.ledger (s.bay b).cart.pulseCount t ∧
      (s.ledger.sum - s.hold (.latch b) + 120 ≤ s.ledger.effective →
        (t.bay b).cnt.ejectRetries =
          if 1 ≤ (s.bay b).cart.pulseCount then bump 65535 (s.bay b).cnt.ejectRetries else (s.bay b).cnt.ejectRetries) := by
  dsimp only
  rw [waitOver_retries hset hs hc]
  generalize hv : (s.modCart b fun c => { c with state := .releasePending, phase := none, waitTimer := none }) = v
  have hvs : (v.bay b).cart.state = .releasePending := by simp [← hv]
  have hvl : v.ledger = s.ledger := by simp [← hv]
  have hvn : (v.bay b).cart.pulseCount = (s.bay b).cart.pulseCount := by simp [← hv]
  have hvr : atRest b v = true := (atRest_congr (by simp [← hv]) (by simp [← hv])).trans hr
  have hvw : v.ledger.wait = [] := by rw [hvl, hw]
  have hsv : Kept s v := by rw [← hv]; exact .setBay ⟨rfl, rfl, rfl, rfl, rfl, rfl, rfl, rfl⟩
  have hacts : Acts b false v (judgeLatch b v) := (Acts.refl false v).judgeLatch
  obtain ⟨hask, -, -, -, hkeep⟩ := judgeLatch_asks hvs hvr (Ledger.waits_of_nil hvw _)
  obtain ⟨hsched, hcomp⟩ := hkeep (by rwa [hvl])
  have hunseated : ((judgeLatch b v).bay b).cart.state ≠ .seated := by
    rw [LatchAsked, if_neg (by rw [hvl]; omega)] at hask
    split at hask
    · simp [hask.2.1]
    · simp [hask.2.1]
  rw [hset.settle_unseated (hsv.trans hacts.kept) ?_ (hsched.trans (by simp [← hv])) (by simp [hs]) hunseated]
  · refine ⟨hcomp.trans (by simp [← hv]), hsched.trans (by simp [← hv]), by rwa [hvl, hvn] at hask, fun hf => ?_⟩
    rw [judgeLatch_granted_cnt hvs hvr hvw (by rwa [hvl]) (by rw [hvl]; exact hf), hvn]
    simp [← hv]
  · exact (hacts.other_bay (Ledger.waitsOf_nil hvw b)).1.trans (by simp [← hv])

/-- R18: the third pulse's wait is the last, and its end settles where it stands. -/
theorem waitOver_jam (hset : Settled s) (hc : (s.bay b).cart.pulseCount = 3)
    (hg : (s.bay b).gate.window = false) (hk : (s.bay b).sched.inflight.map Op.kind ≠ some .spinUp) :
    let t := settle (waitOver b s)
    (t.bay b).cart.state = .jammed ∧ (t.bay b).cart.phase = none ∧ (t.bay b).cart.waitTimer = none ∧
      (t.bay b).cart.lampMode = .flashing ∧ (t.bay b).sched = (s.bay b).sched.faulted .jam ∧
      t.completions = recordedAll s.completions (faultRecords b (s.bay b) .jam) ∧ t.ledger = s.ledger ∧
      (t.bay b).spin = (s.bay b).spin ∧ (t.bay b).pos = (s.bay b).pos ∧ t.bay b.other = s.bay b.other := by
  dsimp only
  rw [waitOver_jams hc hg hk]
  generalize hv : changeCart b (fun c => { c with state := .jammed, phase := none, waitTimer := none }) s = v
  have hcart := changeCart_sameButLamp (b := b) (s := s) fun c => { c with state := .jammed, phase := none, waitTimer := none }
  rw [hv] at hcart
  have hrec : faultRecords b (v.bay b) .jam = faultRecords b (s.bay b) .jam := by simp [faultRecords, ← hv]
  have hsched : ((faultHalt b .jam v).bay b).sched = (s.bay b).sched.faulted .jam := by rw [faultHalt_sched, ← hv, changeCart_sched]
  have hother : (faultHalt b .jam v).bay b.other = s.bay b.other := by simp [← hv]
  have hsupply : (faultHalt b .jam v).supply = s.supply := ((Acts.refl false v).fault .jam).kept.supply.trans (by simp [← hv, changeCart, lampUpdate])
  rw [hset.settle_own hother (by rw [hsupply]) (by rw [hsched]; simp [mayTake, Sched.faulted])]
  obtain ⟨h1, h2, -, -, -, -, -, h8⟩ := (hcart.trans (faultHalt_sameButLamp .jam v b)).eqs
  refine ⟨?_, ?_, ?_, ?_, ?_, ?_, ?_, ?_, ?_, ?_⟩
  · rw [judgeGate_cart, h1]
  · rw [judgeGate_cart, h2]
  · rw [judgeGate_cart, h8]
  · rw [judgeGate_cart, faultHalt_lamp]
  · rw [judgeGate_sched, hsched]
  · rw [judgeGate_completions, faultHalt_completions, hrec, ← hv, changeCart_completions]
  · simp [← hv]
  · simp [← hv]
  · simp [← hv]
  · rw [judgeGate_bay_other, hother]

/-- Settles O47: the end of a pulse releases the 120; the end of its wait asks for them again, or jams. -/
theorem latchPulseAndWait : Obligations.LatchPulseAndWait := by
  refine fun b s hset hs hw => ⟨fun hp ht => pulse_ends hset hs hw hp ht, fun hp ht => ?_⟩
  have hexec : exec (.waitTimerExpiry b) s = .next (settle (waitOver b s)) := by simp [exec, execWaitTimerExpiry, hs, hp, ht]
  refine ⟨_, hexec, fun hc hr hb hn => ?_, fun hc hg hk => waitOver_jam hset hc hg hk⟩
  obtain ⟨hcomp, hsched, hask, hcnt⟩ := waitOver_asks hset hs hc hr hb hn
  refine ⟨hcomp, hsched, ?_⟩
  rw [LatchAsked, if_neg (by omega)] at hask
  by_cases hf : s.ledger.sum - s.hold (.latch b) + 120 ≤ s.ledger.effective
  · rw [if_pos ⟨hn, hf⟩] at hask
    obtain ⟨h1, h2, h3, h4, h5, -⟩ := hask
    rw [if_pos hf]
    exact ⟨h1, h2, h4, h3, by omega, hcnt hf⟩
  · rw [if_neg fun h => hf h.2, hn] at hask
    rw [if_neg hf]
    exact hask

end Sys2Proof.Machine
end

section
namespace Sys2Proof.Machine

variable {b : Bay} {m : Bool} {s t u v : State} {c : Consumer} {k : OpKind} {op : Op}

/-! ### An operation accepted for a free scheduler is taken at once (R146 to R149) -/

theorem opRefusal_framed (b : Bay) (k : OpKind) (s : State) : opRefusal b k (s.modLink Link.framed) = opRefusal b k s := by
  simp [opRefusal, seekInRange, lastTrack, slotLimit, freeSlots, State.modLink, State.setLink]
  rfl

/-- R146: an operation that the checks accept is refused for nothing. -/
theorem opRefusal_of_accepted (h : OpAccepted b k s) : opRefusal b k s = none := by
  obtain ⟨hfit, hcart, hprevent, hslots, hpool⟩ := h
  have hrange : seekInRange b k s = true := by
    unfold seekInRange
    split
    · next track head => simpa [lastTrack] using hfit track head rfl
    · rfl
  have hcartOk : cartRefusal (s.bay b).cart.state k = none := by
    rcases hcart with h | ⟨h, rfl⟩ <;> simp [h, cartRefusal, OpKind.isEject]
  have hunprevented : (k.isEject && (s.bay b).cart.prevent) = false := by
    cases k <;> simp_all [OpKind.isEject]
  have hroom : (decide (slotLimit b s ≤ slotsHeld (s.bay b).sched) || decide (freeSlots s = 0)) = false := by
    rw [Bool.or_eq_false_iff, decide_eq_false_iff_not, decide_eq_false_iff_not]
    exact ⟨Nat.not_le.mpr hslots, by simp only [freeSlots, Const.poolSize]; omega⟩
  simp [opRefusal, hrange, hcartOk, hunprevented, hroom]

theorem judgeTaking_of_one (hm : mayTake (v.bay b).sched = true) (hq : (v.bay b).sched.queue = [op]) :
    judgeTaking b v = judgeGates (takeHead b op [] v) := by simp [judgeTaking, hq, takeRun, hm]

/-- The settling of an event that leaves one operation due, in one bay. -/
theorem settle_of_one (hp : PermitExact v) (hm : mayTake (v.bay b).sched = true) (hq : (v.bay b).sched.queue = [op])
    (ho : mayTake (v.bay b.other).sched = true → (v.bay b.other).sched.queue = []) :
    settle v = judgeGates (takeHead b op [] v) := by
  have hg : judgeGates v = v := by
    simp only [judgeGates]
    rw [judgeGate_exact _ .A (hp .A), judgeGate_exact _ .B (hp .B)]
  have hother : mayTake ((judgeGates (takeHead b op [] v)).bay b.other).sched = true →
      ((judgeGates (takeHead b op [] v)).bay b.other).sched.queue = [] := by
    rw [judgeGates_sched, (takeHead_queue b op [] v).1]
    exact ho
  rw [settle, hg]
  cases b with
  | A =>
    rw [judgeTaking_of_one hm hq]
    exact takeRun_idle _ .B _ hother
  | B =>
    have hA : judgeTaking .A v = v := takeRun_idle v .A _ ho
    rw [hA, judgeTaking_of_one hm hq]

/-- The state behind the taking of an operation accepted for a free scheduler, before the operation starts (R147, R149). -/
def begun (b : Bay) (k : OpKind) (s : State) : State :=
  changeSched b (Sched.taken ⟨s.nextTag, k⟩ []) (acceptOp b k (s.modLink Link.framed))

/-- A command that is an operation request of this bay. -/
theorem exec_taken {i : Instr} (hi : i.isRequest = true) (ht : takeRequest i = requestOp b k) (hl : LinkTakes (frameOf i) s)
    (hset : Settled s) (ha : OpAccepted b k s) (hf : SchedFree (s.bay b).sched) :
    exec i s = .next (judgeGates (startOp b k (begun b k s))) := by
  obtain ⟨hrun, hidle, hempty⟩ := hf
  have hother : (acceptOp b k (s.modLink Link.framed)).bay b.other = s.bay b.other := by
    simp [acceptOp, queued, reply, advanceTag]
  have hbay : (acceptOp b k (s.modLink Link.framed)).bay b =
      { s.bay b with sched := { (s.bay b).sched with queue := (s.bay b).sched.queue ++ [⟨s.nextTag, k⟩] } } := by
    cases b <;> rfl
  have hsupply : (acceptOp b k (s.modLink Link.framed)).supply = s.supply := by simp [acceptOp, queued, reply, advanceTag]
  rw [exec_framed hi hl, ht, (requestOp_spec _ b k).2 (by rw [opRefusal_framed, opRefusal_of_accepted ha])]
  rw [settle_of_one (b := b) (op := ⟨s.nextTag, k⟩)]
  · rfl
  · refine hset.2.2.1.ofBay hother (by rw [hsupply]) ?_
    rw [hbay, hsupply]
    exact hset.2.2.1 b
  · rw [hbay]; simp [mayTake, hrun, hidle]
  · rw [hbay]; simp [hempty]
  · rw [hother]; exact hset.2.2.2 b.other

theorem begun_bay_other (b : Bay) (k : OpKind) (s : State) : (begun b k s).bay b.other = s.bay b.other := by
  simp [begun, acceptOp, queued, reply, advanceTag]

theorem begun_sched (b : Bay) (k : OpKind) (s : State) : ((begun b k s).bay b).sched = (s.bay b).sched.holding ⟨s.nextTag, k⟩ := by
  unfold begun
  rw [(changeSched_spec _ b _).1]
  simp [acceptOp, queued, reply, advanceTag, Sched.taken, Sched.holding]

theorem begun_ledger (b : Bay) (k : OpKind) (s : State) : (begun b k s).ledger = s.ledger := by
  simp [begun, acceptOp, queued, reply, advanceTag]

theorem begun_completions (b : Bay) (k : OpKind) (s : State) : (begun b k s).completions = s.completions := by
  simp [begun, acceptOp, queued, reply, advanceTag]

theorem begun_cart (b : Bay) (k : OpKind) (s : State) : (s.bay b).cart.sameButLamp ((begun b k s).bay b).cart := by
  have h := changeSched_sameButLamp (acceptOp b k (s.modLink Link.framed)) b (Sched.taken ⟨s.nextTag, k⟩ [])
  have hc : ((acceptOp b k (s.modLink Link.framed)).bay b).cart = (s.bay b).cart := by simp [acceptOp, queued, reply, advanceTag]
  rwa [hc] at h

theorem begun_spin (b : Bay) (k : OpKind) (s : State) : ((begun b k s).bay b).spin = (s.bay b).spin := by
  simp [begun, acceptOp, queued, reply, advanceTag]

theorem begun_pos (b : Bay) (k : OpKind) (s : State) : ((begun b k s).bay b).pos = (s.bay b).pos := by
  simp [begun, acceptOp, queued, reply, advanceTag]

theorem begun_pins (b : Bay) (k : OpKind) (s : State) : ((begun b k s).bay b).pins = (s.bay b).pins := by
  have h := ((kept_changeSched b (Sched.taken ⟨s.nextTag, k⟩ []) (acceptOp b k (s.modLink Link.framed))).bay b).pins
  have hp : ((acceptOp b k (s.modLink Link.framed)).bay b).pins = (s.bay b).pins := by simp [acceptOp, queued, reply, advanceTag]
  exact h.trans hp

theorem begun_supply (b : Bay) (k : OpKind) (s : State) : (begun b k s).supply = s.supply := by
  have h := (kept_changeSched b (Sched.taken ⟨s.nextTag, k⟩ []) (acceptOp b k (s.modLink Link.framed))).supply
  have hp : (acceptOp b k (s.modLink Link.framed)).supply = s.supply := by simp [acceptOp, queued, reply, advanceTag]
  exact h.trans hp

theorem begun_held (b : Bay) (k : OpKind) (s : State) :
    (begun b k s).link.held = [2, byteOf k.code, toBay b, 1, byteOf s.nextTag] := by
  rw [begun, (kept_changeSched b _ _).reply]
  rfl

end Sys2Proof.Machine
end

section
namespace Sys2Proof.Machine

variable {b : Bay} {m : Bool} {s t u v : State} {c : Consumer} {k : OpKind} {op : Op}

/-! ### Braking and unloading over an empty wait list (R37, R38, R103, R104) -/

/-- A spindle at its entry to BRAKING (R38). -/
def Spindle.braking (p : BrakePurpose) (x : Spindle) : Spindle :=
  { x with state := .braking, drive := 0, phases := .off, sbrk := true, inside := 0, outside := 0, purpose := some p,
           brakeMark := false, stageTimer := none, speedLost := none, tachTimer := some 500000, brakeLimit := some 10000000 }

/-- A positioner at its entry to UNLOADING (R104). -/
def Positioner.unloading (p : Positioner) : Positioner :=
  { p with state := .unloading, act := -25, source := .rail, owner := .none, pending := .none, loadWait := none, loadTimer := none,
           seekTimer := none, unloadTimer := some 500000 }

theorem not_atRest_of_pos (h : (s.bay b).pos.state ≠ .parked) : atRest b s = false := by simp [atRest, h]

theorem not_atRest_of_spin (h : (s.bay b).spin.state ≠ .stopped) : atRest b s = false := by simp [atRest, h]

theorem loadWaiting_of_pos (h : (s.bay b).pos.state ≠ .parked) : loadWaiting b s = false := by simp [loadWaiting, h]

theorem loadWaiting_of_pending (h : (s.bay b).pos.pending ≠ .load) : loadWaiting b s = false := by simp [loadWaiting, h]

theorem loadWaiting_congr (h : (t.bay b).pos = (s.bay b).pos) : loadWaiting b t = loadWaiting b s := by simp [loadWaiting, h]

/-- Without a load wait a change of the spindle works out the speed-lost timer, the pulse and the latch alone. -/
theorem spindleChanged_eq (hl : loadWaiting b s = false) (hp : PulseOff b s) : spindleChanged b s = judgeLatch b (speedLostUpdate b s) := by
  have hl' : loadWaiting b (speedLostUpdate b s) = false := (loadWaiting_congr (by simp)).trans hl
  have hp' : PulseOff b (speedLostUpdate b s) := hp.congr (by simp [sameButLamp_refl])
  unfold spindleChanged
  dsimp only
  split
  · rw [tryLoading, if_neg (by simp [hl']), cutPulse_of_not hp']
  · rw [failLoadWait, if_neg (by simp [hl']), cutPulse_of_not hp']

/-- R38: with no load wait, no pulse and nothing waiting, BRAKING is the spindle and its reservation. -/
theorem enterBraking_eq (hw : s.ledger.wait = []) (hl : loadWaiting b s = false) (hp : PulseOff b s) (p : BrakePurpose) :
    enterBraking b p s = (s.modSpin b (Spindle.braking p)).setLedger (s.ledger.setHold (.spindle b) 0) := by
  unfold enterBraking
  dsimp only
  rw [lowerHolding_zero_of_nil (by simpa using hw), spindleChanged_eq ((loadWaiting_congr (by simp)).trans hl) (hp.congr (by simp [sameButLamp_refl])),
    speedLostUpdate_off (.inl (by simp)), judgeLatch_away (not_atRest_of_spin (by simp)) (Ledger.waits_of_nil (by simpa using hw) _)]
  cases b <;> rfl

/-- R37: a brake order over a turning spindle that nothing defers. -/
theorem brakeOrder_turning (ht : (s.bay b).spin.state.turning = true) (hd : (s.bay b).pos.state.defersBrake = false) :
    brakeOrder b s = enterBraking b .stop s := by
  unfold brakeOrder
  cases hs : (s.bay b).spin.state <;> simp [hs, SpinState.turning] at ht <;> simp [hd]

/-- R37: a brake order over a spindle that does not turn and waits for no power. -/
theorem brakeOrder_still (ht : (s.bay b).spin.state.turning = false) (hw : (s.bay b).spin.state ≠ .waitPower) : brakeOrder b s = s := by
  unfold brakeOrder
  cases hs : (s.bay b).spin.state <;> simp [hs, SpinState.turning] at ht hw ⊢

/-- The SAU's work and the qualification go with the heads (R71, R116). -/
def silenced (b : Bay) (s : State) : State := clearQualified b (dropSauWork b s)

/-- The servo's part of a change of the positioner. -/
def reported (b : Bay) (s : State) : State := if (s.bay b).pos.state.loaded then s else silenced b s

/-- The brake orders that wait for a change of the positioner: the mark's (R37) and the release's (R12). -/
def brakesDue (b : Bay) (s : State) : State :=
  let s := if (s.bay b).spin.brakeMark && !(s.bay b).pos.state.defersBrake then brakeOrder b s else s
  if (s.bay b).cart.state = .releasePending && !(s.bay b).pos.state.defersBrake then brakeOrder b s else s

theorem posChanged_eq (b : Bay) (s : State) :
    posChanged b s = judgeLatch b (cutPulse b (brakesDue b (speedLostUpdate b (reported b s)))) := rfl

theorem brakesDue_deferred (h : (s.bay b).pos.state.defersBrake = true) : brakesDue b s = s := by simp [brakesDue, h]

/-- No brake order waits, or the spindle is one that a brake order leaves. -/
theorem brakesDue_still (ht : (s.bay b).spin.state.turning = false) (hw : (s.bay b).spin.state ≠ .waitPower) : brakesDue b s = s := by
  simp [brakesDue, brakeOrder_still ht hw]

theorem brakesDue_none (hm : (s.bay b).spin.brakeMark = false) (hr : (s.bay b).cart.state ≠ .releasePending) : brakesDue b s = s := by
  simp [brakesDue, hm, hr]

theorem reported_off (h : (s.bay b).pos.state.loaded = false) : reported b s = silenced b s := by simp [reported, h]

@[simp] theorem silenced_pos (b c : Bay) (s : State) : ((silenced b s).bay c).pos = (s.bay c).pos := by simp [silenced, clearQualified]

@[simp] theorem silenced_spin (b c : Bay) (s : State) : ((silenced b s).bay c).spin = (s.bay c).spin := by simp [silenced, clearQualified]

@[simp] theorem silenced_cart (b c : Bay) (s : State) : ((silenced b s).bay c).cart = (s.bay c).cart := by simp [silenced, clearQualified]

@[simp] theorem silenced_sched (b c : Bay) (s : State) : ((silenced b s).bay c).sched = (s.bay c).sched := by simp [silenced, clearQualified]

@[simp] theorem silenced_ledger (b : Bay) (s : State) : (silenced b s).ledger = s.ledger := by simp [silenced, clearQualified]

@[simp] theorem silenced_completions (b : Bay) (s : State) : (silenced b s).completions = s.completions := by simp [silenced, clearQualified]

@[simp] theorem silenced_bay_other (b : Bay) (s : State) : (silenced b s).bay b.other = s.bay b.other := by simp [silenced, clearQualified]

/-- A bay behind a change of its positioner to a state without heads on the platter, no pulse running: the SAU silenced, the speed-lost timer
off. -/
def headsOff (b : Bay) (s : State) : State := (silenced b s).modSpin b fun x => { x with speedLost := none }

theorem speedLostUpdate_reported (h : (s.bay b).pos.state.loaded = false) : speedLostUpdate b (reported b s) = headsOff b s := by
  rw [reported_off h, speedLostUpdate_off (.inr (by simpa using h))]
  rfl

@[simp] theorem headsOff_pos (b c : Bay) (s : State) : ((headsOff b s).bay c).pos = (s.bay c).pos := by simp [headsOff]

@[simp] theorem headsOff_spin (b : Bay) (s : State) : ((headsOff b s).bay b).spin = { (s.bay b).spin with speedLost := none } := by
  simp [headsOff]

@[simp] theorem headsOff_cart (b c : Bay) (s : State) : ((headsOff b s).bay c).cart = (s.bay c).cart := by simp [headsOff]

@[simp] theorem headsOff_sched (b c : Bay) (s : State) : ((headsOff b s).bay c).sched = (s.bay c).sched := by simp [headsOff]

@[simp] theorem headsOff_ledger (b : Bay) (s : State) : (headsOff b s).ledger = s.ledger := by simp [headsOff]

@[simp] theorem headsOff_completions (b : Bay) (s : State) : (headsOff b s).completions = s.completions := by simp [headsOff]

@[simp] theorem headsOff_bay_other (b : Bay) (s : State) : (headsOff b s).bay b.other = s.bay b.other := by simp [headsOff]

/-- A change of the positioner to UNLOADING, with no pulse. -/
theorem posChanged_deferring (hd : (s.bay b).pos.state.defersBrake = true) (hl : (s.bay b).pos.state.loaded = false) (hp : PulseOff b s)
    (hw : s.ledger.waits (.latch b) = false) : posChanged b s = headsOff b s := by
  have hnot : (s.bay b).pos.state ≠ .parked := fun h => by simp [h, PosState.defersBrake, PosState.loaded] at hd
  rw [posChanged_eq, speedLostUpdate_reported hl, brakesDue_deferred (by simpa using hd),
    cutPulse_of_not (hp.congr (by simp [sameButLamp_refl])), judgeLatch_away (not_atRest_of_pos (by simpa using hnot)) (by simpa using hw)]

theorem State.modPos_modPos (f g : Positioner → Positioner) (s : State) (b : Bay) : (s.modPos b f).modPos b g = s.modPos b fun p => g (f p) := by
  cases b <;> rfl

/-- With nothing waiting, what an actuator asked for is given up and its holding reduced. -/
theorem lowerHolding_dropPending (hw : s.ledger.wait = []) (f : Positioner → Positioner) (n : Nat) :
    lowerHolding (.actuator b) n (dropPending b (s.modPos b f)) = (s.modPos b fun p => { f p with pending := .none }).setLedger
      (if n < s.ledger.hold (.actuator b) then s.ledger.setHold (.actuator b) n else s.ledger) := by
  unfold dropPending
  rw [State.modPos_modPos, withdrawRequest_of_not_waits (Ledger.waits_of_nil (by simpa using hw) _), lowerHolding_of_nil (by simpa using hw),
    State.modPos_ledger]

/-- R103, R104: with PARK false, no pulse and nothing waiting, UNLOADING is the positioner, its holding and the speed-lost timer. -/
theorem enterUnloading_eq (hw : s.ledger.wait = []) (hk : (s.bay b).pins.park = false) (hp : PulseOff b s) :
    enterUnloading b s =
      headsOff b ((s.modPos b Positioner.unloading).setLedger
        (if 60 < s.ledger.hold (.actuator b) then s.ledger.setHold (.actuator b) 60 else s.ledger)) := by
  unfold enterUnloading
  dsimp only
  rw [lowerHolding_dropPending hw, posChanged_deferring (by simp [PosState.defersBrake]) (by simp [PosState.loaded])
    (hp.congr (by simp [sameButLamp_refl])) ?_, if_neg]
  · rfl
  · simp [headsOff, silenced, clearQualified, hk]
  · rw [State.setLedger_ledger]
    split <;> exact Ledger.waits_of_nil (by simp [hw]) _

end Sys2Proof.Machine
end

section
namespace Sys2Proof.Machine

variable {b : Bay} {m : Bool} {s t u v : State} {c : Consumer} {k : OpKind} {op : Op}

/-! ### A release is accepted (R10 to R13) -/

/-- The bay at the acceptance of a release, before what is in flight is stopped (R11). -/
def releasing (b : Bay) (s : State) : State :=
  cancelQueue b (closeWindow b (changeCart b (fun c => { c with state := .releasePending, pulseCount := 0, phase := none }) s))

theorem requestRelease_eq (h : (s.bay b).cart.state = .seated ∨ (s.bay b).cart.state = .jammed) :
    requestRelease b s = orderToRest b (stopForRelease b (releasing b s)) := by
  rcases h with h | h <;> simp only [requestRelease, h] <;> rfl

theorem releasing_cart (b : Bay) (s : State) :
    ({ (s.bay b).cart with state := .releasePending, pulseCount := 0, phase := none } : Cartridge).sameButLamp ((releasing b s).bay b).cart := by
  simpa [releasing] using changeCart_sameButLamp (b := b) (s := s) fun c => { c with state := .releasePending, pulseCount := 0, phase := none }

@[simp] theorem releasing_state (b : Bay) (s : State) : ((releasing b s).bay b).cart.state = .releasePending := (releasing_cart b s).eqs.1

@[simp] theorem releasing_pos (b c : Bay) (s : State) : ((releasing b s).bay c).pos = (s.bay c).pos := by simp [releasing]

@[simp] theorem releasing_spin (b c : Bay) (s : State) : ((releasing b s).bay c).spin = (s.bay c).spin := by simp [releasing]

@[simp] theorem releasing_ledger (b : Bay) (s : State) : (releasing b s).ledger = s.ledger := by simp [releasing]

@[simp] theorem releasing_bay_other (b : Bay) (s : State) : (releasing b s).bay b.other = s.bay b.other := by simp [releasing]

@[simp] theorem releasing_window (b : Bay) (s : State) : ((releasing b s).bay b).gate.window = false := by simp [releasing, closeWindow_window]

theorem releasing_sched (b : Bay) (s : State) : ((releasing b s).bay b).sched = { (s.bay b).sched with queue := [] } := by
  rw [releasing, cancelQueue_sched]
  simp

@[simp] theorem releasing_inflight (b : Bay) (s : State) : ((releasing b s).bay b).sched.inflight = (s.bay b).sched.inflight := by
  rw [releasing_sched]

theorem releasing_completions (b : Bay) (s : State) :
    (releasing b s).completions = recordedAll s.completions (cancelRecords b (s.bay b)) := by
  simp [releasing, cancelQueue_completions, cancelRecords]

theorem releasing_kept (b : Bay) (s : State) : Kept s (releasing b s) :=
  ((granted_changeCart b rfl rfl).kept.trans ((Acts.refl false _).close (b := b)).kept).trans (kept_cancelQueue b _)

theorem releasing_lampAt (b : Bay) (s : State) : LampAt b (releasing b s) := cancelQueue_lampAt (closeWindow_lampAt (changeCart_lampAt b _ _))

/-- R11: with no SPIN UP, LOAD HEADS or SEEK in flight nothing is stopped. -/
theorem stopForRelease_idle (hu : inflightIs b OpKind.isSpinUp s = false) (hl : inflightIs b OpKind.isLoad s = false)
    (hs : inflightIs b OpKind.isSeek s = false) : stopForRelease b s = s := by
  simp [stopForRelease, cancelSpinUp, stopByUnload, hu, hl, hs]

/-- R21: a bay being released whose scheduler is not fault-halted shows a steady lamp. -/
theorem LampAt.steady (h : LampAt b s) (hc : (s.bay b).cart.state = .releasePending ∨ (s.bay b).cart.state = .ejecting)
    (hf : faultHalted (s.bay b).sched = false) : (s.bay b).cart.lampMode = .steady := by
  unfold LampAt at h
  rw [h]
  rcases hc with hc | hc <;> simp [lampModeOf, hc, hf]

/-! #### What orders to rest give (R12) -/

theorem orderToRest_rest (h : atRest b s = true) : orderToRest b s = judgeLatch b s := by
  obtain ⟨hp, hs⟩ := (atRest_iff s b).mp h
  simp [orderToRest, hp, hs, PosState.loaded]

/-- The heads are on their way already: the platter waits for them. -/
theorem orderToRest_deferred (hl : (s.bay b).pos.state.loaded = false) (hd : (s.bay b).pos.state.defersBrake = true) (hw : s.ledger.waits (.latch b) = false) :
    orderToRest b s = s := by
  have hnot : (s.bay b).pos.state ≠ .parked := fun h => by simp [h, PosState.defersBrake, PosState.loaded] at hd
  simp [orderToRest, hl, hd, judgeLatch_away (not_atRest_of_pos hnot) hw]

/-- R12: loaded heads are unloaded, and the platter waits for them. -/
theorem orderToRest_loaded (hl : (s.bay b).pos.state.loaded = true) (hw : s.ledger.wait = []) (hk : (s.bay b).pins.park = false)
    (hp : PulseOff b s) :
    orderToRest b s = headsOff b ((s.modPos b Positioner.unloading).setLedger
        (if 60 < s.ledger.hold (.actuator b) then s.ledger.setHold (.actuator b) 60 else s.ledger)) := by
  unfold orderToRest
  simp only [hl, if_true, unloadOrder]
  rw [enterUnloading_eq hw hk hp]
  simp only [headsOff_pos, State.setLedger_bay, State.modPos_pos, Positioner.unloading, PosState.defersBrake, Bool.not_true, Bool.and_false,
    Bool.false_eq_true, if_false]
  refine judgeLatch_away (not_atRest_of_pos (by simp [Positioner.unloading])) (Ledger.waits_of_nil ?_ _)
  rw [headsOff_ledger, State.setLedger_ledger]
  split <;> simp [hw]

/-- R12: with the heads off, a turning platter is braked. -/
theorem orderToRest_turning (hd : (s.bay b).pos.state.defersBrake = false) (ht : (s.bay b).spin.state.turning = true) (hw : s.ledger.wait = [])
    (hl : loadWaiting b s = false) (hp : PulseOff b s) :
    orderToRest b s = (s.modSpin b (Spindle.braking .stop)).setLedger (s.ledger.setHold (.spindle b) 0) := by
  have hload : (s.bay b).pos.state.loaded = false := by cases h : (s.bay b).pos.state <;> simp_all [PosState.defersBrake, PosState.loaded]
  have hstop : (s.bay b).spin.state ≠ .stopped := fun h => by simp [h, SpinState.turning] at ht
  unfold orderToRest
  simp only [hload, Bool.false_eq_true, if_false, hd, hstop, ne_eq, not_false_eq_true, decide_true, Bool.not_false, Bool.and_self, if_true]
  rw [brakeOrder_turning ht hd, enterBraking_eq hw hl hp]
  exact judgeLatch_away (not_atRest_of_spin (by simp [Spindle.braking])) (Ledger.waits_of_nil (by simp [hw]) _)

/-- R12: with the heads off and the platter braking, faulted or at rest, no order is due. -/
theorem orderToRest_still (hd : (s.bay b).pos.state.defersBrake = false) (ht : (s.bay b).spin.state.turning = false)
    (hn : (s.bay b).spin.state ≠ .waitPower) (hr : atRest b s = false) (hw : s.ledger.waits (.latch b) = false) : orderToRest b s = s := by
  have hload : (s.bay b).pos.state.loaded = false := by cases h : (s.bay b).pos.state <;> simp_all [PosState.defersBrake, PosState.loaded]
  unfold orderToRest
  simp only [hload, Bool.false_eq_true, if_false, brakeOrder_still ht hn, ite_self]
  exact judgeLatch_away hr hw

/-! ### EJECT (R10 to R16) -/

/-- A state in which the release of an EJECT has been accepted, before its mechanisms are ordered to rest. -/
structure EjectBegun (b : Bay) (s v : State) : Prop where
  ledger : v.ledger = s.ledger
  completions : v.completions = s.completions
  spin : (v.bay b).spin = (s.bay b).spin
  pos : (v.bay b).pos = (s.bay b).pos
  other : v.bay b.other = s.bay b.other
  state : (v.bay b).cart.state = .releasePending
  pulseCount : (v.bay b).cart.pulseCount = 0
  media : (v.bay b).cart.media = (s.bay b).cart.media
  sched : (v.bay b).sched = (s.bay b).sched.holding ⟨s.nextTag, .eject⟩
  window : (v.bay b).gate.window = false
  pins : (v.bay b).pins = (s.bay b).pins
  supply : v.supply = s.supply
  held : v.link.held = [2, 8, toBay b, 1, byteOf s.nextTag]
  lamp : LampAt b v

theorem Sched.holding_queue (x : Sched) (op : Op) : (x.holding op).queue = [] := by unfold Sched.holding; split <;> rfl

theorem Sched.holding_inflight (x : Sched) (op : Op) : (x.holding op).inflight = some op := by unfold Sched.holding; split <;> rfl

theorem Sched.holding_not_faultHalted {x : Sched} (h : x.state = .running) (op : Op) : faultHalted (x.holding op) = false := by
  unfold Sched.holding faultHalted
  split <;> simp [h]

theorem Sched.holding_ended {x : Sched} (h : x.state = .running) (op : Op) : (x.holding op).ended = x.through := by
  by_cases hs : x.step = true <;> simp [Sched.holding, Sched.through, Sched.ended, hs, h]

theorem ejectBegun (b : Bay) (s : State) : EjectBegun b s (releasing b (begun b .eject s)) := by
  have hq : ((begun b .eject s).bay b).sched.queue = [] := by rw [begun_sched, Sched.holding_queue]
  have hcart := releasing_cart b (begun b .eject s)
  have hk := releasing_kept b (begun b .eject s)
  exact {
    ledger := by simp [begun_ledger]
    completions := by rw [releasing_completions, cancelRecords, hq]; exact begun_completions b _ s
    spin := by simp [begun_spin]
    pos := by simp [begun_pos]
    other := by simp [begun_bay_other]
    state := releasing_state _ _
    pulseCount := hcart.eqs.2.2.2.2.2.1
    media := hcart.eqs.2.2.2.1.trans (begun_cart b .eject s).eqs.2.2.2.1
    sched := by rw [releasing_sched, begun_sched]; unfold Sched.holding; split <;> rfl
    window := releasing_window _ _
    pins := (hk.bay b).pins.trans (begun_pins b _ s)
    supply := hk.supply.trans (begun_supply b _ s)
    held := hk.reply.trans (begun_held b _ s)
    lamp := releasing_lampAt _ _ }

/-- An EJECT accepted for a free scheduler orders its bay to rest at once. -/
theorem exec_eject (hl : LinkTakes (frameOf (.eject b)) s) (hset : Settled s) (ha : OpAccepted b .eject s) (hf : SchedFree (s.bay b).sched) :
    exec (.eject b) s = .next (judgeGates (orderToRest b (releasing b (begun b .eject s)))) := by
  have hstate : ((begun b .eject s).bay b).cart.state = .seated ∨ ((begun b .eject s).bay b).cart.state = .jammed := by
    rw [(begun_cart b .eject s).eqs.1]
    exact ha.2.1.imp_right And.left
  have hin : ((releasing b (begun b .eject s)).bay b).sched.inflight = some ⟨s.nextTag, .eject⟩ := by
    rw [releasing_inflight, begun_sched, Sched.holding_inflight]
  rw [exec_taken rfl rfl hl hset ha hf]
  change Host.Outcome.next (judgeGates (requestRelease b _)) = _
  rw [requestRelease_eq hstate, stopForRelease_idle] <;> rw [inflightIs_of hin] <;> rfl

/-- The end of an EJECT's event: the gate's bay is the release's own, and what acts of it keep is kept. -/
theorem EjectBegun.ends (h : EjectBegun b s v) (hset : Settled s) (ha : Acts b false v u) (ho : u.bay b.other = v.bay b.other) :
    (judgeGates u).bay b.other = s.bay b.other ∧ ((judgeGates u).bay b).cart.media = (s.bay b).cart.media ∧
      ((judgeGates u).bay b).gate.window = false ∧ (judgeGates u).link.held = [2, 8, toBay b, 1, byteOf s.nextTag] := by
  rw [judgeGates_own hset.2.2.1 (ho.trans h.other) (by rw [ha.kept.supply, h.supply])]
  refine ⟨by rw [judgeGate_bay_other, ho, h.other], ?_, judgeGate_window b b u (ha.window_closed b h.window), ?_⟩
  · rw [judgeGate_cart, (ha.kept.bay b).media, h.media]
  · rw [judgeGate_held, ha.kept.reply, h.held]

/-- The lamp of a bay that an EJECT is bringing to rest. -/
theorem EjectBegun.lampSteady (h : EjectBegun b s v) (ha : Acts b false v u) (hr : (s.bay b).sched.state = .running)
    (hs : (u.bay b).sched = (v.bay b).sched) (hc : (u.bay b).cart.state = .releasePending ∨ (u.bay b).cart.state = .ejecting) :
    ((judgeGates u).bay b).cart.lampMode = .steady := by
  rw [judgeGates_cart]
  exact (ha.lampAt b h.lamp).steady hc (by rw [hs, h.sched]; exact Sched.holding_not_faultHalted hr _)

end Sys2Proof.Machine
end

section
namespace Sys2Proof.Machine

variable {b : Bay} {m : Bool} {s t u v : State} {c : Consumer} {k : OpKind} {op : Op}

theorem PosState.not_loaded_of_not_defers {p : PosState} (h : p.defersBrake = false) : p.loaded = false := by
  cases p <;> first | rfl | cases h

/-- R13 to R16: an EJECT at rest asks for its 120. -/
theorem EjectBegun.at_rest (h : EjectBegun b s v) (hset : Settled s) (hr : atRest b s = true) (hw : s.ledger.waits (.latch b) = false)
    (hrun : (s.bay b).sched.state = .running) :
    let t := judgeGates (orderToRest b v)
    t.bay b.other = s.bay b.other ∧ (t.bay b).spin = (s.bay b).spin ∧ (t.bay b).pos = (s.bay b).pos ∧
      (t.bay b).cart.media = (s.bay b).cart.media ∧ (t.bay b).gate.window = false ∧
      t.link.held = [2, 8, toBay b, 1, byteOf s.nextTag] ∧
      (if s.ledger.capacity < 120 then
        (t.bay b).cart.state = .seated ∧ (t.bay b).cart.pulseCount = 0 ∧ t.ledger = s.ledger ∧
          t.completions = recorded s.completions ⟨s.nextTag, b, .eject, .failed .noBudget, none⟩ ∧
          (t.bay b).sched = (s.bay b).sched.through
      else
        t.completions = s.completions ∧ (t.bay b).sched = (s.bay b).sched.holding ⟨s.nextTag, .eject⟩ ∧
        (t.bay b).cart.lampMode = .steady ∧ LatchAsked b s.ledger 0 t) := by
  have hvr : atRest b v = true := (atRest_congr (by rw [h.pos]) (by rw [h.spin])).trans hr
  have hvw : v.ledger.waits (.latch b) = false := by rw [h.ledger]; exact hw
  have hacts : Acts b false v (judgeLatch b v) := (Acts.refl false v).judgeLatch
  obtain ⟨hask, hspin, hpos, hother, hkeep⟩ := judgeLatch_asks h.state hvr hvw
  dsimp only
  rw [orderToRest_rest hvr]
  obtain ⟨e1, e2, e3, e4⟩ := h.ends hset hacts hother
  refine ⟨e1, by rw [judgeGates_spin, hspin, h.spin], by rw [judgeGates_pos, hpos, h.pos], e2, e3, e4, ?_⟩
  rw [h.ledger, h.pulseCount] at hask
  split
  · next hc =>
    rw [LatchAsked, if_pos hc] at hask
    obtain ⟨hl, hs, hn⟩ := hask
    have hfail := judgeLatch_noBudget h.state hvr hvw (by rw [h.ledger]; exact hc)
    have hin : ((changeCart b (fun c => { c with state := .seated, pulseCount := 0, phase := none }) v).bay b).sched.inflight =
        some ⟨s.nextTag, .eject⟩ := by rw [changeCart_sched, h.sched, Sched.holding_inflight]
    rw [completeIf_of_kind hin rfl] at hfail
    refine ⟨by rw [judgeGates_cart, hs], by rw [judgeGates_cart, hn], by rw [judgeGates_ledger, hl], ?_, ?_⟩
    · rw [judgeGates_completions, hfail, completeOp_completions hin, changeCart_completions, h.completions]
      rfl
    · rw [judgeGates_sched, hfail, completeOp_sched, changeCart_sched, h.sched, Sched.holding_ended hrun]
  · next hc =>
    obtain ⟨hsched, hcomp⟩ := hkeep (by rw [h.ledger]; omega)
    refine ⟨by rw [judgeGates_completions, hcomp, h.completions], by rw [judgeGates_sched, hsched, h.sched], ?_, ?_⟩
    · refine h.lampSteady hacts hrun hsched ?_
      rw [LatchAsked, if_neg hc] at hask
      split at hask
      · exact .inr hask.2.1
      · exact .inl hask.2.1
    · simpa only [LatchAsked, judgeGates_cart, judgeGates_ledger] using hask

/-- What an EJECT that is not at rest leaves until its bay is: the release pending, the operation in flight. -/
theorem EjectBegun.pending (h : EjectBegun b s v) (hset : Settled s) (hrun : (s.bay b).sched.state = .running) (ha : Acts b false v u)
    (ho : u.bay b.other = v.bay b.other) (hc : (u.bay b).cart = (v.bay b).cart) (hs : (u.bay b).sched = (v.bay b).sched)
    (hx : u.completions = v.completions) :
    let t := judgeGates u
    (t.bay b).cart.state = .releasePending ∧ (t.bay b).cart.pulseCount = 0 ∧ (t.bay b).cart.lampMode = .steady ∧
      (t.bay b).cart.media = (s.bay b).cart.media ∧ (t.bay b).gate.window = false ∧ t.completions = s.completions ∧
      (t.bay b).sched = (s.bay b).sched.holding ⟨s.nextTag, .eject⟩ ∧ t.bay b.other = s.bay b.other ∧
      t.link.held = [2, 8, toBay b, 1, byteOf s.nextTag] := by
  obtain ⟨e1, e2, e3, e4⟩ := h.ends hset ha ho
  have hstate : (u.bay b).cart.state = .releasePending := by rw [hc, h.state]
  refine ⟨by rw [judgeGates_cart, hstate], by rw [judgeGates_cart, hc, h.pulseCount], h.lampSteady ha hrun hs (.inl hstate), e2, e3, ?_, ?_, e1, e4⟩
  · rw [judgeGates_completions, hx, h.completions]
  · rw [judgeGates_sched, hs, h.sched]

/-- Settles O31: at rest the latch asks for its 120; loaded heads are unloaded first, and with the heads off the platter is braked. -/
theorem ejectAtRest : Obligations.EjectAtRest := by
  refine ⟨fun b s hl hset ha hf hr hw _ => ⟨_, exec_eject hl hset ha hf, ?_⟩,
    fun b s hl hset ha hf hd hreg hk hw _ => ⟨_, exec_eject hl hset ha hf, ?_⟩,
    fun b s hl hset ha hf hr hw _ hn hp hd => ⟨_, exec_eject hl hset ha hf, ?_⟩⟩
  all_goals
    have h := ejectBegun b s
    generalize releasing b (begun b .eject s) = v at h
    have hacts : Acts b false v (orderToRest b v) := (Acts.refl false v).orderToRest
  · obtain ⟨h1, h2, h3, h4, h5, h6, h7⟩ := h.at_rest hset hr hw hf.1
    refine ⟨h1, h2, h3, h4, h5, h6, ?_⟩
    split at h7
    · next hc => rw [if_pos hc]; exact h7
    · next hc =>
      rw [if_neg hc]
      refine ⟨h7.1, h7.2.1, h7.2.2.1, ?_⟩
      have hask := h7.2.2.2
      rw [LatchAsked, if_neg hc] at hask
      exact hask
  · have hvw : v.ledger.wait = [] := by rw [h.ledger]; exact hw
    have hpo : PulseOff b v := pulseOff_of_state (by simp [h.state])
    by_cases hload : (s.bay b).pos.state.loaded = true
    · have he := orderToRest_loaded (by rw [h.pos]; exact hload) hvw (by rw [h.pins]; exact hk) hpo
      rw [he] at hacts ⊢
      obtain ⟨e1, e2, e3, e4, e5, e6, e7, e8, e9⟩ := h.pending hset hf.1 hacts (by simp) (by simp) (by simp) (by simp)
      refine ⟨e1, e2, e3, e4, e5, e6, e7, e8, e9, fun _ _ => ⟨?_, ?_, ?_⟩, fun hn => absurd (hload.symm.trans hn) (by simp)⟩
      · simp [h.pos, Positioner.unloading]
      · simp [h.spin]
      · rw [judgeGates_ledger, headsOff_ledger, State.setLedger_ledger, h.ledger]
        rfl
    · have hload : (s.bay b).pos.state.loaded = false := by simpa using hload
      have he := orderToRest_deferred (by rw [h.pos]; exact hload) (by rw [h.pos]; exact hd) (Ledger.waits_of_nil hvw _)
      rw [he] at hacts ⊢
      obtain ⟨e1, e2, e3, e4, e5, e6, e7, e8, e9⟩ := h.pending hset hf.1 hacts rfl rfl rfl rfl
      refine ⟨e1, e2, e3, e4, e5, e6, e7, e8, e9, fun hx => absurd (hload.symm.trans hx) (by simp), fun _ => ⟨?_, ?_, ?_⟩⟩
      · rw [judgeGates_pos, h.pos]
      · rw [judgeGates_spin, h.spin]
      · rw [judgeGates_ledger, h.ledger]
  · have hvw : v.ledger.wait = [] := by rw [h.ledger]; exact hw
    have hvr : atRest b v = false := (atRest_congr (by rw [h.pos]) (by rw [h.spin])).trans hr
    have hpo : PulseOff b v := pulseOff_of_state (by simp [h.state])
    by_cases hturn : (s.bay b).spin.state.turning = true
    · have he := orderToRest_turning (by rw [h.pos]; exact hd) (by rw [h.spin]; exact hturn) hvw
        (loadWaiting_of_pending (by rw [h.pos]; exact hp)) hpo
      rw [he] at hacts ⊢
      obtain ⟨e1, e2, e3, e4, e5, e6, e7, e8, e9⟩ := h.pending hset hf.1 hacts (by simp) (by simp) (by simp) (by simp)
      refine ⟨e1, e2, e3, e4, e5, e6, e7, e8, by simp [h.pos], e9, fun _ => ⟨?_, ?_⟩, fun hx => absurd (hturn.symm.trans hx) (by simp)⟩
      · simp [h.spin, Braked, Spindle.braking]
      · simp [h.ledger]
    · have hturn : (s.bay b).spin.state.turning = false := by simpa using hturn
      have he := orderToRest_still (by rw [h.pos]; exact hd) (by rw [h.spin]; exact hturn) (by rw [h.spin]; exact hn) hvr
        (Ledger.waits_of_nil hvw _)
      rw [he] at hacts ⊢
      obtain ⟨e1, e2, e3, e4, e5, e6, e7, e8, e9⟩ := h.pending hset hf.1 hacts rfl rfl rfl rfl
      refine ⟨e1, e2, e3, e4, e5, e6, e7, e8, by rw [judgeGates_pos, h.pos], e9, fun hx => absurd (hturn.symm.trans hx) (by simp),
        fun _ => ⟨?_, ?_⟩⟩
      · rw [judgeGates_spin, h.spin]
      · rw [judgeGates_ledger, h.ledger]

end Sys2Proof.Machine
end

section
namespace Sys2Proof.Machine

variable {b : Bay} {m : Bool} {s t u v : State} {c : Consumer} {k : OpKind} {op : Op}

/-! ### Entries to the spindle's states with no load wait and no pulse (R25, R31, R38) -/

/-- A spindle at its entry to STOPPED. -/
def Spindle.stopped (x : Spindle) : Spindle :=
  { x with state := .stopped, drive := 0, phases := .off, sbrk := false, purpose := none, startMark := false, brakeMark := false,
           stageTimer := none, brakeLimit := none, speedLost := none }

/-- A spindle at its entry to FAULT. -/
def Spindle.faulted (x : Spindle) : Spindle :=
  { x with state := .fault, drive := 0, phases := .off, sbrk := true, purpose := none, startMark := false, brakeMark := false,
           stageTimer := none, brakeLimit := none, speedLost := none }

/-- A spindle at its entry to WAIT_POWER, as attempt `n`. -/
def Spindle.askingPower (n : Nat) (x : Spindle) : Spindle :=
  { x with state := .waitPower, attempt := n, drive := 0, phases := .off, sbrk := false, purpose := none, brakeLimit := none, speedLost := none }

/-- A spindle at its entry to ALIGNING. -/
def Spindle.aligning (x : Spindle) : Spindle :=
  Spindle.driven 60 { x with state := .aligning, sbrk := false, stageTimer := some 500000 }

theorem State.modSpin_modSpin (f g : Spindle → Spindle) (s : State) (b : Bay) : (s.modSpin b f).modSpin b g = s.modSpin b fun x => g (f x) := by
  cases b <;> rfl

/-- A bay in which a change of the spindle meets no load wait, no pulse and no request of the latch. -/
structure SpindleAlone (b : Bay) (s : State) : Prop where
  load : loadWaiting b s = false
  pulse : PulseOff b s
  latch : (s.bay b).cart.state = .releasePending → s.ledger.waits (.latch b) = false

theorem SpindleAlone.congr (h : SpindleAlone b s) (hp : (t.bay b).pos = (s.bay b).pos) (hc : (s.bay b).cart.sameButLamp (t.bay b).cart)
    (hl : t.ledger = s.ledger) : SpindleAlone b t where
  load := (loadWaiting_congr hp).trans h.load
  pulse := h.pulse.congr hc
  latch hr := by rw [hl]; exact h.latch (hc.eqs.1.symm.trans hr)

theorem SpindleAlone.modSpin (h : SpindleAlone b s) (f : Spindle → Spindle) : SpindleAlone b (s.modSpin b f) :=
  h.congr (by simp) (by simp [sameButLamp_refl]) (by simp)

theorem SpindleAlone.judgeLatch_away (h : SpindleAlone b s) (hr : atRest b s = false) : judgeLatch b s = s := by
  by_cases hs : (s.bay b).cart.state = .releasePending
  · exact Machine.judgeLatch_away hr (h.latch hs)
  · exact judgeLatch_of_not hs

/-- A change of the spindle to a state that is not UNLOCKED. -/
theorem SpindleAlone.changed (h : SpindleAlone b s) {f : Spindle → Spindle} (hs : (f (s.bay b).spin).state ≠ .unlocked) :
    spindleChanged b (s.modSpin b f) = judgeLatch b (s.modSpin b fun x => { f x with speedLost := none }) := by
  rw [spindleChanged_eq (h.modSpin f).load (h.modSpin f).pulse, speedLostUpdate_off (.inl (by simpa using hs)), State.modSpin_modSpin]

theorem SpindleAlone.enterStopped_eq (h : SpindleAlone b s) : enterStopped b s = judgeLatch b (s.modSpin b Spindle.stopped) :=
  h.changed (by simp)

theorem SpindleAlone.enterSpinFault_eq (h : SpindleAlone b s) : enterSpinFault b s = s.modSpin b Spindle.faulted :=
  (h.changed (by simp)).trans ((h.modSpin _).judgeLatch_away (not_atRest_of_spin (by simp)))

theorem SpindleAlone.askPower_eq (h : SpindleAlone b s) (n : Nat) :
    askPower b n s = ask (.spindle b) (.fixed 180) (s.modSpin b (Spindle.askingPower n)) :=
  congrArg (ask (.spindle b) (.fixed 180)) ((h.changed (by simp)).trans ((h.modSpin _).judgeLatch_away (not_atRest_of_spin (by simp))))

/-- R31: 180 above C. -/
theorem SpindleAlone.askPower_noBudget (h : SpindleAlone b s) (hs : s.ledger.waits (.spindle b) = false) (hc : s.ledger.capacity < 180)
    (n : Nat) :
    askPower b n s = completeIf b OpKind.isSpinUp (.failed .noBudget) (s.modSpin b fun x => { x.askingPower n with state := .stopped }) := by
  rw [h.askPower_eq, ask_of_exceeding (r := .fixed 180) (by simpa using hs) (by simpa [Req.need] using hc), tellNoBudget,
    if_pos (by simp [Spindle.askingPower]), State.modSpin_modSpin]

/-- R31, R32: 180 that fit over an empty list. -/
theorem SpindleAlone.askPower_granted (h : SpindleAlone b s) (hw : s.ledger.wait = []) (hc : 180 ≤ s.ledger.capacity)
    (hf : s.ledger.sum - s.ledger.hold (.spindle b) + 180 ≤ s.ledger.effective) (n : Nat) :
    askPower b n s = (s.modSpin b fun x => (x.askingPower n).aligning).setLedger (s.ledger.setHold (.spindle b) 180) := by
  rw [h.askPower_eq, ask_of_fitting (r := .fixed 180) (n := 180) (by simpa using hw) (by simpa [Req.need] using hc)
    (by rw [Ledger.fit_fixed, State.modSpin_ledger, if_pos hf]), tellGrant, enterAligning, if_pos (by simp [Spindle.askingPower])]
  cases b <;> rfl

/-- R31: 180 that do not fit, or behind others. -/
theorem SpindleAlone.askPower_waiting (h : SpindleAlone b s) (hs : s.ledger.waits (.spindle b) = false) (hc : 180 ≤ s.ledger.capacity)
    (hn : ¬(s.ledger.wait = [] ∧ s.ledger.sum - s.ledger.hold (.spindle b) + 180 ≤ s.ledger.effective)) (n : Nat) :
    askPower b n s = (s.modSpin b (Spindle.askingPower n)).setLedger
      { s.ledger with wait := s.ledger.wait ++ [⟨.spindle b, .fixed 180⟩] } := by
  rw [h.askPower_eq, ask_of_waiting (r := .fixed 180) (by simpa using hs) (by simpa [Req.need] using hc)
    (fun h => by rw [Ledger.fit_fixed, State.modSpin_ledger, if_neg fun hf => hn ⟨by simpa using h, hf⟩]), State.modSpin_ledger]

/-- Whatever the answer, the positioner and the other bay are as they were. -/
theorem SpindleAlone.askPower_frame (h : SpindleAlone b s) (hs : s.ledger.waits (.spindle b) = false) (n : Nat) :
    ((askPower b n s).bay b).pos = (s.bay b).pos ∧ (askPower b n s).bay b.other = s.bay b.other ∧
      ((askPower b n s).bay b).spin.startMark = (s.bay b).spin.startMark ∧
      ((askPower b n s).bay b).spin.brakeLimit = none := by
  by_cases hc : s.ledger.capacity < 180
  · rw [h.askPower_noBudget hs hc]
    exact ⟨by simp, by simp, by simp [Spindle.askingPower], by simp [Spindle.askingPower]⟩
  · rw [Nat.not_lt] at hc
    by_cases hf : s.ledger.wait = [] ∧ s.ledger.sum - s.ledger.hold (.spindle b) + 180 ≤ s.ledger.effective
    · rw [h.askPower_granted hf.1 hc hf.2]
      simp [Spindle.askingPower, Spindle.aligning, Spindle.driven]
    · rw [h.askPower_waiting hs hc hf]
      simp [Spindle.askingPower]

/-- R43: a fatal outcome leaves a spindle in FAULT alone. -/
theorem cancelOnSpindle_fault (h : (s.bay b).spin.state = .fault) : cancelOnSpindle b s = s := by simp [cancelOnSpindle, h]

theorem raiseFatal_fault (h : (s.bay b).spin.state = .fault) (x : Cause) : raiseFatal b x s = faultHalt b x (closeWindow b s) := by
  unfold raiseFatal raiseOutcome
  dsimp only
  split
  · exact cancelOnSpindle_fault (by simpa using h)
  · rfl

end Sys2Proof.Machine
end

section
namespace Sys2Proof.Machine

variable {b : Bay} {m : Bool} {s t u v : State} {c : Consumer} {k : OpKind} {op : Op}

/-! ### A missed revolution (R26, R28, R29) -/

/-- Two spindles that differ in the speed-lost timer alone. -/
def Spindle.SameButSpeedLost (x y : Spindle) : Prop := y = { x with speedLost := y.speedLost }

theorem Spindle.SameButSpeedLost.refl (x : Spindle) : x.SameButSpeedLost x := rfl

theorem Spindle.SameButSpeedLost.trans {x y z : Spindle} (h : x.SameButSpeedLost y) (k : y.SameButSpeedLost z) : x.SameButSpeedLost z := by
  unfold SameButSpeedLost at *
  rw [k, h]

theorem speedLostUpdate_spin (b : Bay) (s : State) : (s.bay b).spin.SameButSpeedLost ((speedLostUpdate b s).bay b).spin := by
  simp [speedLostUpdate, Spindle.SameButSpeedLost]

theorem enterLoading_spin (b : Bay) (s : State) : (s.bay b).spin.SameButSpeedLost ((enterLoading b s).bay b).spin := by
  have h := speedLostUpdate_spin b ((historyReset b s).modPos b fun p =>
    { p with state := .loading, head := 0, hsel := 0, pending := .none, owner := .none, servoLost := 0, recovery := 0,
             loadWait := none, loadTimer := some Const.load, act := Const.loadCode, source := .rail })
  rwa [State.modPos_spin, historyReset_spin] at h

theorem tryLoading_spin (b : Bay) (s : State) : (s.bay b).spin.SameButSpeedLost ((tryLoading b s).bay b).spin := by
  unfold tryLoading
  split
  · exact enterLoading_spin b s
  · exact .refl _

theorem switchHead_spin (h : Nat) (b c : Bay) (s : State) : ((switchHead b h s).bay c).spin = (s.bay c).spin := by
  unfold switchHead
  split
  · rfl
  · rw [historyReset_spin, State.modPos_spin]

theorem setTarget_spin (n : Nat) (b c : Bay) (s : State) : ((setTarget b n s).bay c).spin = (s.bay c).spin := by
  unfold setTarget clearQualified
  dsimp only
  split <;> simp

theorem actuatorGranted_spin (n : Nat) (b : Bay) (s : State) : (s.bay b).spin.SameButSpeedLost ((actuatorGranted b n s).bay b).spin := by
  have hc : ((clampAct b n s).bay b).spin = (s.bay b).spin := by simp [clampAct]
  unfold actuatorGranted
  dsimp only
  split
  · split
    · simp only [enterSeeking, State.modPos_spin, switchHead_spin, setTarget_spin, hc, Spindle.SameButSpeedLost.refl]
    · simp only [enterSeeking, State.modPos_spin, hc, Spindle.SameButSpeedLost.refl]
    · rw [hc]; exact .refl _
  · rw [← hc]; exact tryLoading_spin b _

theorem startPulse_spin (n : Nat) (b c : Bay) (s : State) : ((startPulse b n s).bay c).spin = (s.bay c).spin := by
  unfold startPulse
  dsimp only
  split
  · split <;> simp [countBay]
  · rfl

/-- A grant reaches the spindle only of a bay in WAIT_POWER, but for the speed-lost timer that a load starts. -/
theorem tellGrant_spin (g : Grant) (h : (s.bay b).spin.state ≠ .waitPower) :
    (s.bay b).spin.SameButSpeedLost ((tellGrant s g).bay b).spin := by
  rcases g with ⟨d | d | d, n⟩
  all_goals
    simp only [tellGrant]
    rcases Bay.cases_eq d b with rfl | rfl
  · simp [enterAligning, h, Spindle.SameButSpeedLost.refl]
  · rw [enterAligning_bay_other]; exact .refl _
  · exact actuatorGranted_spin n b s
  · rw [actuatorGranted_bay_other]; exact .refl _
  · rw [startPulse_spin]; exact .refl _
  · rw [startPulse_spin]; exact .refl _

theorem tellGrants_spin (gs : List Grant) (h : (s.bay b).spin.state ≠ .waitPower) :
    (s.bay b).spin.SameButSpeedLost ((tellGrants gs s).bay b).spin := by
  unfold tellGrants
  induction gs generalizing s with
  | nil => exact .refl _
  | cons g gs ih =>
    have hg := tellGrant_spin g h
    exact hg.trans (ih (by rw [hg]; exact h))

theorem lowerHolding_spin (c : Consumer) (n : Nat) (h : (s.bay b).spin.state ≠ .waitPower) :
    (s.bay b).spin.SameButSpeedLost ((lowerHolding c n s).bay b).spin := by
  have := tellGrants_spin (s := s.setLedger (s.ledger.lower c n).1) (b := b) (s.ledger.lower c n).2 (by simpa using h)
  rwa [State.setLedger_bay] at this

theorem withdrawRequest_spin (c : Consumer) (h : (s.bay b).spin.state ≠ .waitPower) :
    (s.bay b).spin.SameButSpeedLost ((withdrawRequest c s).bay b).spin := by
  have := tellGrants_spin (s := s.setLedger (s.ledger.withdraw c).1) (b := b) (s.ledger.withdraw c).2 (by simpa using h)
  rwa [State.setLedger_bay] at this

theorem cutPulse_spin (h : (s.bay b).spin.state ≠ .waitPower) : (s.bay b).spin.SameButSpeedLost ((cutPulse b s).bay b).spin := by
  unfold cutPulse
  split
  · have := lowerHolding_spin (s := s.modCart b Cartridge.waiting) (b := b) (.latch b) 0 (by simpa using h)
    rwa [State.modCart_spin] at this
  · exact .refl _

/-- The latch of a bay whose spindle turns is judged without an effect on the spindle. -/
theorem judgeLatch_spin_away (h : (s.bay b).spin.state ≠ .waitPower) (hr : (s.bay b).spin.state ≠ .stopped) :
    (s.bay b).spin.SameButSpeedLost ((judgeLatch b s).bay b).spin := by
  unfold judgeLatch
  rw [not_atRest_of_spin hr]
  split
  · exact withdrawRequest_spin _ h
  · exact .refl _

/-- A change of a regulated spindle leaves the spindle itself but for the speed-lost timer. -/
theorem spindleChanged_regulated (h : (s.bay b).spin.state.regulated = true) :
    (s.bay b).spin.SameButSpeedLost ((spindleChanged b s).bay b).spin := by
  have hp : (s.bay b).spin.state ≠ .waitPower := fun e => by simp [e, SpinState.regulated] at h
  have hr : (s.bay b).spin.state ≠ .stopped := fun e => by simp [e, SpinState.regulated] at h
  unfold spindleChanged
  dsimp only
  rw [speedLostUpdate_spin_state, if_pos h]
  have h1 := (speedLostUpdate_spin b s).trans (tryLoading_spin b _)
  have h2 := h1.trans (cutPulse_spin (by rw [h1]; exact hp))
  exact h2.trans (judgeLatch_spin_away (by rw [h2]; exact hp) (by rw [h2]; exact hr))

theorem judgeLatch_sched_away (hr : atRest b s = false) (c : Bay) : ((judgeLatch b s).bay c).sched = (s.bay c).sched := by
  unfold judgeLatch
  rw [hr]
  split
  · simp [withdrawRequest]
  · rfl

theorem cutPulse_sched (b c : Bay) (s : State) : ((cutPulse b s).bay c).sched = (s.bay c).sched := by
  unfold cutPulse
  split
  · rw [endPulse_sched]
  · rfl

theorem tryLoading_sched (b c : Bay) (s : State) : ((tryLoading b s).bay c).sched = (s.bay c).sched := ((granted_tryLoading b s).bay c).sched

/-- A change of a regulated spindle completes nothing. -/
theorem spindleChanged_regulated_sched (h : (s.bay b).spin.state.regulated = true) (c : Bay) :
    ((spindleChanged b s).bay c).sched = (s.bay c).sched := by
  have hp : (s.bay b).spin.state ≠ .waitPower := fun e => by simp [e, SpinState.regulated] at h
  have hr : (s.bay b).spin.state ≠ .stopped := fun e => by simp [e, SpinState.regulated] at h
  have h1 := (speedLostUpdate_spin b s).trans (tryLoading_spin b _)
  have h2 := h1.trans (cutPulse_spin (by rw [h1]; exact hp))
  unfold spindleChanged
  dsimp only
  rw [speedLostUpdate_spin_state, if_pos h, judgeLatch_sched_away (not_atRest_of_spin (by rw [h2]; exact hr)), cutPulse_sched, tryLoading_sched,
    speedLostUpdate_sched]

/-- With no pulse to cut and no latch waiting it leaves the ledger. -/
theorem spindleChanged_regulated_ledger (h : (s.bay b).spin.state.regulated = true) (hp : PulseOff b s) (hw : s.ledger.waits (.latch b) = false) :
    (spindleChanged b s).ledger = s.ledger := by
  have hr : (s.bay b).spin.state ≠ .stopped := fun e => by simp [e, SpinState.regulated] at h
  have h1 := (speedLostUpdate_spin b s).trans (tryLoading_spin b _)
  unfold spindleChanged
  dsimp only
  rw [speedLostUpdate_spin_state, if_pos h, cutPulse_of_not (hp.congr (by simp [sameButLamp_refl])),
    judgeLatch_away (not_atRest_of_spin (by rw [h1]; exact hr)) (by simpa using hw)]
  simp

/-- The spindle behind a revolution that did not come, at the reservation held (R26, R28, R29). -/
def Spindle.missed (held : Nat) (x : Spindle) : Spindle :=
  let y := Spindle.driven held { x with tachRef := false, lastPeriod := none, tachTimer := some 500000 }
  match x.state with
  | .locked => if 2 ≤ x.outside + 1 then { y with state := .unlocked, inside := 0, outside := 0 } else { y with outside := x.outside + 1 }
  | _ => { y with inside := 0 }

theorem Spindle.missed_spec (held : Nat) (x : Spindle) :
    (x.missed held).tachRef = false ∧ (x.missed held).lastPeriod = none ∧ (x.missed held).tachTimer = some 500000 ∧
      (x.missed held).drive = held ∧ (x.missed held).phases = x.state.phasesAt held ∧
      (x.missed held).state = (if x.state = .locked ∧ 1 ≤ x.outside then .unlocked else x.state) ∧
      (x.state ≠ .locked → (x.missed held).inside = 0) := by
  unfold missed
  cases h : x.state <;> simp [Spindle.driven]
  split <;> simp_all

theorem State.modSpin_congr {f g : Spindle → Spindle} (h : f (s.bay b).spin = g (s.bay b).spin) : s.modSpin b f = s.modSpin b g := by
  unfold State.modSpin
  rw [h]

/-- R26: a tach timer that expires under regulation is a revolution outside the window. -/
theorem tachExpired_regulating (h : (s.bay b).spin.state = .locking ∨ (s.bay b).spin.state = .locked ∨ (s.bay b).spin.state = .unlocked) :
    tachExpired b s = s.modSpin b (Spindle.missed (s.hold (.spindle b))) ∨
      (tachExpired b s = spindleChanged b (s.modSpin b (Spindle.missed (s.hold (.spindle b)))) ∧
        ((s.bay b).spin.missed (s.hold (.spindle b))).state.regulated = true) := by
  rcases h with h | h | h
  case inr.inl =>
    by_cases ho : 2 ≤ (s.bay b).spin.outside + 1
    · refine .inr ⟨?_, by simp [Spindle.missed, h, ho, SpinState.regulated]⟩
      simp only [tachExpired, State.modSpin_spin, h, missedRevolution, countRevolution, Spindle.driven, moveLock, State.modSpin_modSpin, ho, if_true]
      exact congrArg _ (State.modSpin_congr (by simp [Spindle.missed, h, ho, Spindle.driven, State.hold]))
    · refine .inl ?_
      simp only [tachExpired, State.modSpin_spin, h, missedRevolution, countRevolution, Spindle.driven, State.modSpin_modSpin, ho, if_false]
      exact State.modSpin_congr (by simp [Spindle.missed, h, ho, Spindle.driven, State.hold])
  all_goals
    refine .inl ?_
    simp only [tachExpired, State.modSpin_spin, h, missedRevolution, countRevolution, Spindle.driven, State.modSpin_modSpin]
    exact State.modSpin_congr (by simp [Spindle.missed, h, Spindle.driven, State.hold])

end Sys2Proof.Machine
end

section
namespace Sys2Proof.Machine

variable {b : Bay} {m : Bool} {s t u v : State} {c : Consumer} {k : OpKind} {op : Op}

/-! ### The stop of a braking platter (R38) -/

/-- The operations that a stop under purpose STOP completes (R38, R43). -/
def stopCompletes (b : Bay) (s : State) : State :=
  completeIf b OpKind.isSpinUp .cancelled (completeIf b OpKind.isSpinDown .success s)

theorem stopCompletes_cart (b : Bay) (s : State) : (s.bay b).cart.sameButLamp ((stopCompletes b s).bay b).cart :=
  (completeIf_sameButLamp _ _ s b).trans (completeIf_sameButLamp _ _ _ b)

@[simp] theorem stopCompletes_pos (b c : Bay) (s : State) : ((stopCompletes b s).bay c).pos = (s.bay c).pos := by simp [stopCompletes]

@[simp] theorem stopCompletes_spin (b c : Bay) (s : State) : ((stopCompletes b s).bay c).spin = (s.bay c).spin := by simp [stopCompletes]

@[simp] theorem stopCompletes_ledger (b : Bay) (s : State) : (stopCompletes b s).ledger = s.ledger := by simp [stopCompletes]

@[simp] theorem stopCompletes_bay_other (b : Bay) (s : State) : (stopCompletes b s).bay b.other = s.bay b.other := by simp [stopCompletes]

theorem stopCompletes_spinDown (h : (s.bay b).sched.inflight = some op) (hk : op.kind = .spinDown) :
    (stopCompletes b s).completions = recorded s.completions ⟨op.tag, b, .spinDown, .success, none⟩ ∧
      ((stopCompletes b s).bay b).sched.inflight = none := by
  have hin : ((completeOp b .success s).bay b).sched.inflight = none := by rw [completeOp_sched, Sched.ended_inflight]
  unfold stopCompletes
  rw [completeIf_of_kind (p := OpKind.isSpinDown) h (by rw [hk]; rfl), completeIf_of_not (inflightIs_none hin)]
  exact ⟨by rw [completeOp_completions h, hk]; rfl, hin⟩

theorem stopCompletes_spinUp (h : (s.bay b).sched.inflight = some op) (hk : op.kind = .spinUp) :
    (stopCompletes b s).completions = recorded s.completions ⟨op.tag, b, .spinUp, .cancelled, some (s.bay b).spin.attempt⟩ ∧
      ((stopCompletes b s).bay b).sched.inflight = none := by
  unfold stopCompletes
  rw [completeIf_of_not (p := OpKind.isSpinDown) (by rw [inflightIs_of h, hk]; rfl), completeIf_of_kind (p := OpKind.isSpinUp) h (by rw [hk]; rfl)]
  exact ⟨by rw [completeOp_completions h, hk]; rfl, by rw [completeOp_sched, Sched.ended_inflight]⟩

theorem stopCompletes_of_not (hd : inflightIs b OpKind.isSpinDown s = false) (hu : inflightIs b OpKind.isSpinUp s = false) : stopCompletes b s = s := by
  unfold stopCompletes
  rw [completeIf_of_not hd, completeIf_of_not hu]

/-- The brake is a plain one: its purpose is STOP, or none. -/
def plainStop : Option BrakePurpose → Prop
  | some .stop | none => True
  | some .retry | some .spinFail | some .overcurrent => False

theorem platterStop_plain (hp : plainStop (s.bay b).spin.purpose) (hm : (s.bay b).spin.startMark = false) :
    platterStop b s = enterStopped b (stopCompletes b s) := by
  unfold platterStop
  dsimp only
  split <;> simp_all [plainStop] <;> rfl

/-- The spindle from which a marked SPIN UP begins its attempt (R38). -/
def Spindle.restarting (x : Spindle) : Spindle :=
  { x with state := .stopped, sbrk := false, purpose := none, startMark := false, brakeLimit := none }

theorem platterStop_marked (hp : plainStop (s.bay b).spin.purpose) (hm : (s.bay b).spin.startMark = true) :
    platterStop b s = beginAttempt b (s.modSpin b Spindle.restarting) := by
  unfold platterStop
  dsimp only
  split <;> simp_all [plainStop] <;> rfl

theorem platterStop_retry (hp : (s.bay b).spin.purpose = some .retry) :
    platterStop b s = askPower b (bump 3 (s.bay b).spin.attempt) (countBay b (fun c => { c with spinUpRetries := count c.spinUpRetries }) s) := by
  simp [platterStop, hp]

/-- A fault that a stop raises: the spindle in FAULT, and the fatal outcome. -/
def spinFaultRaised (b : Bay) (x : Cause) (s : State) : State := faultHalt b x (closeWindow b (s.modSpin b Spindle.faulted))

theorem SpindleAlone.raised (h : SpindleAlone b s) (x : Cause) : raiseFatal b x (enterSpinFault b s) = spinFaultRaised b x s := by
  rw [h.enterSpinFault_eq, raiseFatal_fault (by simp [Spindle.faulted])]
  rfl

theorem spinFaultRaised_spec (b : Bay) (x : Cause) (s : State) :
    ((spinFaultRaised b x s).bay b).pos = (s.bay b).pos ∧ (spinFaultRaised b x s).bay b.other = s.bay b.other ∧
      ((spinFaultRaised b x s).bay b).spin = (s.bay b).spin.faulted ∧ (spinFaultRaised b x s).ledger = s.ledger ∧
      ((spinFaultRaised b x s).bay b).sched = (s.bay b).sched.faulted x ∧
      (spinFaultRaised b x s).completions = recordedAll s.completions (faultRecords b (s.bay b) x) := by
  refine ⟨by simp [spinFaultRaised], by simp [spinFaultRaised], by simp [spinFaultRaised], by simp [spinFaultRaised], ?_, ?_⟩
  · rw [spinFaultRaised, faultHalt_sched]
    simp
  · rw [spinFaultRaised, faultHalt_completions]
    simp [faultRecords, Spindle.faulted]

theorem SpindleAlone.stop_spinFail (h : SpindleAlone b s) (hp : (s.bay b).spin.purpose = some .spinFail) :
    platterStop b s = spinFaultRaised b .spinFail s := by
  simp only [platterStop, hp]
  exact h.raised _

/-- The operations that a stop under purpose OVERCURRENT completes (R38, R43). -/
def faultCompletes (b : Bay) (s : State) : State :=
  completeIf b OpKind.isSpinDown (.failed .notReady) (completeIf b OpKind.isSpinUp .cancelled s)

theorem SpindleAlone.stop_overcurrent (h : SpindleAlone b s) (hp : (s.bay b).spin.purpose = some .overcurrent) :
    platterStop b s = if (s.bay b).spin.startMark && inflightIs b OpKind.isSpinUp s then spinFaultRaised b .spinFail s
      else faultCompletes b (s.modSpin b Spindle.faulted) := by
  have hi : inflightIs b OpKind.isSpinUp (s.modSpin b Spindle.faulted) = inflightIs b OpKind.isSpinUp s := inflightIs_congr (by simp)
  simp only [platterStop, hp, h.enterSpinFault_eq, hi]
  split
  · exact raiseFatal_fault (by simp [Spindle.faulted]) _
  · rfl

theorem SpindleAlone.stop_attempt (h : SpindleAlone b s) :
    beginAttempt b (s.modSpin b Spindle.restarting) = if (s.bay b).mon.overcurrent then spinFaultRaised b .overcurrent (s.modSpin b Spindle.restarting)
      else askPower b 1 (s.modSpin b Spindle.restarting) := by
  unfold beginAttempt
  rw [(h.modSpin _).raised, State.modSpin_mon]

/-- Under every purpose the stop of a platter whose change meets no other block is the spindle's, the scheduler's and the ledger's. -/
theorem SpindleAlone.stop_frame (h : SpindleAlone b s) (hs : s.ledger.waits (.spindle b) = false) (hc : (s.bay b).cart.state ≠ .releasePending) :
    ((platterStop b s).bay b).pos = (s.bay b).pos ∧ (platterStop b s).bay b.other = s.bay b.other := by
  have plain : ((enterStopped b (stopCompletes b s)).bay b).pos = (s.bay b).pos ∧ (enterStopped b (stopCompletes b s)).bay b.other = s.bay b.other := by
    have hw : SpindleAlone b (stopCompletes b s) := h.congr (by simp) (stopCompletes_cart b s) (by simp)
    rw [hw.enterStopped_eq, judgeLatch_of_not (by rw [State.modSpin_cart, (stopCompletes_cart b s).eqs.1]; exact hc)]
    exact ⟨by simp, by simp⟩
  have marked : ((beginAttempt b (s.modSpin b Spindle.restarting)).bay b).pos = (s.bay b).pos ∧
      (beginAttempt b (s.modSpin b Spindle.restarting)).bay b.other = s.bay b.other := by
    rw [h.stop_attempt]
    split
    · obtain ⟨h1, h2, -⟩ := spinFaultRaised_spec b .overcurrent (s.modSpin b Spindle.restarting)
      exact ⟨h1.trans (by simp), h2.trans (by simp)⟩
    · obtain ⟨h1, h2, -⟩ := (h.modSpin Spindle.restarting).askPower_frame (by simpa using hs) 1
      exact ⟨h1.trans (by simp), h2.trans (by simp)⟩
  have stops : plainStop (s.bay b).spin.purpose → ((platterStop b s).bay b).pos = (s.bay b).pos ∧ (platterStop b s).bay b.other = s.bay b.other := by
    intro hp
    by_cases hm : (s.bay b).spin.startMark = true
    · rw [platterStop_marked hp hm]; exact marked
    · rw [platterStop_plain hp (by simpa using hm)]; exact plain
  rcases hp : (s.bay b).spin.purpose with _ | _ | _ | _ | _
  case none | some.stop => exact stops (by rw [hp]; trivial)
  case some.retry =>
    have hw : SpindleAlone b (countBay b (fun c => { c with spinUpRetries := count c.spinUpRetries }) s) :=
      h.congr (by simp [countBay]) (by simp [countBay, sameButLamp_refl]) (by simp [countBay])
    rw [platterStop_retry hp]
    obtain ⟨h1, h2, -⟩ := hw.askPower_frame (by simpa [countBay] using hs) (bump 3 (s.bay b).spin.attempt)
    exact ⟨h1.trans (by simp [countBay]), h2.trans (by simp [countBay])⟩
  case some.spinFail =>
    rw [h.stop_spinFail hp]
    obtain ⟨h1, h2, -⟩ := spinFaultRaised_spec b .spinFail s
    exact ⟨h1, h2⟩
  case some.overcurrent =>
    rw [h.stop_overcurrent hp]
    split
    · obtain ⟨h1, h2, -⟩ := spinFaultRaised_spec b .spinFail s
      exact ⟨h1, h2⟩
    · simp [faultCompletes]

end Sys2Proof.Machine
end

section
namespace Sys2Proof.Machine

variable {b : Bay} {m : Bool} {s t u v : State} {c : Consumer} {k : OpKind} {op : Op}

/-! ### The tach timer (R26, R38) -/

/-- A spindle whose reference is lost. -/
def Spindle.unreferenced (x : Spindle) : Spindle := { x with tachRef := false, lastPeriod := none, tachTimer := none }

theorem exec_tachTimerExpiry (h : (s.bay b).spin.tachTimer.isSome = true) : exec (.tachTimerExpiry b) s = .next (settle (tachExpired b s)) := by
  simp only [exec, execTachTimerExpiry, h, if_true]

/-- R38: under the brake the expiry is the stop. -/
theorem tachExpired_braking (h : (s.bay b).spin.state = .braking) : tachExpired b s = platterStop b (s.modSpin b Spindle.unreferenced) := by
  simp only [tachExpired, State.modSpin_spin, h]
  rfl

/-- An expiry of a bay with an empty queue begins no taking. -/
theorem settle_tachExpired (h : Settled s) (ho : (tachExpired b s).bay b.other = s.bay b.other) (hq : (s.bay b).sched.queue = []) :
    settle (tachExpired b s) = judgeGate b (tachExpired b s) := by
  have hacts : Acts b false s (tachExpired b s) := (Acts.refl false s).tachExpired
  refine h.settle_own ho (by rw [hacts.kept.supply]) fun _ => ?_
  rcases hacts.sched_acted.queue with e | e
  · rw [e, hq]
  · exact e

/-- R26, R28, R29: the expiry under regulation. -/
theorem tachExpired_regulating_spec (h : (s.bay b).spin.state = .locking ∨ (s.bay b).spin.state = .locked ∨ (s.bay b).spin.state = .unlocked) :
    let t := tachExpired b s
    ((s.bay b).spin.missed (s.hold (.spindle b))).SameButSpeedLost (t.bay b).spin ∧ (∀ c, (t.bay c).sched = (s.bay c).sched) ∧
      ((s.bay b).cart.phase ≠ some .pulse → s.ledger.waits (.latch b) = false → t.ledger = s.ledger) := by
  rcases tachExpired_regulating h with e | ⟨e, hr⟩
  · simp only [e]
    exact ⟨by simp [Spindle.SameButSpeedLost.refl], by simp, by simp⟩
  · simp only [e]
    have hr' : ((s.modSpin b (Spindle.missed (s.hold (.spindle b)))).bay b).spin.state.regulated = true := by simpa using hr
    refine ⟨?_, fun c => ?_, fun hp hw => ?_⟩
    · simpa using spindleChanged_regulated hr'
    · simpa using spindleChanged_regulated_sched hr' c
    · exact (spindleChanged_regulated_ledger hr' (fun _ => by simpa using hp) (by simpa using hw)).trans (by simp)

/-- A stop in a bay where it meets no other block ends with that bay's gate. -/
theorem tachTimerExpiry_stops (hset : Settled s) (ht : (s.bay b).spin.tachTimer.isSome = true) (hb : (s.bay b).spin.state = .braking)
    (ho : (platterStop b (s.modSpin b Spindle.unreferenced)).bay b.other = s.bay b.other) (hq : (s.bay b).sched.queue = []) :
    exec (.tachTimerExpiry b) s = .next (judgeGate b (platterStop b (s.modSpin b Spindle.unreferenced))) := by
  rw [exec_tachTimerExpiry ht, settle_tachExpired hset (by rw [tachExpired_braking hb]; exact ho) hq, tachExpired_braking hb]

/-- R38: the plain stop. -/
theorem SpindleAlone.stopped_plain (h : SpindleAlone b s) (hp : plainStop (s.bay b).spin.purpose) (hm : (s.bay b).spin.startMark = false)
    (hc : (s.bay b).cart.state ≠ .releasePending) : platterStop b s = (stopCompletes b s).modSpin b Spindle.stopped := by
  have hw : SpindleAlone b (stopCompletes b s) := h.congr (by simp) (stopCompletes_cart b s) (by simp)
  rw [platterStop_plain hp hm, hw.enterStopped_eq, judgeLatch_of_not (by rw [State.modSpin_cart, (stopCompletes_cart b s).eqs.1]; exact hc)]

/-- R40: the stop behind a failed attempt asks for the next one's 180. -/
theorem SpindleAlone.stopped_retry (h : SpindleAlone b s) (hp : (s.bay b).spin.purpose = some .retry) (hw : s.ledger.wait = [])
    (hc : 180 ≤ s.ledger.capacity) (hf : s.ledger.sum - s.hold (.spindle b) + 180 ≤ s.ledger.effective) :
    let t := platterStop b s
    (t.bay b).spin = ((s.bay b).spin.askingPower (bump 3 (s.bay b).spin.attempt)).aligning ∧
      (t.bay b).cnt.spinUpRetries = bump 65535 (s.bay b).cnt.spinUpRetries ∧
      t.ledger = s.ledger.setHold (.spindle b) 180 ∧ (t.bay b).sched = (s.bay b).sched := by
  have ha : SpindleAlone b (countBay b (fun c => { c with spinUpRetries := count c.spinUpRetries }) s) :=
    h.congr (by simp [countBay]) (by simp [countBay, sameButLamp_refl]) (by simp [countBay])
  dsimp only
  rw [platterStop_retry hp, ha.askPower_granted (by simpa [countBay] using hw) (by simpa [countBay] using hc) (by simpa [countBay, State.hold] using hf)]
  refine ⟨by simp [countBay], ?_, by simp [countBay], by simp [countBay]⟩
  cases b <;> rfl

/-- R31, R41: the attempt that a marked SPIN UP begins at the stop. -/
theorem SpindleAlone.stopped_attempt (h : SpindleAlone b s) (hi : (s.bay b).sched.inflight = some op) (hk : op.kind = .spinUp)
    (hs : s.ledger.waits (.spindle b) = false) :
    let t := askPower b 1 (s.modSpin b Spindle.restarting)
    (t.bay b).spin.startMark = false ∧ (t.bay b).spin.brakeLimit = none ∧
      (t.bay b).spin.attempt = 1 ∧ (t.bay b).spin.sbrk = false ∧ (t.bay b).spin.purpose = none ∧
      (if s.ledger.capacity < 180 then
        (t.bay b).spin.state = .stopped ∧ t.ledger = s.ledger ∧ (t.bay b).sched.inflight = none ∧
        t.completions = recorded s.completions ⟨op.tag, b, .spinUp, .failed .noBudget, some 1⟩
      else
        (t.bay b).sched = (s.bay b).sched ∧ t.completions = s.completions ∧
        (if s.ledger.wait = [] ∧ s.ledger.sum - s.hold (.spindle b) + 180 ≤ s.ledger.effective then
          t.ledger = s.ledger.setHold (.spindle b) 180 ∧ (t.bay b).spin.state = .aligning ∧ (t.bay b).spin.drive = 60
        else
          t.ledger = { s.ledger with wait := s.ledger.wait ++ [⟨.spindle b, .fixed 180⟩] } ∧
          (t.bay b).spin.state = .waitPower)) := by
  have ha := h.modSpin Spindle.restarting
  dsimp only
  by_cases hc : s.ledger.capacity < 180
  · rw [ha.askPower_noBudget (by simpa using hs) (by simpa using hc), if_pos hc, State.modSpin_modSpin,
      completeIf_of_kind (p := OpKind.isSpinUp) (op := op) (by simpa using hi) (by rw [hk]; rfl)]
    refine ⟨by simp [Spindle.restarting, Spindle.askingPower], by simp [Spindle.askingPower], by simp [Spindle.askingPower],
      by simp [Spindle.askingPower], by simp [Spindle.askingPower], by simp, by simp, ?_, ?_⟩
    · rw [completeOp_sched, Sched.ended_inflight]
    · rw [completeOp_completions (op := op) (by simpa using hi), hk]
      simp [detailOf, Spindle.askingPower]
  · rw [if_neg hc]
    rw [Nat.not_lt] at hc
    by_cases hf : s.ledger.wait = [] ∧ s.ledger.sum - s.hold (.spindle b) + 180 ≤ s.ledger.effective
    · rw [ha.askPower_granted (by simpa using hf.1) (by simpa using hc) (by simpa [State.hold] using hf.2), if_pos hf]
      simp [Spindle.restarting, Spindle.askingPower, Spindle.aligning, Spindle.driven]
    · rw [ha.askPower_waiting (by simpa using hs) (by simpa using hc) (by simpa [State.hold] using hf), if_neg hf]
      simp [Spindle.restarting, Spindle.askingPower]

end Sys2Proof.Machine
end

section
namespace Sys2Proof.Machine

variable {b : Bay} {m : Bool} {s t u v : State} {c : Consumer} {k : OpKind} {op : Op}

/-- WPERM worked out counts write faults alone. -/
theorem judgeGate_spinUpRetries (b : Bay) (s : State) : ((judgeGate b s).bay b).cnt.spinUpRetries = (s.bay b).cnt.spinUpRetries := by
  by_cases h : permitDue (s.bay b) s.supply.state = true ∨ (s.bay b).gate.wperm = false ∨ (s.bay b).pins.wgate = false
  · rw [judgeGate_of_no_fault h, State.modGate_cnt]
  · simp only [not_or, Bool.not_eq_true, Bool.not_eq_false] at h
    obtain ⟨hd, hw, hg⟩ := h
    rw [judgeGate_of_fault hd hw hg, latchEvent_bay, State.setBay_bay]

/-- R14, R38: the plain stop under a pending release. -/
theorem SpindleAlone.stopped_releasing (h : SpindleAlone b s) (hp : plainStop (s.bay b).spin.purpose) (hm : (s.bay b).spin.startMark = false)
    (hc : (s.bay b).cart.state = .releasePending) :
    let t := platterStop b s
    (t.bay b).spin.state = .stopped ∧ (t.bay b).spin.sbrk = false ∧ (t.bay b).pos = (s.bay b).pos ∧
      t.bay b.other = s.bay b.other ∧
      ((s.bay b).pos.state = .parked → LatchAsked b s.ledger (s.bay b).cart.pulseCount t) ∧
      ((s.bay b).pos.state ≠ .parked → (t.bay b).cart.state = .releasePending ∧ t.ledger = s.ledger) ∧
      (∀ op, (s.bay b).sched.inflight = some op →
        (op.kind = .spinDown → t.completions = recorded s.completions ⟨op.tag, b, .spinDown, .success, none⟩ ∧
          (t.bay b).sched.inflight = none) ∧
        (op.kind = .spinUp → t.completions = recorded s.completions ⟨op.tag, b, .spinUp, .cancelled, some (s.bay b).spin.attempt⟩ ∧
          (t.bay b).sched.inflight = none) ∧
        (op.kind = .eject →
          (if (s.bay b).pos.state = .parked ∧ s.ledger.capacity < 120 then
            t.completions = recorded s.completions ⟨op.tag, b, .eject, .failed .noBudget, none⟩ ∧ (t.bay b).sched.inflight = none
          else t.completions = s.completions ∧ (t.bay b).sched.inflight = some op))) := by
  have hw : SpindleAlone b (stopCompletes b s) := h.congr (by simp) (stopCompletes_cart b s) (by simp)
  dsimp only
  rw [platterStop_plain hp hm, hw.enterStopped_eq]
  generalize hu : (stopCompletes b s).modSpin b Spindle.stopped = u
  have ucart : (s.bay b).cart.sameButLamp (u.bay b).cart := by rw [← hu, State.modSpin_cart]; exact stopCompletes_cart b s
  have upos : (u.bay b).pos = (s.bay b).pos := by simp [← hu]
  have uspin : (u.bay b).spin = (s.bay b).spin.stopped := by simp [← hu]
  have uother : u.bay b.other = s.bay b.other := by simp [← hu]
  have uledger : u.ledger = s.ledger := by simp [← hu]
  have usched : (u.bay b).sched = ((stopCompletes b s).bay b).sched := by simp [← hu]
  have ucomp : u.completions = (stopCompletes b s).completions := by simp [← hu]
  have ustate : (u.bay b).cart.state = .releasePending := ucart.eqs.1.trans hc
  have ends : ∀ op, (s.bay b).sched.inflight = some op →
      (op.kind = .spinDown → u.completions = recorded s.completions ⟨op.tag, b, .spinDown, .success, none⟩ ∧ (u.bay b).sched.inflight = none) ∧
      (op.kind = .spinUp → u.completions = recorded s.completions ⟨op.tag, b, .spinUp, .cancelled, some (s.bay b).spin.attempt⟩ ∧
        (u.bay b).sched.inflight = none) ∧
      (op.kind = .eject → u.completions = s.completions ∧ (u.bay b).sched.inflight = some op) := by
    intro op hi
    rw [usched, ucomp]
    refine ⟨stopCompletes_spinDown hi, stopCompletes_spinUp hi, fun hk => ?_⟩
    rw [stopCompletes_of_not (by rw [inflightIs_of hi, hk]; rfl) (by rw [inflightIs_of hi, hk]; rfl)]
    exact ⟨rfl, hi⟩
  by_cases hpk : (s.bay b).pos.state = .parked
  · have hr : atRest b u = true := by simp [atRest, upos, uspin, hpk, Spindle.stopped]
    have huw : u.ledger.waits (.latch b) = false := by rw [uledger]; exact h.latch hc
    obtain ⟨hask, jspin, jpos, jother, jkeep⟩ := judgeLatch_asks ustate hr huw
    rw [uledger, ucart.eqs.2.2.2.2.2.1] at hask
    refine ⟨by rw [jspin, uspin]; rfl, by rw [jspin, uspin]; rfl, jpos.trans upos, jother.trans uother, fun _ => hask,
      fun hn => absurd hpk hn, fun op hi => ?_⟩
    obtain ⟨hd, hup, he⟩ := ends op hi
    by_cases hcap : s.ledger.capacity < 120
    · rw [judgeLatch_noBudget ustate hr huw (by rw [uledger]; exact hcap), if_pos ⟨hpk, hcap⟩]
      refine ⟨fun hk => ?_, fun hk => ?_, fun hk => ?_⟩
      · obtain ⟨hx, hn⟩ := hd hk
        rw [completeIf_of_not (inflightIs_none (by simpa using hn))]
        exact ⟨by simpa using hx, by simpa using hn⟩
      · obtain ⟨hx, hn⟩ := hup hk
        rw [completeIf_of_not (inflightIs_none (by simpa using hn))]
        exact ⟨by simpa using hx, by simpa using hn⟩
      · obtain ⟨hx, hn⟩ := he hk
        rw [completeIf_of_kind (p := OpKind.isEject) (op := op) (by simpa using hn) (by rw [hk]; rfl),
          completeOp_completions (op := op) (by simpa using hn), completeOp_sched, Sched.ended_inflight, hk]
        exact ⟨by rw [changeCart_completions, hx]; rfl, rfl⟩
    · obtain ⟨ksched, kcomp⟩ := jkeep (by rw [uledger]; omega)
      rw [if_neg fun h => hcap h.2, ksched, kcomp]
      exact ⟨hd, hup, he⟩
  · have hr : atRest b u = false := not_atRest_of_pos (by rw [upos]; exact hpk)
    rw [Machine.judgeLatch_away hr (by rw [uledger]; exact h.latch hc)]
    refine ⟨by rw [uspin]; rfl, by rw [uspin]; rfl, upos, uother, fun he => absurd he hpk, fun _ => ⟨ustate, uledger⟩, fun op hi => ?_⟩
    rw [if_neg fun h => hpk h.1]
    exact ends op hi

/-- Settles O50: under regulation an expiry counts a revolution outside; under the brake it is the stop, which acts by the brake purpose. -/
theorem tachTimerExpiryActs : Obligations.TachTimerExpiryActs := by
  refine ⟨fun b s hset ht hb => ?_, fun b s hset ht hb hw hp hr he hq _ => ?_,
    fun b s op hset ht hb hm hp hi hk hs hl hc hq _ => ?_, fun b s hset ht hb hc hp hm hw hl hq => ?_⟩
  · by_cases hreg : (s.bay b).spin.state = .locking ∨ (s.bay b).spin.state = .locked ∨ (s.bay b).spin.state = .unlocked
    · obtain ⟨hspin, hsched, hledger⟩ := tachExpired_regulating_spec hreg
      obtain ⟨m1, m2, m3, m4, m5, m6, m7⟩ := (s.bay b).spin.missed_spec (s.hold (.spindle b))
      have hphases : (s.bay b).spin.state.phasesAt (s.hold (.spindle b)) = if s.hold (.spindle b) = 0 then .off else .commutated := by
        rcases hreg with h | h | h <;> rw [h] <;> rfl
      refine ⟨_, exec_tachTimerExpiry ht, ?_⟩
      dsimp only
      rw [settle_of_takingsDone fun c => by rw [hsched c]; exact hset.2.2.2 c, judgeGates_spin, judgeGates_ledger, if_pos hreg, hspin]
      exact ⟨m1, m2, m3, m4, m5.trans hphases, hledger, m6, m7⟩
    · have hidle : tachExpired b s = s.modSpin b Spindle.unreferenced := by
        simp only [tachExpired, State.modSpin_spin]
        cases h : (s.bay b).spin.state
        case braking => exact absurd h hb
        case locking | locked | unlocked => simp [h] at hreg
        all_goals rfl
      refine ⟨_, exec_tachTimerExpiry ht, ?_⟩
      dsimp only
      rw [hidle, if_neg hreg, hset.settle_eq (b := b) (by simp) (by simp) (by simp)
        (by simpa [permitDue, Spindle.unreferenced] using hset.2.2.1 b)]
      exact ⟨by simp [Spindle.unreferenced], by simp [Spindle.unreferenced], rfl⟩
  all_goals
    generalize hv : s.modSpin b Spindle.unreferenced = v
    have vsched : (v.bay b).sched = (s.bay b).sched := by simp [← hv]
    have vspin : (v.bay b).spin = (s.bay b).spin.unreferenced := by simp [← hv]
    have vledger : v.ledger = s.ledger := by simp [← hv]
    have vcart : (v.bay b).cart = (s.bay b).cart := by simp [← hv]
    have vpos : (v.bay b).pos = (s.bay b).pos := by simp [← hv]
    have vother : v.bay b.other = s.bay b.other := by simp [← hv]
    have vcomp : v.completions = s.completions := by simp [← hv]
    have vcnt : (v.bay b).cnt = (s.bay b).cnt := by simp [← hv]
    have vmon : (v.bay b).mon = (s.bay b).mon := by simp [← hv]
  · have ha : SpindleAlone b v :=
      ⟨loadWaiting_of_pending (by rw [vpos]; exact hp), pulseOff_of_state (by rw [vcart]; exact he), fun h => absurd h (by rw [vcart]; exact hr)⟩
    obtain ⟨hpos, hother⟩ := ha.stop_frame (Ledger.waits_of_nil (by rw [vledger]; exact hw) _) (by rw [vcart]; exact hr)
    refine ⟨_, tachTimerExpiry_stops hset ht hb (by rw [hv, hother, vother]) hq, ?_⟩
    rw [hv]
    simp only [judgeGate_pos, judgeGate_bay_other, judgeGate_spin, judgeGate_ledger, judgeGate_completions, judgeGate_sched]
    refine ⟨hpos.trans vpos, hother.trans vother, fun hs hm => ?_, fun hs h3 hcap hfit => ?_, fun hs => ?_, fun hs hm => ?_⟩
    · rw [ha.stopped_plain (by rw [vspin]; simp [Spindle.unreferenced, hs, plainStop]) (by rw [vspin]; exact hm) (by rw [vcart]; exact hr)]
      refine ⟨?_, by simp [vledger], fun op hi hk => ?_, fun op hi hk => ?_⟩
      · rw [State.modSpin_spin, stopCompletes_spin, vspin]
        simp [Spindle.stopped, Spindle.unreferenced, hm]
      · simpa [vcomp] using stopCompletes_spinDown (s := v) (b := b) (by rw [vsched]; exact hi) hk
      · simpa [vcomp, vspin, Spindle.unreferenced] using stopCompletes_spinUp (s := v) (b := b) (by rw [vsched]; exact hi) hk
    · obtain ⟨e1, e2, e3, e4⟩ := ha.stopped_retry (by rw [vspin]; exact hs) (by rw [vledger]; exact hw) (by rw [vledger]; exact hcap)
        (by rw [State.hold, vledger]; exact hfit)
      rw [judgeGate_spinUpRetries, e1, e2, e3, e4, vspin, vcnt, vledger, vsched]
      refine ⟨rfl, ?_, rfl, rfl, rfl, rfl⟩
      exact (bump_three _).trans (Nat.min_eq_right h3)
    · rw [ha.stop_spinFail (by rw [vspin]; exact hs)]
      obtain ⟨-, -, e3, e4, e5, e6⟩ := spinFaultRaised_spec b .spinFail v
      rw [e3, e4, e5, e6, vsched, vledger, vcomp]
      refine ⟨rfl, rfl, rfl, rfl, ?_⟩
      simp [faultRecords, vsched, vspin, Spindle.unreferenced]
    · rw [ha.stop_overcurrent (by rw [vspin]; exact hs), vspin, if_neg (by simp [Spindle.unreferenced, hm])]
      simp [faultCompletes, Spindle.faulted, vledger]
  · have hn : (v.bay b).cart.state ≠ .releasePending := by simp [vcart, hc]
    have ha : SpindleAlone b v :=
      ⟨loadWaiting_of_pending (by rw [vpos]; exact hl), pulseOff_of_state (by simp [vcart, hc]), fun h => absurd h hn⟩
    have hvs : v.ledger.waits (.spindle b) = false := by rw [vledger]; exact hs
    have hvi : (v.bay b).sched.inflight = some op := by rw [vsched]; exact hi
    obtain ⟨hpos, hother⟩ := ha.stop_frame hvs hn
    refine ⟨_, tachTimerExpiry_stops hset ht hb (by rw [hv, hother, vother]) hq, ?_⟩
    rw [hv]
    simp only [judgeGate_pos, judgeGate_bay_other, judgeGate_spin, judgeGate_ledger, judgeGate_completions, judgeGate_sched]
    refine ⟨hpos.trans vpos, hother.trans vother, ?_⟩
    rcases hp with hp | hp
    · have hstop : platterStop b v = _ := (platterStop_marked (by rw [vspin]; simp [Spindle.unreferenced, hp, plainStop]) (by rw [vspin]; exact hm)).trans
        ha.stop_attempt
      cases ho : (s.bay b).mon.overcurrent
      · rw [hstop, vmon, ho, if_neg (by simp)]
        obtain ⟨e1, e2, e3, e4, e5, e6⟩ := ha.stopped_attempt hvi hk hvs
        rw [vledger, State.hold, vledger, vcomp, vsched] at e6
        exact ⟨e1, e2, fun _ h => absurd h (by simp), fun _ _ => ⟨e3, e4, e5, e6⟩, fun h => absurd (hp.symm.trans h) (by simp)⟩
      · rw [hstop, vmon, ho, if_pos rfl]
        obtain ⟨-, -, e3, e4, e5, e6⟩ := spinFaultRaised_spec b .overcurrent (v.modSpin b Spindle.restarting)
        rw [e3, e4, e5, e6, State.modSpin_spin, State.modSpin_ledger, State.modSpin_sched, State.modSpin_completions, vsched, vledger, vcomp]
        refine ⟨rfl, rfl, fun _ _ => ⟨rfl, rfl, rfl, rfl, ?_⟩, fun _ h => absurd h (by simp), fun h => absurd (hp.symm.trans h) (by simp)⟩
        simp [faultRecords, vsched, vspin, Spindle.unreferenced, Spindle.restarting]
    · rw [ha.stop_overcurrent (by rw [vspin]; exact hp), if_pos (by rw [vspin, inflightIs_of hvi, hk]; simp [Spindle.unreferenced, hm, OpKind.isSpinUp])]
      obtain ⟨-, -, e3, e4, e5, e6⟩ := spinFaultRaised_spec b .spinFail v
      rw [e3, e4, e5, e6, vsched, vledger, vcomp]
      refine ⟨rfl, rfl, fun h => absurd (hp.symm.trans h) (by simp), fun h => absurd (hp.symm.trans h) (by simp),
        fun _ => ⟨rfl, rfl, rfl, rfl, ?_⟩⟩
      simp [faultRecords, vsched, vspin, Spindle.unreferenced]
  · have hvw : v.ledger.waits (.latch b) = false := by rw [vledger]; exact hw
    have ha : SpindleAlone b v :=
      ⟨loadWaiting_of_pending (by rw [vpos]; exact hl), pulseOff_of_state (by simp [vcart, hc]), fun _ => hvw⟩
    obtain ⟨e1, e2, e3, e4, e5, e6, e7⟩ := ha.stopped_releasing (by rw [vspin]; simp [Spindle.unreferenced, hp, plainStop]) (by rw [vspin]; exact hm)
      (by rw [vcart]; exact hc)
    refine ⟨_, tachTimerExpiry_stops hset ht hb (by rw [hv, e4, vother]) hq, ?_⟩
    rw [hv]
    rw [vpos, vledger, vcart] at e5
    rw [vpos, vledger] at e6
    rw [vsched, vpos, vledger, vcomp, vspin] at e7
    simp only [judgeGate_pos, judgeGate_bay_other, judgeGate_spin, judgeGate_ledger, judgeGate_completions, judgeGate_sched, judgeGate_cart]
    refine ⟨e1, e2, e3.trans vpos, e4.trans vother, fun h => ?_, e6, e7⟩
    simpa only [LatchAsked, judgeGate_cart, judgeGate_ledger] using e5 h

end Sys2Proof.Machine
end

section
namespace Sys2Proof.Machine

variable {b : Bay} {m : Bool} {s t u v : State} {c : Consumer} {k : OpKind} {op : Op}

/-! ### Acts of a bay without work -/

/-- Acts of a bay with nothing in flight and nothing queued complete nothing. -/
theorem Acts.idle (h : Acts b m s t) (hi : (s.bay b).sched.inflight = none) (hq : (s.bay b).sched.queue = []) :
    t.completions = s.completions ∧ (t.bay b).sched.inflight = none ∧ (t.bay b).sched.queue = [] := by
  have completed : ∀ {v : State} (o : OpOutcome), (v.bay b).sched.inflight = none → (completeOp b o v).completions = v.completions ∧
      (completeOp b o v).bay b = v.bay b := fun {v} o hv => by rw [(completeOp_spec v b o).1 hv]; exact ⟨rfl, rfl⟩
  induction h with
  | refl => exact ⟨rfl, hi, hq⟩
  | moved _ ih => exact ih hi hq
  | judged _ _ ih => exact ih hi hq
  | complete o _ ih =>
    obtain ⟨h1, h2, h3⟩ := ih hi hq
    obtain ⟨e1, e2⟩ := completed o h2
    exact ⟨e1.trans h1, by rw [e2, h2], by rw [e2, h3]⟩
  | fault c _ ih =>
    obtain ⟨h1, h2, h3⟩ := ih hi hq
    rw [faultHalt_completions, faultHalt_sched, faultRecords, h2]
    exact ⟨h1, rfl, h3⟩
  | cancel _ ih => rw [cancelQueue_of_nil (ih hi hq).2.2]; exact ih hi hq
  | spin _ _ _ _ ih | pos _ _ _ ih | count _ _ ih | unqualify _ ih | dropSau _ ih | history _ _ ih | close _ ih | pulseOff _ _ ih
  | abandon _ _ ih | lamp _ ih | ledger _ _ _ _ _ _ ih =>
    simpa [clearQualified] using ih hi hq

/-! ### What bringing a bay to rest leaves of its heads
A grant moves an actuator only if its request waits, the heads are loaded, or a load waits over a LOCKED spindle (R94, R98). -/

/-- The heads are off the platter, and no load is about to begin. -/
def HeadsOff (b : Bay) (s : State) : Prop :=
  (s.bay b).pos.state.loaded = false ∧ (loadWaiting b s = true → (s.bay b).spin.state ≠ .locked)

/-- No grant can move the heads. -/
def HeadsCalm (b : Bay) (s : State) : Prop := s.ledger.waits (.actuator b) = false ∨ HeadsOff b s

theorem HeadsOff.congr (h : HeadsOff b s) (hp : (t.bay b).pos.state = (s.bay b).pos.state) (hl : loadWaiting b t = loadWaiting b s)
    (hs : (t.bay b).spin.state = (s.bay b).spin.state ∨ (t.bay b).spin.state ≠ .locked) : HeadsOff b t := by
  refine ⟨by rw [hp]; exact h.1, fun hw => ?_⟩
  rcases hs with hs | hs
  · rw [hs]; exact h.2 (hl ▸ hw)
  · exact hs

/-- R94: with the heads off and no load about to begin, a grant of the actuator brings ACT within it alone. -/
theorem HeadsOff.actuatorGranted (h : HeadsOff b s) (n : Nat) : actuatorGranted b n s = clampAct b n s := by
  have hs : (s.bay b).pos.state ≠ .following ∧ (s.bay b).pos.state ≠ .settling := by
    constructor <;> intro e <;> simp [HeadsOff, e, PosState.loaded] at h
  have hl : loadWaiting b (clampAct b n s) = loadWaiting b s := by simp [loadWaiting, clampAct]
  unfold Machine.actuatorGranted
  dsimp only
  rw [if_neg (by simp [clampAct, hs]), tryLoading, if_neg]
  rw [hl]
  simp only [clampAct, State.modPos_spin, Bool.and_eq_true, decide_eq_true_eq, not_and]
  exact fun hw => h.2 hw.1.1

/-- What a grant leaves of heads that it cannot move. -/
theorem tellGrant_heads (g : Grant) (h : g.1 = .actuator b → HeadsOff b s) :
    ((tellGrant s g).bay b).pos = { (s.bay b).pos with act := ((tellGrant s g).bay b).pos.act } ∧
      ((tellGrant s g).bay b).servo = (s.bay b).servo ∧
      (((tellGrant s g).bay b).spin.state = (s.bay b).spin.state ∨ ((tellGrant s g).bay b).spin.state = .aligning) ∧
      (g.1 ≠ .actuator b → ((tellGrant s g).bay b).pos = (s.bay b).pos) := by
  rcases g with ⟨d | d | d, n⟩
  all_goals
    simp only [tellGrant]
    rcases Bay.cases_eq d b with rfl | rfl
  · unfold enterAligning
    split <;> simp [Spindle.driven]
  · simp
  · rw [(h rfl).actuatorGranted]
    simp [clampAct]
  · simp
  · unfold startPulse
    dsimp only
    split
    · split <;> simp [countBay, changeCart, lampUpdate]
    · simp
  · simp

theorem tellGrants_heads (gs : List Grant) (h : ∀ g ∈ gs, g.1 = .actuator b → HeadsOff b s) :
    ((tellGrants gs s).bay b).pos = { (s.bay b).pos with act := ((tellGrants gs s).bay b).pos.act } ∧
      ((tellGrants gs s).bay b).servo = (s.bay b).servo ∧
      (((tellGrants gs s).bay b).spin.state = (s.bay b).spin.state ∨ ((tellGrants gs s).bay b).spin.state = .aligning) ∧
      ((∀ g ∈ gs, g.1 ≠ .actuator b) → ((tellGrants gs s).bay b).pos = (s.bay b).pos) := by
  unfold tellGrants
  induction gs generalizing s with
  | nil => simp
  | cons g gs ih =>
    simp only [List.forall_mem_cons] at h ⊢
    obtain ⟨p1, s1, q1, e1⟩ := tellGrant_heads g h.1
    have hl : loadWaiting b (tellGrant s g) = loadWaiting b s := by rw [loadWaiting, p1]; rfl
    obtain ⟨p2, s2, q2, e2⟩ := ih (s := tellGrant s g) fun x hx hb =>
      (h.2 x hx hb).congr (by rw [p1]) hl (q1.imp id fun e => by rw [e]; simp)
    refine ⟨?_, s2.trans s1, ?_, fun hne => (e2 hne.2).trans (e1 hne.1)⟩
    · rw [List.foldl_cons, p2, p1]
    · rcases q2 with q2 | q2
      · rw [List.foldl_cons, q2]; exact q1
      · exact .inr q2

/-- What an operation that brings a bay to rest leaves of its heads: all but ACT and a load wait; and where the actuator does not wait
and no load waits, every word of them and the holding. -/
structure Calm (b : Bay) (s t : State) : Prop where
  calm : HeadsCalm b t
  pos : (t.bay b).pos = { (s.bay b).pos with
    act := (t.bay b).pos.act, pending := (t.bay b).pos.pending, loadWait := (t.bay b).pos.loadWait }
  servo : (t.bay b).servo = (s.bay b).servo
  attempt : (t.bay b).spin.attempt = (s.bay b).spin.attempt
  quiet : s.ledger.waits (.actuator b) = false → t.ledger.waits (.actuator b) = false
  exact : s.ledger.waits (.actuator b) = false → loadWaiting b s = false →
    (t.bay b).pos = (s.bay b).pos ∧ t.ledger.hold (.actuator b) = s.ledger.hold (.actuator b)

namespace Calm

theorem refl (h : HeadsCalm b s) : Calm b s s := ⟨h, rfl, rfl, rfl, id, fun _ _ => ⟨rfl, rfl⟩⟩

theorem trans (h : Calm b s t) (k : Calm b t u) : Calm b s u where
  calm := k.calm
  pos := by rw [k.pos, h.pos]
  servo := k.servo.trans h.servo
  attempt := k.attempt.trans h.attempt
  quiet hw := k.quiet (h.quiet hw)
  exact hw hl := by
    obtain ⟨hp, hh⟩ := h.exact hw hl
    obtain ⟨kp, kh⟩ := k.exact (h.quiet hw) ((loadWaiting_congr hp).trans hl)
    exact ⟨kp.trans hp, kh.trans hh⟩

theorem state (h : Calm b s t) : (t.bay b).pos.state = (s.bay b).pos.state := by rw [h.pos]

/-- A change of a bay or of the part that the heads and the ledger do not see. -/
theorem same (h : Calm b s t) (hp : (u.bay b).pos = (t.bay b).pos) (hv : (u.bay b).servo = (t.bay b).servo)
    (ha : (u.bay b).spin.attempt = (t.bay b).spin.attempt) (hl : u.ledger = t.ledger)
    (hs : (u.bay b).spin.state = (t.bay b).spin.state ∨ (u.bay b).spin.state ≠ .locked) : Calm b s u := by
  refine h.trans ⟨?_, by rw [hp], hv, ha, fun hw => by rw [hl]; exact hw, fun _ _ => ⟨hp, by rw [hl]⟩⟩
  rcases h.calm with hc | hc
  · exact .inl (by rw [hl]; exact hc)
  · exact .inr (hc.congr (by rw [hp]) (loadWaiting_congr hp) hs)

/-- An event of the ledger that another consumer than the actuator begins. -/
theorem event (h : Calm b s t) {l : Ledger} {gs : List Grant} (he : Ledger.Event c t.ledger l gs) (hc : c ≠ .actuator b) :
    Calm b s (tellGrants gs (t.setLedger l)) := by
  have told : ∀ g ∈ gs, g.1 = .actuator b → t.ledger.waits (.actuator b) = true := fun g hg hb => by
    rcases he.told g hg with e | e
    · exact absurd (e.symm.trans hb) hc
    · rwa [hb] at e
  have hoff : HeadsOff b t → HeadsOff b (t.setLedger l) := fun h => h.congr (by simp) (loadWaiting_congr (by simp)) (.inl (by simp))
  have hgs : ∀ g ∈ gs, g.1 = .actuator b → HeadsOff b (t.setLedger l) := fun g hg hb => by
    rcases h.calm with hw | ho
    · rw [told g hg hb] at hw; cases hw
    · exact hoff ho
  obtain ⟨p, v, q, e⟩ := tellGrants_heads gs hgs
  rw [State.setLedger_bay] at p v q e
  have hexact : t.ledger.waits (.actuator b) = false → ((tellGrants gs (t.setLedger l)).bay b).pos = (t.bay b).pos := fun hw =>
    e fun g hg hb => by rw [told g hg hb] at hw; cases hw
  have hl : loadWaiting b (tellGrants gs (t.setLedger l)) = loadWaiting b t := by rw [loadWaiting, p]; rfl
  refine h.trans ⟨?_, by rw [p], v, ?_, fun hw => ?_, fun hw _ => ⟨hexact hw, ?_⟩⟩
  · rcases h.calm with hw | ho
    · exact .inl (by rw [tellGrants_ledger, State.setLedger_ledger]; exact (he.kept _ hc.symm hw).2)
    · exact .inr (ho.congr (by rw [p]) hl (q.imp id fun e => by rw [e]; simp))
  · exact ((granted_tellGrants gs (t.setLedger l)).bay b).attempt.trans (by simp)
  · rw [tellGrants_ledger, State.setLedger_ledger]; exact (he.kept _ hc.symm hw).2
  · rw [tellGrants_ledger, State.setLedger_ledger]; exact (he.kept _ hc.symm hw).1

theorem lower (h : Calm b s t) (n : Nat) (hc : c ≠ .actuator b) : Calm b s (lowerHolding c n t) := h.event (Ledger.event_lower c n t.ledger) hc

/-- A withdrawal, also the actuator's own. -/
theorem withdraw (h : Calm b s t) (c : Consumer) : Calm b s (withdrawRequest c t) :=
  h.event (Ledger.event_withdraw c (.spindle b) t.ledger) (by simp)

end Calm

end Sys2Proof.Machine
end

section
namespace Sys2Proof.Machine

variable {b : Bay} {m : Bool} {s t u v : State} {c : Consumer} {k : OpKind} {op : Op}

/-! ### The actuator gives back what it has of the ledger (R55, R57) -/

@[simp] theorem lampUpdate_servo (s : State) (b c : Bay) : ((lampUpdate b s).bay c).servo = (s.bay c).servo := by simp [lampUpdate]

@[simp] theorem changeCart_servo (f : Cartridge → Cartridge) (s : State) (b c : Bay) : ((changeCart b f s).bay c).servo = (s.bay c).servo := by
  simp [changeCart]

@[simp] theorem changeSched_servo (s : State) (b c : Bay) (f : Sched → Sched) : ((changeSched b f s).bay c).servo = (s.bay c).servo := by
  simp [changeSched, refreshAttn]

@[simp] theorem completeOp_servo (s : State) (b c : Bay) (o : OpOutcome) : ((completeOp b o s).bay c).servo = (s.bay c).servo := by
  unfold completeOp
  split <;> simp [writeRecord]

@[simp] theorem completeIf_servo (p : OpKind → Bool) (o : OpOutcome) (s : State) (b c : Bay) :
    ((completeIf b p o s).bay c).servo = (s.bay c).servo := by unfold completeIf; split <;> simp

@[simp] theorem faultHalt_servo (s : State) (b c : Bay) (x : Cause) : ((faultHalt b x s).bay c).servo = (s.bay c).servo := by simp [faultHalt]

@[simp] theorem cancelQueue_servo (s : State) (b c : Bay) : ((cancelQueue b s).bay c).servo = (s.bay c).servo := by
  rcases Bay.cases_eq b c with rfl | rfl
  · rw [cancelQueue_bay]
  · simp

/-- Who withdraws is granted nothing, keeps its holding and waits no more. -/
theorem Ledger.withdraw_own (c : Consumer) (l : Ledger) :
    (∀ g ∈ (l.withdraw c).2, g.1 ≠ c) ∧ (l.withdraw c).1.hold c = l.hold c ∧ (l.withdraw c).1.waits c = false := by
  unfold Ledger.withdraw
  split
  · have hc : c ∉ (l.wait.filter fun e : WaitEntry => e.who ≠ c).map WaitEntry.who := by simp
    refine ⟨fun g hg e => hc ?_, Ledger.grantHeads_hold _ _ _ hc, Ledger.grantHeads_waits _ _ _ hc⟩
    have hm := Ledger.grantHeads_who _ _ g hg
    rwa [e] at hm
  · next h => exact ⟨by simp, rfl, by simpa using h⟩

/-- Who reduces its holding and does not wait is granted nothing. -/
theorem Ledger.lower_own {l : Ledger} (h : l.waits c = false) (n : Nat) :
    (∀ g ∈ (l.lower c n).2, g.1 ≠ c) ∧ (l.lower c n).1.waits c = false := by
  have hc : c ∉ (l.setHold c n).wait.map WaitEntry.who := by rw [Ledger.setHold_wait]; exact Ledger.waits_eq_false.mp h
  unfold Ledger.lower
  split
  · refine ⟨fun g hg e => hc ?_, Ledger.grantHeads_waits _ _ _ hc⟩
    have hm := Ledger.grantHeads_who _ _ g hg
    rwa [e] at hm
  · exact ⟨by simp, h⟩

/-- What an event of the ledger that grants the actuator nothing leaves of the heads. -/
structure HeadsLeft (b : Bay) (s t : State) : Prop where
  pos : (t.bay b).pos = (s.bay b).pos
  servo : (t.bay b).servo = (s.bay b).servo
  attempt : (t.bay b).spin.attempt = (s.bay b).spin.attempt
  spin : (t.bay b).spin.state = (s.bay b).spin.state ∨ (t.bay b).spin.state = .aligning

theorem HeadsLeft.trans (h : HeadsLeft b s t) (k : HeadsLeft b t u) : HeadsLeft b s u where
  pos := k.pos.trans h.pos
  servo := k.servo.trans h.servo
  attempt := k.attempt.trans h.attempt
  spin := by
    rcases k.spin with e | e
    · rw [e]; exact h.spin
    · exact .inr e

theorem headsLeft_grants {l : Ledger} {gs : List Grant} (h : ∀ g ∈ gs, g.1 ≠ .actuator b) : HeadsLeft b s (tellGrants gs (s.setLedger l)) := by
  obtain ⟨-, hv, hq, hp⟩ := tellGrants_heads (s := s.setLedger l) gs fun g hg e => absurd e (h g hg)
  rw [State.setLedger_bay] at hv hq hp
  exact ⟨hp h, hv, ((granted_tellGrants gs _).bay b).attempt.trans (by simp), hq⟩

/-- R57: the actuator's withdrawal. -/
theorem withdrawActuator (b : Bay) (s : State) :
    HeadsLeft b s (withdrawRequest (.actuator b) s) ∧
      (withdrawRequest (.actuator b) s).ledger.hold (.actuator b) = s.ledger.hold (.actuator b) ∧
      (withdrawRequest (.actuator b) s).ledger.waits (.actuator b) = false := by
  obtain ⟨h1, h2, h3⟩ := s.ledger.withdraw_own (.actuator b)
  unfold withdrawRequest
  rw [tellGrants_ledger, State.setLedger_ledger]
  exact ⟨headsLeft_grants h1, h2, h3⟩

/-- R55: the actuator's reduction, where it does not wait. -/
theorem lowerActuator (h : s.ledger.waits (.actuator b) = false) (n : Nat) :
    HeadsLeft b s (lowerHolding (.actuator b) n s) ∧ (lowerHolding (.actuator b) n s).ledger.waits (.actuator b) = false := by
  obtain ⟨h1, h2⟩ := Ledger.lower_own h n
  unfold lowerHolding
  rw [tellGrants_ledger, State.setLedger_ledger]
  exact ⟨headsLeft_grants h1, h2⟩

/-- R94, R103: the end of a load wait: nothing pending, nothing held, nothing waiting. -/
theorem endLoadWait_heads (h : loadWaiting b s = true) :
    ((endLoadWait b s).bay b).pos = { (s.bay b).pos with pending := .none, loadWait := none } ∧
      ((endLoadWait b s).bay b).servo = (s.bay b).servo ∧
      ((endLoadWait b s).bay b).spin.attempt = (s.bay b).spin.attempt ∧
      (endLoadWait b s).ledger.waits (.actuator b) = false ∧ (endLoadWait b s).ledger.hold (.actuator b) = 0 := by
  unfold endLoadWait
  rw [if_pos h]
  obtain ⟨l1, -, w1⟩ := withdrawActuator b (s.modPos b fun p => { p with pending := .none, loadWait := none })
  obtain ⟨l2, w2⟩ := lowerActuator w1 0
  have hl := l1.trans l2
  exact ⟨hl.pos.trans (by simp), hl.servo.trans (by simp), hl.attempt.trans (by simp), w2, lowerHolding_zero_hold w1⟩

end Sys2Proof.Machine
end

section
namespace Sys2Proof.Machine

variable {b : Bay} {m : Bool} {s t u v : State} {c : Consumer} {k : OpKind} {op : Op}

/-! ### The operations that bring a bay to rest are calm -/

namespace Calm

theorem complete (h : Calm b s t) (o : OpOutcome) : Calm b s (completeOp b o t) := h.same (by simp) (by simp) (by simp) (by simp) (by simp)

theorem completeIf (h : Calm b s t) (p : OpKind → Bool) (o : OpOutcome) : Calm b s (completeIf b p o t) :=
  h.same (by simp) (by simp) (by simp) (by simp) (by simp)

theorem fault (h : Calm b s t) (x : Cause) : Calm b s (faultHalt b x t) := h.same (by simp) (by simp) (by simp) (by simp) (by simp)

theorem close (h : Calm b s t) : Calm b s (closeWindow b t) := h.same (by simp) (by simp [closeWindow]) (by simp) (by simp) (by simp)

theorem changeCart (h : Calm b s t) (f : Cartridge → Cartridge) : Calm b s (changeCart b f t) :=
  h.same (by simp) (by simp) (by simp) (by simp [Machine.changeCart]) (by simp)

theorem modCart (h : Calm b s t) (f : Cartridge → Cartridge) : Calm b s (t.modCart b f) :=
  h.same (by simp) (by simp) (by simp) (by simp) (by simp)

/-- A change of the spindle that enters no LOCKED and no attempt. -/
theorem spin (h : Calm b s t) {f : Spindle → Spindle} (ha : (f (t.bay b).spin).attempt = (t.bay b).spin.attempt)
    (hs : (f (t.bay b).spin).state = (t.bay b).spin.state ∨ (f (t.bay b).spin).state ≠ .locked) : Calm b s (t.modSpin b f) :=
  h.same (by simp) (by simp) (by simpa using ha) (by simp) (by simpa using hs)

theorem speedLostUpdate (h : Calm b s t) : Calm b s (speedLostUpdate b t) :=
  h.same (by simp) (by simp [Machine.speedLostUpdate]) (by simp [Machine.speedLostUpdate]) (by simp) (by simp)

theorem reported (h : Calm b s t) : Calm b s (reported b t) := by
  unfold Machine.reported
  split
  · exact h
  · exact h.same (by simp) (by simp [silenced, clearQualified]) (by simp) (by simp) (by simp)

theorem endPulse (h : Calm b s t) : Calm b s (endPulse b t) := (h.modCart _).lower 0 (by simp)

theorem cutPulse (h : Calm b s t) : Calm b s (cutPulse b t) := by
  unfold Machine.cutPulse
  split
  · exact h.endPulse
  · exact h

theorem askLatch (h : Calm b s t) (r : Req) : Calm b s (ask (.latch b) r t) := by
  have hg := h.event (c := .latch b) (Ledger.event_request (.latch b) r t.ledger) (by simp)
  unfold ask
  dsimp only
  split
  · unfold tellNoBudget
    dsimp only
    split
    · exact (hg.changeCart _).completeIf _ _
    · exact hg
  · exact hg

theorem judgeLatch (h : Calm b s t) : Calm b s (judgeLatch b t) := by
  unfold Machine.judgeLatch
  split
  · split
    · split
      · exact h
      · exact h.askLatch _
    · exact h.withdraw _
  · exact h

/-- The end of a load wait. -/
theorem failLoadWait (h : Calm b s t) (x : Cause) : Calm b s (failLoadWait b x t) := by
  unfold Machine.failLoadWait
  split
  · next hl =>
    obtain ⟨hp, hv, ha, hw, -⟩ := endLoadWait_heads hl
    have off : Calm b t (endLoadWait b t) :=
      ⟨.inl hw, by rw [hp], hv, ha, fun _ => hw, fun _ hn => absurd (hl.symm.trans hn) (by simp)⟩
    exact (h.trans off).completeIf _ _
  · exact h

/-- A change of the spindle to a state without regulation. -/
theorem spindleChanged (h : Calm b s t) (hr : (t.bay b).spin.state.regulated = false) : Calm b s (spindleChanged b t) := by
  unfold Machine.spindleChanged
  dsimp only
  rw [if_neg (by simp [hr])]
  exact ((h.speedLostUpdate.failLoadWait _).cutPulse).judgeLatch

end Calm

/-- The states a spindle takes at a brake order, a stop and a fault. -/
def SpinState.resting : SpinState → Bool
  | .stopped | .braking | .fault => true
  | _ => false

theorem SpinState.resting_iff (x : SpinState) : x.resting = true ↔ x = .stopped ∨ x = .braking ∨ x = .fault := by cases x <;> simp [resting]

theorem SpinState.resting_not {x : SpinState} (h : x.resting = true) : x ≠ .waitPower ∧ x ≠ .locked ∧ x.regulated = false ∧ x.turning = false := by
  cases x <;> simp [resting, regulated, turning] at h ⊢

theorem failLoadWait_spin (h : (s.bay b).spin.state ≠ .waitPower) (x : Cause) :
    (s.bay b).spin.SameButSpeedLost ((failLoadWait b x s).bay b).spin := by
  unfold failLoadWait endLoadWait
  split
  · rw [completeIf_spin]
    have h1 := withdrawRequest_spin (s := s.modPos b fun p => { p with pending := .none, loadWait := none }) (b := b) (.actuator b) (by simpa using h)
    rw [State.modPos_spin] at h1
    exact h1.trans (lowerHolding_spin _ _ (by rw [h1]; exact h))
  · exact .refl _

theorem askLatch_spin (h : (s.bay b).spin.state ≠ .waitPower) (r : Req) : (s.bay b).spin.SameButSpeedLost ((ask (.latch b) r s).bay b).spin := by
  have hg := tellGrants_spin (s := s.setLedger (s.ledger.request (.latch b) r).ledger) (b := b) (s.ledger.request (.latch b) r).grants (by simpa using h)
  rw [State.setLedger_bay] at hg
  unfold ask
  dsimp only
  split
  · unfold tellNoBudget
    dsimp only
    split
    · rw [completeIf_spin, changeCart_spin]; exact hg
    · exact hg
  · exact hg

theorem judgeLatch_spin (h : (s.bay b).spin.state ≠ .waitPower) : (s.bay b).spin.SameButSpeedLost ((judgeLatch b s).bay b).spin := by
  unfold judgeLatch
  split
  · split
    · split
      · exact .refl _
      · exact askLatch_spin h _
    · exact withdrawRequest_spin _ h
  · exact .refl _

/-- A change of the spindle to rest leaves the spindle itself but for the speed-lost timer. -/
theorem spindleChanged_resting (h : (s.bay b).spin.state.resting = true) : (s.bay b).spin.SameButSpeedLost ((spindleChanged b s).bay b).spin := by
  obtain ⟨hp, -, hr, -⟩ := SpinState.resting_not h
  unfold spindleChanged
  dsimp only
  rw [speedLostUpdate_spin_state, if_neg (by simp [hr])]
  have h1 := speedLostUpdate_spin b s
  have h2 := h1.trans (failLoadWait_spin (by rw [h1]; exact hp) .notReady)
  have h3 := h2.trans (cutPulse_spin (by rw [h2]; exact hp))
  exact h3.trans (judgeLatch_spin (by rw [h3]; exact hp))

theorem enterBraking_spin (p : BrakePurpose) : ((s.bay b).spin.braking p).SameButSpeedLost ((enterBraking b p s).bay b).spin := by
  have h1 := lowerHolding_spin (s := s.modSpin b (Spindle.braking p)) (b := b) (.spindle b) 0 (by simp [Spindle.braking])
  rw [State.modSpin_spin] at h1
  exact h1.trans (spindleChanged_resting (by rw [h1]; rfl))

theorem enterStopped_spin (b : Bay) (s : State) : ((s.bay b).spin.stopped).SameButSpeedLost ((enterStopped b s).bay b).spin := by
  have h1 := spindleChanged_resting (b := b) (s := s.modSpin b fun x => { x.stopped with speedLost := x.speedLost })
    (by simp [Spindle.stopped, SpinState.resting])
  rw [State.modSpin_spin] at h1
  have h0 : (s.bay b).spin.stopped.SameButSpeedLost { (s.bay b).spin.stopped with speedLost := (s.bay b).spin.speedLost } := rfl
  exact h0.trans h1

theorem brakeOrder_resting (h : (s.bay b).spin.state.resting = true) : brakeOrder b s = s :=
  brakeOrder_still (SpinState.resting_not h).2.2.2 (SpinState.resting_not h).1

/-- R37: what a brake order over undeferring heads makes of the spindle. -/
theorem brakeOrder_spin (hd : (s.bay b).pos.state.defersBrake = false) :
    ((brakeOrder b s).bay b).spin.state =
      if (s.bay b).spin.state.turning = true then .braking else if (s.bay b).spin.state = .waitPower then .stopped else (s.bay b).spin.state := by
  by_cases ht : (s.bay b).spin.state.turning = true
  · rw [brakeOrder_turning ht hd, if_pos ht, enterBraking_spin .stop]
    rfl
  · rw [if_neg ht]
    split
    · next hw =>
      simp only [brakeOrder, hw, abandonPower]
      rw [enterStopped_spin b]
      rfl
    · next hw => rw [brakeOrder_still (by simpa using ht) hw]

theorem brakeOrder_rests (hd : (s.bay b).pos.state.defersBrake = false) : ((brakeOrder b s).bay b).spin.state.resting = true := by
  rw [brakeOrder_spin hd]
  cases (s.bay b).spin.state <;> rfl

end Sys2Proof.Machine
end

section
namespace Sys2Proof.Machine

variable {b : Bay} {m : Bool} {s t u v : State} {c : Consumer} {k : OpKind} {op : Op}

namespace Calm

theorem enterBraking (h : Calm b s t) (p : BrakePurpose) : Calm b s (enterBraking b p t) := by
  have h1 := (h.spin (f := Spindle.braking p) rfl (.inr (by simp [Spindle.braking]))).lower (c := .spindle b) 0 (by simp)
  refine h1.spindleChanged ?_
  have h2 := lowerHolding_spin (s := t.modSpin b (Spindle.braking p)) (b := b) (.spindle b) 0 (by simp [Spindle.braking])
  rw [h2, State.modSpin_spin]
  rfl

theorem enterStopped (h : Calm b s t) : Calm b s (enterStopped b t) :=
  (h.spin rfl (.inr (by simp))).spindleChanged (by simp [SpinState.regulated])

theorem abandonPower (h : Calm b s t) : Calm b s (abandonPower b t) := (h.withdraw _).enterStopped

theorem brakeOrder (h : Calm b s t) : Calm b s (brakeOrder b t) := by
  unfold Machine.brakeOrder
  split
  case h_4 => exact h.abandonPower
  case h_5 | h_6 | h_7 | h_8 | h_9 =>
    split
    · exact h.spin rfl (.inl rfl)
    · exact h.enterBraking _
  all_goals exact h

theorem cancelOnSpindle (h : Calm b s t) : Calm b s (cancelOnSpindle b t) := by
  unfold Machine.cancelOnSpindle
  split
  case h_1 => exact h.abandonPower
  case h_2 | h_3 | h_4 => exact h.enterBraking _
  case h_5 => exact h.spin rfl (.inl rfl)
  all_goals exact h

theorem cancelSpinUp (h : Calm b s t) : Calm b s (cancelSpinUp b t) := by
  unfold Machine.cancelSpinUp
  split
  · split
    · exact (h.complete _).cancelOnSpindle
    · exact h.cancelOnSpindle
  · exact h

theorem raiseFatal (h : Calm b s t) (x : Cause) : Calm b s (raiseFatal b x t) := by
  unfold Machine.raiseFatal raiseOutcome
  dsimp only
  split
  · exact (h.close.fault x).cancelOnSpindle
  · exact h.close.fault x

/-- The brake orders that a change of the positioner gives. -/
theorem brakesDue (h : Calm b s t) : Calm b s (brakesDue b t) := by
  have order : ∀ {v : State} (p : Bool), Calm b s v → Calm b s (if p then Machine.brakeOrder b v else v) := fun {v} p hv => by
    split
    · exact hv.brakeOrder
    · exact hv
  exact order _ (order _ h)

theorem posChanged (h : Calm b s t) : Calm b s (posChanged b t) :=
  ((h.reported.speedLostUpdate.brakesDue).cutPulse).judgeLatch

end Calm

/-- A positioner at the end of a move of the heads (R104, R107). -/
def Positioner.ended (x : PosState) (p : Positioner) : Positioner :=
  { p with state := x, act := 0, source := .none, owner := .none, unloadTimer := none, retractTimer := none }

/-- A positioner at its entry to RETRACTING (R107). -/
def Positioner.retracting (p : Positioner) : Positioner :=
  { p with state := .retracting, act := -60, source := .reserve, owner := .none, pending := .none, loadWait := none, loadTimer := none,
           seekTimer := none, unloadTimer := none, retractTimer := some 500000 }

/-! ### The heads at PARKED, FAULT, RETRACTING and UNLOADING (R104, R107, R108) -/

/-- A change of the positioner, its request withdrawn and its holding reduced. -/
def headsDropped (b : Bay) (n : Nat) (f : Positioner → Positioner) (s : State) : State :=
  lowerHolding (.actuator b) n (withdrawRequest (.actuator b) (s.modPos b f))

theorem headsDropped_left (b : Bay) (n : Nat) (f : Positioner → Positioner) (s : State) :
    HeadsLeft b (s.modPos b f) (headsDropped b n f s) ∧ (headsDropped b n f s).ledger.waits (.actuator b) = false ∧
      (headsDropped b 0 f s).ledger.hold (.actuator b) = 0 := by
  obtain ⟨l1, -, w1⟩ := withdrawActuator b (s.modPos b f)
  obtain ⟨l2, w2⟩ := lowerActuator w1 n
  exact ⟨l1.trans l2, w2, lowerHolding_zero_hold w1⟩

@[simp] theorem headsDropped_pos (b : Bay) (n : Nat) (f : Positioner → Positioner) (s : State) :
    ((headsDropped b n f s).bay b).pos = f (s.bay b).pos := (headsDropped_left b n f s).1.pos.trans (by simp)

@[simp] theorem headsDropped_pins (b : Bay) (n : Nat) (f : Positioner → Positioner) (s : State) :
    ((headsDropped b n f s).bay b).pins = (s.bay b).pins := by
  simp [headsDropped, lowerHolding, withdrawRequest, ((granted_tellGrants _ _).bay b).pins]

@[simp] theorem headsDropped_sched (b : Bay) (n : Nat) (f : Positioner → Positioner) (s : State) (c : Bay) :
    ((headsDropped b n f s).bay c).sched = (s.bay c).sched := by simp [headsDropped, lowerHolding, withdrawRequest]

/-- RETRACTING begun, PARK not yet judged. -/
def retractBegun (b : Bay) (s : State) : State := posChanged b (headsDropped b 0 Positioner.retracting s)

/-- UNLOADING begun, PARK not yet judged. -/
def unloadBegun (b : Bay) (s : State) : State := posChanged b (headsDropped b 60 Positioner.unloading s)

theorem enterRetracting_begun (b : Bay) (s : State) :
    enterRetracting b s = if ((retractBegun b s).bay b).pins.park then enterParked b (retractBegun b s) else retractBegun b s := by
  unfold enterRetracting dropPending
  dsimp only
  rw [State.modPos_modPos]
  rfl

theorem enterUnloading_begun (b : Bay) (s : State) :
    enterUnloading b s = if ((unloadBegun b s).bay b).pins.park then enterParked b (unloadBegun b s) else unloadBegun b s := by
  unfold enterUnloading dropPending
  dsimp only
  rw [State.modPos_modPos]
  rfl

theorem calm_retractBegun (b : Bay) (s : State) : Calm b (headsDropped b 0 Positioner.retracting s) (retractBegun b s) :=
  (Calm.refl (.inl (headsDropped_left b 0 _ s).2.1)).posChanged

theorem calm_unloadBegun (b : Bay) (s : State) : Calm b (headsDropped b 60 Positioner.unloading s) (unloadBegun b s) :=
  (Calm.refl (.inl (headsDropped_left b 60 _ s).2.1)).posChanged

@[simp] theorem retractBegun_pins (b : Bay) (s : State) : ((retractBegun b s).bay b).pins = (s.bay b).pins :=
  ((((Acts.refl true _).posChanged).kept.bay b).pins).trans (by simp)

@[simp] theorem unloadBegun_pins (b : Bay) (s : State) : ((unloadBegun b s).bay b).pins = (s.bay b).pins :=
  ((((Acts.refl true _).posChanged).kept.bay b).pins).trans (by simp)

/-- R107: the heads at RETRACTING, whatever waits. -/
theorem retractBegun_heads (b : Bay) (s : State) :
    ((retractBegun b s).bay b).pos = (s.bay b).pos.retracting ∧ (retractBegun b s).ledger.hold (.actuator b) = 0 ∧
      (retractBegun b s).ledger.waits (.actuator b) = false := by
  obtain ⟨-, hw, hh⟩ := headsDropped_left b 0 Positioner.retracting s
  have hc := calm_retractBegun b s
  obtain ⟨e1, e2⟩ := hc.exact hw (loadWaiting_of_pos (by simp [Positioner.retracting]))
  exact ⟨e1.trans (by simp), e2.trans hh, hc.quiet hw⟩

theorem unloadBegun_heads (b : Bay) (s : State) :
    ((unloadBegun b s).bay b).pos = (s.bay b).pos.unloading ∧ (unloadBegun b s).ledger.waits (.actuator b) = false := by
  obtain ⟨-, hw, -⟩ := headsDropped_left b 60 Positioner.unloading s
  have hc := calm_unloadBegun b s
  obtain ⟨e1, -⟩ := hc.exact hw (loadWaiting_of_pos (by simp [Positioner.unloading]))
  exact ⟨e1.trans (by simp), hc.quiet hw⟩

end Sys2Proof.Machine
end

section
namespace Sys2Proof.Machine

variable {b : Bay} {m : Bool} {s t u v : State} {c : Consumer} {k : OpKind} {op : Op}

/-! ### PARKED reached (R104, R105, R107, R109) -/

/-- The operations that PARKED completes. -/
def parkCompletes (b : Bay) (s : State) : State :=
  completeIf b (fun k => k.isLoad || k.isSeek) .cancelled (completeIf b OpKind.isUnload .success s)

@[simp] theorem parkCompletes_pos (b c : Bay) (s : State) : ((parkCompletes b s).bay c).pos = (s.bay c).pos := by simp [parkCompletes]

@[simp] theorem parkCompletes_spin (b c : Bay) (s : State) : ((parkCompletes b s).bay c).spin = (s.bay c).spin := by simp [parkCompletes]

@[simp] theorem parkCompletes_ledger (b : Bay) (s : State) : (parkCompletes b s).ledger = s.ledger := by simp [parkCompletes]

theorem parkCompletes_cart (b : Bay) (s : State) : (s.bay b).cart.sameButLamp ((parkCompletes b s).bay b).cart :=
  (completeIf_sameButLamp _ _ s b).trans (completeIf_sameButLamp _ _ _ b)

@[simp] theorem parkCompletes_queue (b c : Bay) (s : State) : ((parkCompletes b s).bay c).sched.queue = (s.bay c).sched.queue := by
  simp [parkCompletes]

/-- R105: the UNLOAD HEADS that PARKED completes. -/
theorem parkCompletes_unload (h : (s.bay b).sched.inflight = some op) (hk : op.kind = .unloadHeads) :
    (parkCompletes b s).completions = recorded s.completions ⟨op.tag, b, .unloadHeads, .success, none⟩ ∧
      ((parkCompletes b s).bay b).sched.inflight = none := by
  have hin : ((completeOp b .success s).bay b).sched.inflight = none := by rw [completeOp_sched, Sched.ended_inflight]
  unfold parkCompletes
  rw [completeIf_of_kind (p := OpKind.isUnload) h (by rw [hk]; rfl), completeIf_of_not (inflightIs_none hin)]
  exact ⟨by rw [completeOp_completions h, hk]; rfl, hin⟩

/-- R109: the LOAD HEADS or SEEK that PARKED ends. -/
theorem parkCompletes_stopped (h : (s.bay b).sched.inflight = some op) (hk : op.kind.isSeek = true ∨ op.kind = .loadHeads) :
    (parkCompletes b s).completions = recorded s.completions ⟨op.tag, b, op.kind, .cancelled, none⟩ ∧
      ((parkCompletes b s).bay b).sched.inflight = none := by
  have hu : op.kind.isUnload = false := by rcases hk with hk | hk <;> cases ho : op.kind <;> simp_all [OpKind.isUnload, OpKind.isSeek]
  have hs : op.kind ≠ .spinUp := fun e => by simp [e, OpKind.isSeek] at hk
  unfold parkCompletes
  rw [completeIf_of_not (p := OpKind.isUnload) (by rw [inflightIs_of h, hu]), completeIf_of_kind h ?_]
  · exact ⟨by rw [completeOp_completions h, detailOf_of_failed (by simp), if_neg hs], by rw [completeOp_sched, Sched.ended_inflight]⟩
  · rcases hk with hk | hk <;> simp [hk, OpKind.isLoad]

/-- PARKED begun: the positioner, its holding, the operations it completes. -/
def parkBegun (b : Bay) (s : State) : State := parkCompletes b (lowerHolding (.actuator b) 0 (s.modPos b (Positioner.ended .parked)))

theorem enterParked_begun (b : Bay) (s : State) : enterParked b s = posChanged b (parkBegun b s) := rfl

theorem enterPosFault_begun (b : Bay) (s : State) :
    enterPosFault b s = posChanged b (lowerHolding (.actuator b) 0 (s.modPos b (Positioner.ended .fault))) := rfl

/-- Where the actuator does not wait, PARKED is the positioner's end, and its holding is released. -/
theorem parkBegun_heads (h : s.ledger.waits (.actuator b) = false) :
    ((parkBegun b s).bay b).pos = (s.bay b).pos.ended .parked ∧ (parkBegun b s).ledger.waits (.actuator b) = false ∧
      ((parkBegun b s).bay b).servo = (s.bay b).servo ∧ ((parkBegun b s).bay b).spin.attempt = (s.bay b).spin.attempt ∧
      (parkBegun b s).ledger.hold (.actuator b) = 0 := by
  have hw : (s.modPos b (Positioner.ended .parked)).ledger.waits (.actuator b) = false := by simpa using h
  obtain ⟨l, w⟩ := lowerActuator hw 0
  refine ⟨?_, ?_, ?_, ?_, ?_⟩
  · rw [parkBegun, parkCompletes_pos, l.pos]; simp
  · rw [parkBegun, parkCompletes_ledger]; exact w
  · rw [parkBegun, parkCompletes, completeIf_servo, completeIf_servo, l.servo]; simp
  · rw [parkBegun, parkCompletes_spin, l.attempt]; simp
  · rw [parkBegun, parkCompletes_ledger]; exact lowerHolding_zero_hold hw

theorem calm_enterParked (h : s.ledger.waits (.actuator b) = false) : Calm b (parkBegun b s) (enterParked b s) :=
  (Calm.refl (.inl (parkBegun_heads h).2.1)).posChanged

/-- R104, R107: the heads at PARKED. -/
theorem enterParked_pos (h : s.ledger.waits (.actuator b) = false) (hp : (s.bay b).pos.pending ≠ .load) :
    ((enterParked b s).bay b).pos = (s.bay b).pos.ended .parked := by
  obtain ⟨h1, h2, -⟩ := parkBegun_heads h
  exact ((calm_enterParked h).exact h2 (loadWaiting_of_pending (by rw [h1]; exact hp))).1.trans h1

/-! ### The brake orders that a change of the positioner gives, with nothing waiting (R12, R37) -/

theorem brakeWaits_iff {p q : State} (hs : (q.bay b).spin.state = (p.bay b).spin.state) (hm : (q.bay b).spin.brakeMark = (p.bay b).spin.brakeMark)
    (hc : (q.bay b).cart.state = (p.bay b).cart.state) : BrakeWaits b q ↔ BrakeWaits b p := by simp [BrakeWaits, hs, hm, hc]

/-- Where a second brake order finds nothing to do, the mark and the release give one (R12, R37). -/
theorem brakesDue_once (again : brakeOrder b (brakeOrder b s) = brakeOrder b s) :
    brakesDue b s =
      if ((s.bay b).spin.brakeMark || decide ((s.bay b).cart.state = .releasePending)) && !(s.bay b).pos.state.defersBrake then brakeOrder b s
      else s := by
  unfold brakesDue
  dsimp only
  by_cases hd : (s.bay b).pos.state.defersBrake = true
  · simp [hd]
  · by_cases hm : (s.bay b).spin.brakeMark = true
    · have hfirst : ((s.bay b).spin.brakeMark && !(s.bay b).pos.state.defersBrake) = true := by simp [hm, hd]
      simp only [hfirst, if_true, again, ite_self]
      simp [hm, hd]
    · have hfirst : ((s.bay b).spin.brakeMark && !(s.bay b).pos.state.defersBrake) = false := by simp [hm]
      simp only [hfirst, Bool.false_eq_true, if_false]
      simp [hm]

/-- A brake order that waits is carried out, once. -/
theorem brakesDue_braking (hd : (s.bay b).pos.state.defersBrake = false) (hw : s.ledger.wait = []) (hl : loadWaiting b s = false)
    (hp : PulseOff b s) (hb : BrakeWaits b s) :
    brakesDue b s = (s.modSpin b (Spindle.braking .stop)).setLedger (s.ledger.setHold (.spindle b) 0) := by
  obtain ⟨ht, hm⟩ := hb
  have order : brakeOrder b s = (s.modSpin b (Spindle.braking .stop)).setLedger (s.ledger.setHold (.spindle b) 0) := by
    rw [brakeOrder_turning ht hd, enterBraking_eq hw hl hp]
  have again : brakeOrder b ((s.modSpin b (Spindle.braking .stop)).setLedger (s.ledger.setHold (.spindle b) 0)) =
      (s.modSpin b (Spindle.braking .stop)).setLedger (s.ledger.setHold (.spindle b) 0) :=
    brakeOrder_resting (by simp [Spindle.braking, SpinState.resting])
  rw [brakesDue_once (by rw [order, again]), if_pos (by simpa [hd] using hm), order]

/-- With no brake order waiting, and none that ends a wait for power, nothing comes of it. -/
theorem brakesDue_undue (hb : ¬BrakeWaits b s) (hw : (s.bay b).spin.state ≠ .waitPower) : brakesDue b s = s := by
  by_cases ht : (s.bay b).spin.state.turning = true
  · have hn : ¬((s.bay b).spin.brakeMark = true ∨ (s.bay b).cart.state = .releasePending) := fun h => hb ⟨ht, h⟩
    rw [not_or] at hn
    exact brakesDue_none (by simpa using hn.1) hn.2
  · exact brakesDue_still (by simpa using ht) hw

/-- A brake order ends a wait for power, once (R37). -/
theorem brakesDue_waiting (hn : (s.bay b).pos.state ≠ .parked) (hw : s.ledger.wait = []) (hp : PulseOff b s)
    (hs : (s.bay b).spin.state = .waitPower) : brakesDue b s = s ∨ brakesDue b s = s.modSpin b Spindle.stopped := by
  have alone : SpindleAlone b s := ⟨loadWaiting_of_pos hn, hp, fun _ => Ledger.waits_of_nil hw _⟩
  have order : brakeOrder b s = s.modSpin b Spindle.stopped := by
    simp only [brakeOrder, hs, abandonPower]
    rw [withdrawRequest_of_not_waits (Ledger.waits_of_nil hw _), alone.enterStopped_eq,
      (alone.modSpin _).judgeLatch_away (not_atRest_of_pos (by simpa using hn))]
  have again : brakeOrder b (s.modSpin b Spindle.stopped) = s.modSpin b Spindle.stopped :=
    brakeOrder_resting (by simp [Spindle.stopped, SpinState.resting])
  rw [brakesDue_once (by rw [order, again]), order]
  split
  · exact .inr rfl
  · exact .inl rfl

/-- A change of the positioner that lets a waiting brake order be carried out. -/
theorem posChanged_braked (hl : (s.bay b).pos.state.loaded = false) (hd : (s.bay b).pos.state.defersBrake = false) (hw : s.ledger.wait = [])
    (hload : loadWaiting b s = false) (hp : PulseOff b s) (hb : BrakeWaits b s) :
    posChanged b s = ((headsOff b s).modSpin b (Spindle.braking .stop)).setLedger (s.ledger.setHold (.spindle b) 0) := by
  have hp' : PulseOff b (headsOff b s) := hp.congr (by simp [sameButLamp_refl])
  rw [posChanged_eq, speedLostUpdate_reported hl,
    brakesDue_braking (by simpa using hd) (by simpa using hw) ((loadWaiting_congr (by simp)).trans hload) hp'
      ((brakeWaits_iff (by simp) (by simp) (by simp)).mpr hb),
    cutPulse_of_not (hp'.congr (by simp [sameButLamp_refl])),
    judgeLatch_away (not_atRest_of_spin (by simp [Spindle.braking])) (Ledger.waits_of_nil (by simpa using hw) _), headsOff_ledger]

/-- A change of the positioner for which no brake order waits. -/
theorem posChanged_unbraked (hl : (s.bay b).pos.state.loaded = false) (hp : PulseOff b s) (hb : ¬BrakeWaits b s)
    (hw : (s.bay b).spin.state ≠ .waitPower) : posChanged b s = judgeLatch b (headsOff b s) := by
  rw [posChanged_eq, speedLostUpdate_reported hl,
    brakesDue_undue (fun h => hb ((brakeWaits_iff (by simp) (by simp) (by simp)).mp h)) (by simpa using hw),
    cutPulse_of_not (hp.congr (by simp [sameButLamp_refl]))]

/-- A change of the positioner away from PARKED under a wait for power. -/
theorem posChanged_waiting (hl : (s.bay b).pos.state.loaded = false) (hn : (s.bay b).pos.state ≠ .parked) (hw : s.ledger.wait = [])
    (hp : PulseOff b s) (hs : (s.bay b).spin.state = .waitPower) :
    posChanged b s = headsOff b s ∨ posChanged b s = (headsOff b s).modSpin b Spindle.stopped := by
  have hp' : PulseOff b (headsOff b s) := hp.congr (by simp [sameButLamp_refl])
  have away : ∀ v : State, (v.bay b).pos = (s.bay b).pos → (v.bay b).cart = (s.bay b).cart → v.ledger = s.ledger →
      judgeLatch b (cutPulse b v) = v := fun v e1 e2 e3 => by
    rw [cutPulse_of_not (hp.congr (by rw [e2]; exact sameButLamp_refl _)),
      judgeLatch_away (not_atRest_of_pos (by rw [e1]; exact hn)) (Ledger.waits_of_nil (by rw [e3]; exact hw) _)]
  rw [posChanged_eq, speedLostUpdate_reported hl]
  rcases brakesDue_waiting (b := b) (s := headsOff b s) (by simpa using hn) (by simpa using hw) hp' (by simpa using hs) with e | e
  · rw [e]
    exact .inl (away _ (by simp) (by simp) (by simp))
  · rw [e]
    exact .inr (away _ (by simp) (by simp) (by simp))

end Sys2Proof.Machine
end

section
namespace Sys2Proof.Machine

variable {b : Bay} {m : Bool} {s t u v : State} {c : Consumer} {k : OpKind} {op : Op}

/-! ### Away from PARKED no change of a mechanism ends an operation -/

theorem failLoadWait_of_not (h : loadWaiting b s = false) (x : Cause) : failLoadWait b x s = s := by simp [failLoadWait, h]

theorem withdrawRequest_sched (c : Consumer) (s : State) (d : Bay) : ((withdrawRequest c s).bay d).sched = (s.bay d).sched := by
  simp [withdrawRequest]

theorem spindleChanged_sched_away (h : HeadsCalm b s) (hn : (s.bay b).pos.state ≠ .parked) (hr : (s.bay b).spin.state.regulated = false)
    (c : Bay) : ((spindleChanged b s).bay c).sched = (s.bay c).sched := by
  have hc := (Calm.refl h).speedLostUpdate.cutPulse
  have hl : loadWaiting b (speedLostUpdate b s) = false := loadWaiting_of_pos (by simpa using hn)
  unfold spindleChanged
  dsimp only
  rw [speedLostUpdate_spin_state, if_neg (by simp [hr]), failLoadWait_of_not hl,
    judgeLatch_sched_away (not_atRest_of_pos (by rw [hc.state]; exact hn)), cutPulse_sched, speedLostUpdate_sched]

theorem enterBraking_sched_away (h : HeadsCalm b s) (hn : (s.bay b).pos.state ≠ .parked) (p : BrakePurpose) (c : Bay) :
    ((enterBraking b p s).bay c).sched = (s.bay c).sched := by
  have hc := ((Calm.refl h).spin (f := Spindle.braking p) rfl (.inr (by simp [Spindle.braking]))).lower (c := .spindle b) 0 (by simp)
  have hs := lowerHolding_spin (s := s.modSpin b (Spindle.braking p)) (b := b) (.spindle b) 0 (by simp [Spindle.braking])
  have hr : ((lowerHolding (.spindle b) 0 (s.modSpin b (Spindle.braking p))).bay b).spin.state.regulated = false := by
    rw [hs, State.modSpin_spin]; rfl
  exact (spindleChanged_sched_away hc.calm (by rw [hc.state]; exact hn) hr c).trans (by simp)

theorem enterStopped_sched_away (h : HeadsCalm b s) (hn : (s.bay b).pos.state ≠ .parked) (c : Bay) :
    ((enterStopped b s).bay c).sched = (s.bay c).sched := by
  have hc := (Calm.refl h).spin (f := fun x => { x.stopped with speedLost := x.speedLost }) rfl (.inr (by simp [Spindle.stopped]))
  exact (spindleChanged_sched_away hc.calm (by rw [hc.state]; exact hn) (by simp [Spindle.stopped, SpinState.regulated]) c).trans (by simp)

theorem brakeOrder_sched_away (h : HeadsCalm b s) (hn : (s.bay b).pos.state ≠ .parked) (c : Bay) :
    ((brakeOrder b s).bay c).sched = (s.bay c).sched := by
  unfold brakeOrder
  split
  case h_4 =>
    have hc := (Calm.refl h).withdraw (.spindle b)
    exact (enterStopped_sched_away hc.calm (by rw [hc.state]; exact hn) c).trans (withdrawRequest_sched _ _ c)
  case h_5 | h_6 | h_7 | h_8 | h_9 =>
    split
    · simp
    · exact enterBraking_sched_away h hn .stop c
  all_goals rfl

theorem brakesDue_sched_away (h : HeadsCalm b s) (hn : (s.bay b).pos.state ≠ .parked) (c : Bay) :
    ((brakesDue b s).bay c).sched = (s.bay c).sched := by
  have order : ∀ (p : Bool) {v : State}, HeadsCalm b v → (v.bay b).pos.state ≠ .parked →
      let w := if p then brakeOrder b v else v
      HeadsCalm b w ∧ (w.bay b).pos.state ≠ .parked ∧ (w.bay c).sched = (v.bay c).sched := by
    intro p v hv hp
    dsimp only
    split
    · have hc := (Calm.refl hv).brakeOrder
      exact ⟨hc.calm, by rw [hc.state]; exact hp, brakeOrder_sched_away hv hp c⟩
    · exact ⟨hv, hp, rfl⟩
  obtain ⟨h1, h2, h3⟩ := order ((s.bay b).spin.brakeMark && !(s.bay b).pos.state.defersBrake) h hn
  exact (order _ h1 h2).2.2.trans h3

/-- A change of the positioner away from PARKED leaves the schedulers. -/
theorem posChanged_sched_away (h : HeadsCalm b s) (hn : (s.bay b).pos.state ≠ .parked) (c : Bay) :
    ((posChanged b s).bay c).sched = (s.bay c).sched := by
  have hc := (Calm.refl h).reported.speedLostUpdate
  have hr : ((reported b s).bay c).sched = (s.bay c).sched := by
    unfold reported
    split <;> simp
  rw [posChanged_eq, judgeLatch_sched_away (not_atRest_of_pos (by rw [hc.brakesDue.cutPulse.state]; exact hn)), cutPulse_sched,
    brakesDue_sched_away hc.calm (by rw [hc.state]; exact hn), speedLostUpdate_sched, hr]

theorem retractBegun_sched (b c : Bay) (s : State) : ((retractBegun b s).bay c).sched = (s.bay c).sched :=
  (posChanged_sched_away (.inl (headsDropped_left b 0 _ s).2.1) (by simp [Positioner.retracting]) c).trans (by simp)

/-! ### The unload and the retract that run out (R104, R107) -/

/-- The heads stuck on their way home: the positioner in FAULT, what waited for it carried out. -/
theorem posChanged_stuck (hl : (s.bay b).pos.state.loaded = false) (hd : (s.bay b).pos.state.defersBrake = false)
    (hn : (s.bay b).pos.state ≠ .parked) (hw : s.ledger.wait = []) (hp : PulseOff b s) :
    let t := posChanged b s
    (t.bay b).pos = (s.bay b).pos ∧ (t.bay b).cart = (s.bay b).cart ∧ (t.bay b).sched = (s.bay b).sched ∧ t.completions = s.completions ∧
      t.bay b.other = s.bay b.other ∧ t.supply = s.supply ∧
      (BrakeWaits b s → (t.bay b).spin = (s.bay b).spin.braking .stop ∧ t.ledger = s.ledger.setHold (.spindle b) 0) ∧
      (¬BrakeWaits b s → (s.bay b).spin.state ≠ .waitPower → (t.bay b).spin = { (s.bay b).spin with speedLost := none } ∧ t.ledger = s.ledger) := by
  have hkept : (posChanged b s).supply = s.supply := (Acts.refl true s).posChanged.kept.supply
  by_cases hb : BrakeWaits b s
  · rw [posChanged_braked hl hd hw (loadWaiting_of_pos hn) hp hb] at hkept ⊢
    exact ⟨by simp, by simp, by simp, by simp, by simp, hkept, fun _ => ⟨by simp [Spindle.braking], by simp⟩, fun h => absurd hb h⟩
  · by_cases hs : (s.bay b).spin.state = .waitPower
    · rcases posChanged_waiting hl hn hw hp hs with e | e
      all_goals
        rw [e] at hkept ⊢
        exact ⟨by simp, by simp, by simp, by simp, by simp, hkept, fun h => absurd h hb, fun _ h => absurd hs h⟩
    · rw [posChanged_unbraked hl hp hb hs, judgeLatch_away (not_atRest_of_pos (by simpa using hn)) (Ledger.waits_of_nil (by simpa using hw) _)]
        at hkept ⊢
      exact ⟨by simp, by simp, by simp, by simp, by simp, hkept, fun h => absurd h hb, fun _ _ => ⟨by simp, by simp⟩⟩

/-- R104, R107: the unload or the retract runs out. -/
theorem headsStuck (hset : Settled s) (hw : s.ledger.wait = []) (hp : (s.bay b).cart.phase ≠ some .pulse)
    (hk : ((s.bay b).sched.inflight.map Op.kind) ≠ some .spinUp) (x : Cause) :
    let t := settle (enterPosFault b (raiseFatal b x s))
    (t.bay b).pos =
        { (s.bay b).pos with state := .fault, act := 0, source := .none, owner := .none, unloadTimer := none, retractTimer := none } ∧
      (t.bay b).cart.state = (s.bay b).cart.state ∧
      (BrakeWaits b s →
        Braked (s.bay b).spin (t.bay b).spin ∧ t.ledger = (s.ledger.setHold (.actuator b) 0).setHold (.spindle b) 0) ∧
      (¬BrakeWaits b s → (s.bay b).spin.state ≠ .waitPower →
        (t.bay b).spin = { (s.bay b).spin with speedLost := (t.bay b).spin.speedLost } ∧
        t.ledger = s.ledger.setHold (.actuator b) 0) ∧
      (t.bay b).sched = (s.bay b).sched.faulted x ∧ (t.bay b).cart.lampMode = .flashing ∧
      (t.bay b).cart.pulseCount = (s.bay b).cart.pulseCount ∧
      t.completions = recordedAll s.completions (faultRecords b (s.bay b) x) ∧ t.bay b.other = s.bay b.other := by
  have hcart : (s.bay b).cart.sameButLamp ((faultHalt b x (closeWindow b s)).bay b).cart := by
    have h := faultHalt_sameButLamp x (closeWindow b s) b
    rwa [closeWindow_cart] at h
  have hsched : ((faultHalt b x (closeWindow b s)).bay b).sched = (s.bay b).sched.faulted x := by rw [faultHalt_sched, closeWindow_sched]
  have hcomp : (faultHalt b x (closeWindow b s)).completions = recordedAll s.completions (faultRecords b (s.bay b) x) := by
    rw [faultHalt_completions, closeWindow_completions]
    simp [faultRecords]
  have hlamp := faultHalt_lamp x (closeWindow b s) b
  have hsupply : (faultHalt b x (closeWindow b s)).supply = s.supply := ((Acts.refl true s).close.fault x).kept.supply
  dsimp only
  rw [raiseFatal_of_not_spinUp (inflightIs_isSpinUp_of_ne hk), enterPosFault_begun, lowerHolding_zero_of_nil (by simpa using hw)]
  generalize hv : ((faultHalt b x (closeWindow b s)).modPos b (Positioner.ended .fault)).setLedger
    (((faultHalt b x (closeWindow b s)).modPos b (Positioner.ended .fault)).ledger.setHold (.actuator b) 0) = v
  have vpos : (v.bay b).pos = (s.bay b).pos.ended .fault := by simp [← hv]
  have vspin : (v.bay b).spin = (s.bay b).spin := by simp [← hv]
  have vcart : (v.bay b).cart = ((faultHalt b x (closeWindow b s)).bay b).cart := by simp [← hv]
  have vledger : v.ledger = s.ledger.setHold (.actuator b) 0 := by simp [← hv]
  have vsched : (v.bay b).sched = ((faultHalt b x (closeWindow b s)).bay b).sched := by simp [← hv]
  have vcomp : v.completions = (faultHalt b x (closeWindow b s)).completions := by simp [← hv]
  have vother : v.bay b.other = s.bay b.other := by simp [← hv]
  have vsupply : v.supply = s.supply := by rw [← hv]; simpa using hsupply
  have vpulse : PulseOff b v := fun _ => by rw [vcart, hcart.eqs.2.1]; exact hp
  have hbw : BrakeWaits b v ↔ BrakeWaits b s := brakeWaits_iff (by rw [vspin]) (by rw [vspin]) (by rw [vcart, hcart.eqs.1])
  obtain ⟨e1, e2, e3, e4, e5, e6, e7, e8⟩ := posChanged_stuck (by rw [vpos]; rfl) (by rw [vpos]; rfl) (by rw [vpos]; simp [Positioner.ended])
    (by rw [vledger]; simpa using hw) vpulse
  rw [hset.settle_own (e5.trans vother) (by rw [e6, vsupply]) (by rw [e3, vsched, hsched]; simp [mayTake, Sched.faulted])]
  simp only [judgeGate_pos, judgeGate_bay_other, judgeGate_spin, judgeGate_ledger, judgeGate_completions, judgeGate_sched, judgeGate_cart]
  rw [e1, e2, e3, e4, e5, vpos, vcart, vsched, vcomp, vother, hsched, hcomp, hlamp, hcart.eqs.1, hcart.eqs.2.2.2.2.2.1]
  refine ⟨rfl, rfl, fun h => ?_, fun h hs => ?_, rfl, rfl, rfl, rfl, rfl⟩
  · obtain ⟨f1, f2⟩ := e7 (hbw.mpr h)
    rw [f1, f2, vspin, vledger]
    exact ⟨by simp [Braked, Spindle.braking], rfl⟩
  · obtain ⟨f1, f2⟩ := e8 (fun hn => h (hbw.mp hn)) (by rw [vspin]; exact hs)
    rw [f1, f2, vspin, vledger]
    exact ⟨rfl, rfl⟩

end Sys2Proof.Machine
end

section
namespace Sys2Proof.Machine

variable {b : Bay} {m : Bool} {s t u v : State} {c : Consumer} {k : OpKind} {op : Op}

/-- An event of one bay's own, with nothing waiting and an empty queue, ends with that bay's gate. -/
theorem Settled.settle_acts (h : Settled s) (hv : v.bay b.other = s.bay b.other) (hx : v.supply = s.supply) (hl : v.ledger.wait = [])
    (hq : (v.bay b).sched.queue = []) (ha : Acts b false v u) : settle u = judgeGate b u := by
  refine h.settle_own ((ha.other_bay (Ledger.waitsOf_nil hl b)).1.trans hv) (by rw [ha.kept.supply, hx]) fun _ => ?_
  rcases ha.sched_acted.queue with e | e
  · rw [e, hq]
  · exact e

/-- PARK changes nothing that a settled state has still to work out. -/
theorem Settled.settle_pins (h : Settled s) (f : BayPins → BayPins) : settle (s.modPins b f) = s.modPins b f :=
  h.settle_eq (b := b) (by simp) (by simp) (by simp) (by simpa [permitDue] using h.2.2.1 b)

/-- R104, R107: the heads come home: PARKED, with nothing waiting for the ledger. -/
theorem parked_home (hw : s.ledger.wait = []) (hp : (s.bay b).cart.phase ≠ some .pulse) :
    let p := parkBegun b s
    let t := enterParked b s
    (BrakeWaits b s → (s.bay b).pos.pending ≠ .load →
      Braked (s.bay b).spin (t.bay b).spin ∧ (s.bay b).cart.sameButLamp (t.bay b).cart ∧
      t.ledger = (s.ledger.setHold (.actuator b) 0).setHold (.spindle b) 0) ∧
    (¬BrakeWaits b s → (s.bay b).spin.state ≠ .waitPower → t = judgeLatch b (headsOff b p)) ∧
      (p.bay b).pos = (s.bay b).pos.ended .parked ∧ (p.bay b).spin = (s.bay b).spin ∧ (s.bay b).cart.sameButLamp (p.bay b).cart ∧
      p.ledger = s.ledger.setHold (.actuator b) 0 := by
  dsimp only
  rw [enterParked_begun]
  have hcart := parkCompletes_cart b (lowerHolding (.actuator b) 0 (s.modPos b (Positioner.ended .parked)))
  rw [lowerHolding_zero_of_nil (by simpa using hw)] at hcart
  rw [parkBegun, lowerHolding_zero_of_nil (by simpa using hw)]
  generalize hv : parkCompletes b ((s.modPos b (Positioner.ended .parked)).setLedger ((s.modPos b (Positioner.ended .parked)).ledger.setHold (.actuator b) 0)) = v
    at hcart
  have vpos : (v.bay b).pos = (s.bay b).pos.ended .parked := by simp [← hv]
  have vspin : (v.bay b).spin = (s.bay b).spin := by simp [← hv]
  have vledger : v.ledger = s.ledger.setHold (.actuator b) 0 := by simp [← hv]
  have vcart : (s.bay b).cart.sameButLamp (v.bay b).cart := by simpa using hcart
  have vpulse : PulseOff b v := fun _ => by rw [vcart.eqs.2.1]; exact hp
  have hbw : BrakeWaits b v ↔ BrakeWaits b s := brakeWaits_iff (by rw [vspin]) (by rw [vspin]) vcart.eqs.1
  refine ⟨fun hb hl => ?_, fun hb hs => ?_, vpos, vspin, vcart, vledger⟩
  · rw [posChanged_braked (by rw [vpos]; rfl) (by rw [vpos]; rfl) (by rw [vledger]; simpa using hw)
      (loadWaiting_of_pending (by rw [vpos]; exact hl)) vpulse (hbw.mpr hb)]
    refine ⟨?_, by simpa using vcart, by simp [vledger]⟩
    simp [Braked, Spindle.braking, vspin]
  · exact posChanged_unbraked (by rw [vpos]; rfl) vpulse (fun h => hb (hbw.mp h)) (by rw [vspin]; exact hs)

/-- What PARKED completes, nothing else of the event adds to. -/
theorem enterParked_records {r : Completion} (hq : (s.bay b).sched.queue = [])
    (h : (parkBegun b s).completions = recorded s.completions r ∧ ((parkBegun b s).bay b).sched.inflight = none) :
    (enterParked b s).completions = recorded s.completions r ∧ ((enterParked b s).bay b).sched.inflight = none := by
  have ha : Acts b false (parkBegun b s) (enterParked b s) := (Acts.refl true _).posChanged
  obtain ⟨h1, h2, -⟩ := ha.idle h.2 (by simp [parkBegun, hq])
  exact ⟨h1.trans h.1, h2⟩

theorem parkBegun_unload (h : (s.bay b).sched.inflight = some op) (hk : op.kind = .unloadHeads) :
    (parkBegun b s).completions = recorded s.completions ⟨op.tag, b, .unloadHeads, .success, none⟩ ∧
      ((parkBegun b s).bay b).sched.inflight = none := by
  simpa [parkBegun] using parkCompletes_unload (s := lowerHolding (.actuator b) 0 (s.modPos b (Positioner.ended .parked))) (by simpa using h) hk

theorem parkBegun_stopped (h : (s.bay b).sched.inflight = some op) (hk : op.kind.isSeek = true ∨ op.kind = .loadHeads) :
    (parkBegun b s).completions = recorded s.completions ⟨op.tag, b, op.kind, .cancelled, none⟩ ∧
      ((parkBegun b s).bay b).sched.inflight = none := by
  simpa [parkBegun] using parkCompletes_stopped (s := lowerHolding (.actuator b) 0 (s.modPos b (Positioner.ended .parked))) (by simpa using h) hk

/-- R107: PARK lost under PARKED heads: they are retracted from the reserve. -/
theorem parkLost_heads (hk : (s.bay b).pins.park = false) (hs : (s.bay b).pos.state = .parked) :
    parkLost b s = retractBegun b (failLoadWait b .notReady s) := by
  have hpark : ((failLoadWait b .notReady s).bay b).pins.park = false := by
    rw [(((Acts.refl true s).failLoadWait .notReady).kept.bay b).pins]; exact hk
  rw [parkLost, if_pos hs, enterRetracting_begun, if_neg (by rw [retractBegun_pins, hpark]; simp)]

/-- R107: PARK lost under a load wait. -/
theorem parkLost_loading (hk : (s.bay b).pins.park = false) (hs : (s.bay b).pos.state = .parked) (hp : (s.bay b).pos.pending = .load)
    (hi : (s.bay b).sched.inflight = some op) (ho : op.kind = .loadHeads) (hq : (s.bay b).sched.queue = []) :
    let t := parkLost b s
    (t.bay b).pos = (s.bay b).pos.retracting ∧
      t.ledger.hold (.actuator b) = 0 ∧ t.ledger.waits (.actuator b) = false ∧
      t.completions = recorded s.completions ⟨op.tag, b, .loadHeads, .failed .notReady, none⟩ ∧
      (t.bay b).sched = (s.bay b).sched.ended := by
  have hl : loadWaiting b s = true := loadWaiting_iff.mpr ⟨hs, hp⟩
  obtain ⟨p1, -, -, -, -⟩ := endLoadWait_heads hl
  have hin : ((endLoadWait b s).bay b).sched.inflight = some op := by
    rw [endLoadWait, if_pos hl, lowerHolding_sched, withdrawRequest_sched, State.modPos_sched]
    exact hi
  have hcomp : (endLoadWait b s).completions = s.completions := by
    rw [endLoadWait, if_pos hl, lowerHolding_completions]
    simp [withdrawRequest]
  have hsched : ((endLoadWait b s).bay b).sched = (s.bay b).sched := by
    rw [endLoadWait, if_pos hl, lowerHolding_sched, withdrawRequest_sched, State.modPos_sched]
  have hfail : failLoadWait b .notReady s = completeOp b (.failed .notReady) (endLoadWait b s) := by
    rw [failLoadWait, if_pos hl, completeIf_of_kind (p := OpKind.isLoad) hin (by rw [ho]; rfl)]
  obtain ⟨r1, r2, r3⟩ := retractBegun_heads b (failLoadWait b .notReady s)
  have hend : ((retractBegun b (failLoadWait b .notReady s)).bay b).sched = (s.bay b).sched.ended := by
    rw [retractBegun_sched, hfail, completeOp_sched, hsched]
  have ha : Acts b false (failLoadWait b .notReady s) (retractBegun b (failLoadWait b .notReady s)) :=
    (((((Acts.refl true _).posMove _).withdraw _).lower 0 (by simp)).posChanged)
  obtain ⟨i1, -, -⟩ := ha.idle (by rw [hfail, completeOp_sched, Sched.ended_inflight]) (by rw [hfail, completeOp_sched, hsched]; simpa using hq)
  dsimp only
  rw [parkLost_heads hk hs]
  refine ⟨?_, r2, r3, ?_, hend⟩
  · rw [r1, hfail, completeOp_pos, p1]
    rfl
  · rw [i1, hfail, completeOp_completions hin, hcomp, ho, detailOf_of_failed (by simp)]
    rfl

/-- A change of the positioner in a bay with no brake order, pulse or release to act on. -/
theorem posChanged_undisturbed (hl : (s.bay b).pos.state.loaded = false) (hm : (s.bay b).spin.brakeMark = false)
    (hc : (s.bay b).cart.state = .seated) : posChanged b s = headsOff b s := by
  have hp : PulseOff b s := pulseOff_of_state (by simp [hc])
  rw [posChanged_eq, speedLostUpdate_reported hl, brakesDue_none (by simpa using hm) (by simp [hc]),
    cutPulse_of_not (hp.congr (by simp [sameButLamp_refl])), judgeLatch_of_not (by simp [hc])]

/-- R107: PARK lost under a load wait over an empty list releases the 30. -/
theorem parkLost_ledger (hk : (s.bay b).pins.park = false) (hs : (s.bay b).pos.state = .parked) (hw : s.ledger.wait = [])
    (hp : (s.bay b).pos.pending = .load) (hm : (s.bay b).spin.brakeMark = false) (hc : (s.bay b).cart.state = .seated) :
    (parkLost b s).ledger = s.ledger.setHold (.actuator b) 0 := by
  have hl : loadWaiting b s = true := loadWaiting_iff.mpr ⟨hs, hp⟩
  have hend : endLoadWait b s = (s.modPos b fun p => { p with pending := .none, loadWait := none }).setLedger (s.ledger.setHold (.actuator b) 0) := by
    rw [endLoadWait, if_pos hl, withdrawRequest_of_not_waits (Ledger.waits_of_nil (by simpa using hw) _),
      lowerHolding_zero_of_nil (by simpa using hw), State.modPos_ledger]
  rw [parkLost_heads hk hs, failLoadWait, if_pos hl, hend, retractBegun, headsDropped,
    withdrawRequest_of_not_waits (Ledger.waits_of_nil (by simpa using hw) _), lowerHolding_zero_of_nil (by simpa using hw),
    posChanged_undisturbed (by simp [Positioner.retracting, PosState.loaded]) (by simpa using hm) (by simpa using hc)]
  simp only [headsOff_ledger, State.setLedger_ledger, State.modPos_ledger, completeIf_ledger]
  rw [Ledger.setHold_of_hold (Ledger.setHold_hold _ _ _)]

end Sys2Proof.Machine
end

section
namespace Sys2Proof.Machine

variable {b : Bay} {m : Bool} {s t u v : State} {c : Consumer} {k : OpKind} {op : Op}

/-- R104, R107: PARK true ends an unload or a retract in PARKED. -/
theorem parkRise_home (hset : Settled s) (hw : s.ledger.wait = []) (hq : (s.bay b).sched.queue = [])
    (hs : (s.bay b).pos.state = .unloading ∨ (s.bay b).pos.state = .retracting) :
    exec (.parkRise b) s = .next (judgeGate b (enterParked b (s.modPins b fun p => { p with park := true }))) := by
  have hreach : parkReached b (s.modPins b fun p => { p with park := true }) = enterParked b (s.modPins b fun p => { p with park := true }) := by
    unfold parkReached
    rw [State.modPins_pos]
    rcases hs with e | e <;> rw [e]
  have ha : Acts b false (s.modPins b fun p => { p with park := true }) (enterParked b (s.modPins b fun p => { p with park := true })) :=
    (Acts.refl true _).enterParked
  simp only [exec, execParkRise]
  rw [hreach, hset.settle_acts (by simp) (by simp) (by simpa using hw) (by simpa using hq) ha]

/-- R104, R105, R107: what PARK true makes of a bay whose heads come home. -/
theorem parkRise_homed (hset : Settled s) (hw : s.ledger.wait = []) (hq : (s.bay b).sched.queue = [])
    (hs : (s.bay b).pos.state = .unloading ∨ (s.bay b).pos.state = .retracting) :
    After (exec (.parkRise b) s) fun t =>
      (t.bay b).pins = { (s.bay b).pins with park := true } ∧
      ((s.bay b).pos.pending ≠ .load → (t.bay b).pos = (s.bay b).pos.ended .parked) ∧
      (BrakeWaits b s → (s.bay b).cart.phase ≠ some .pulse → (s.bay b).pos.pending ≠ .load →
        Braked (s.bay b).spin (t.bay b).spin ∧ (s.bay b).cart.sameButLamp (t.bay b).cart ∧
        t.ledger = (s.ledger.setHold (.actuator b) 0).setHold (.spindle b) 0) ∧
      (¬BrakeWaits b s → (s.bay b).cart.phase ≠ some .pulse → (s.bay b).spin.state ≠ .waitPower →
        (t.bay b).spin = { (s.bay b).spin with speedLost := (t.bay b).spin.speedLost } ∧
        ((s.bay b).cart.state ≠ .releasePending ∨ (s.bay b).spin.state ≠ .stopped →
          (t.bay b).cart.state = (s.bay b).cart.state ∧ t.ledger = s.ledger.setHold (.actuator b) 0) ∧
        ((s.bay b).cart.state = .releasePending → (s.bay b).spin.state = .stopped →
          LatchAsked b (s.ledger.setHold (.actuator b) 0) (s.bay b).cart.pulseCount t)) ∧
      (∀ op, (s.bay b).sched.inflight = some op → op.kind = .unloadHeads →
        t.completions = recorded s.completions ⟨op.tag, b, .unloadHeads, .success, none⟩ ∧ (t.bay b).sched.inflight = none) ∧
      (∀ op, (s.bay b).sched.inflight = some op → op.kind.isSeek = true ∨ op.kind = .loadHeads →
        t.completions = recorded s.completions ⟨op.tag, b, op.kind, .cancelled, none⟩ ∧ (t.bay b).sched.inflight = none) := by
  refine ⟨_, parkRise_home hset hw hq hs, ?_⟩
  generalize hv : (s.modPins b fun p => { p with park := true }) = v
  have vpins : (v.bay b).pins = { (s.bay b).pins with park := true } := by simp [← hv]
  have vpos : (v.bay b).pos = (s.bay b).pos := by simp [← hv]
  have vspin : (v.bay b).spin = (s.bay b).spin := by simp [← hv]
  have vcart : (v.bay b).cart = (s.bay b).cart := by simp [← hv]
  have vledger : v.ledger = s.ledger := by simp [← hv]
  have vsched : (v.bay b).sched = (s.bay b).sched := by simp [← hv]
  have vcomp : v.completions = s.completions := by simp [← hv]
  have vw : v.ledger.wait = [] := by rw [vledger, hw]
  have hbw : BrakeWaits b v ↔ BrakeWaits b s := brakeWaits_iff (by rw [vspin]) (by rw [vspin]) (by rw [vcart])
  have hkept := ((Acts.refl true v).enterParked (b := b)).kept
  simp only [judgeGate_pos, judgeGate_spin, judgeGate_ledger, judgeGate_completions, judgeGate_sched, judgeGate_cart]
  refine ⟨?_, fun hl => ?_, fun hb hp hl => ?_, fun hb hp hsp => ?_, fun op hi hk => ?_, fun op hi hk => ?_⟩
  · rw [judgeGate_bay, (hkept.bay b).pins, vpins]
  · rw [enterParked_pos (Ledger.waits_of_nil vw _) (by rw [vpos]; exact hl), vpos]
  · obtain ⟨h1, -⟩ := parked_home (b := b) vw (by rw [vcart]; exact hp)
    have := h1 (hbw.mpr hb) (by rw [vpos]; exact hl)
    rwa [vspin, vcart, vledger] at this
  · obtain ⟨-, h2, ppos, pspin, pcart, pledger⟩ := parked_home (b := b) vw (by rw [vcart]; exact hp)
    rw [h2 (fun h => hb (hbw.mp h)) (by rw [vspin]; exact hsp)]
    rw [vspin] at pspin
    rw [vcart] at pcart
    rw [vledger] at pledger
    generalize parkBegun b v = p at ppos pspin pcart pledger
    have hlw : ∀ c, (headsOff b p).ledger.waits c = false := fun c => Ledger.waits_of_nil (by simpa [pledger] using hw) c
    have hstate : ((headsOff b p).bay b).cart.state = (s.bay b).cart.state := by rw [headsOff_cart, pcart.eqs.1]
    by_cases hask : (s.bay b).cart.state = .releasePending ∧ (s.bay b).spin.state = .stopped
    · have hrest : atRest b (headsOff b p) = true := by simp [atRest, ppos, pspin, Positioner.ended, hask.2]
      obtain ⟨hk, jspin, -⟩ := judgeLatch_asks (hstate.trans hask.1) hrest (hlw _)
      rw [headsOff_ledger, pledger, headsOff_cart, pcart.eqs.2.2.2.2.2.1] at hk
      refine ⟨by rw [jspin, headsOff_spin, pspin], fun h => absurd hask (not_and_or.mpr h), fun _ _ => ?_⟩
      simpa only [LatchAsked, judgeGate_cart, judgeGate_ledger] using hk
    · have hsame : judgeLatch b (headsOff b p) = headsOff b p := by
        by_cases hr : (s.bay b).cart.state = .releasePending
        · exact judgeLatch_away (not_atRest_of_spin (by simpa [pspin] using fun h => hask ⟨hr, h⟩)) (hlw _)
        · exact judgeLatch_of_not (by rw [hstate]; exact hr)
      rw [hsame]
      exact ⟨by rw [headsOff_spin, pspin], fun _ => ⟨hstate, by rw [headsOff_ledger, pledger]⟩, fun h1 h2 => absurd ⟨h1, h2⟩ hask⟩
  · have h := enterParked_records (by rw [vsched]; exact hq) (parkBegun_unload (by rw [vsched]; exact hi) hk)
    rwa [vcomp] at h
  · have h := enterParked_records (by rw [vsched]; exact hq) (parkBegun_stopped (by rw [vsched]; exact hi) hk)
    rwa [vcomp] at h

/-- R107: PARK false under PARKED heads, with nothing waiting. -/
theorem parkFall_lost (hset : Settled s) (hw : s.ledger.wait = []) (hq : (s.bay b).sched.queue = []) :
    exec (.parkFall b) s = .next (judgeGate b (parkLost b (s.modPins b fun p => { p with park := false }))) := by
  have ha : Acts b false (s.modPins b fun p => { p with park := false }) (parkLost b (s.modPins b fun p => { p with park := false })) :=
    (Acts.refl false _).parkLost
  simp only [exec, execParkFall]
  rw [hset.settle_acts (by simp) (by simp) (by simpa using hw) (by simpa using hq) ha]

/-- Settles O55: the unload and the retract that run out leave FAULT, PARK true leaves PARKED, PARK false under PARKED retracts; each carries out
the brake order that waits. -/
theorem headsComeHome : Obligations.HeadsComeHome := by
  refine ⟨fun b s hset hw hp _ hk => ⟨fun ht hs => ⟨_, ?_, headsStuck hset hw hp hk .unloadTimeout⟩,
      fun ht hs => ⟨_, ?_, headsStuck hset hw hp hk .retractFail⟩⟩,
    fun b s hset hw hq => ⟨?_, ?_⟩, fun b op s hset hs hp hi hk hq => ?_⟩
  · simp only [exec, execUnloadTimerExpiry, ht, hs, decide_true, Bool.and_self, if_true]
  · simp only [exec, execRetractTimerExpiry, ht, hs, decide_true, Bool.and_self, if_true]
  · by_cases hs : (s.bay b).pos.state = .unloading ∨ (s.bay b).pos.state = .retracting
    · obtain ⟨t, he, hpins, hhome⟩ := parkRise_homed hset hw hq hs
      exact ⟨t, he, hpins, by rw [if_pos hs]; exact hhome⟩
    · have hreach : parkReached b (s.modPins b fun p => { p with park := true }) = s.modPins b fun p => { p with park := true } := by
        unfold parkReached
        rw [State.modPins_pos]
        rw [not_or] at hs
        cases h : (s.bay b).pos.state
        case unloading => exact absurd h hs.1
        case retracting => exact absurd h hs.2
        all_goals rfl
      refine ⟨s.modPins b fun p => { p with park := true }, ?_, by simp, by rw [if_neg hs]⟩
      simp only [exec, execParkRise]
      rw [hreach, hset.settle_pins]
  · by_cases hs : (s.bay b).pos.state = .parked
    · refine ⟨_, parkFall_lost hset hw hq, ?_, ?_⟩
      · rw [judgeGate_bay, ((Acts.refl false _).parkLost (b := b)).kept.bay b |>.pins]
        simp
      · rw [if_pos hs, parkLost_heads (by simp) (by simpa using hs), judgeGate_pos, State.hold, judgeGate_ledger]
        obtain ⟨r1, r2, -⟩ := retractBegun_heads b (failLoadWait b .notReady (s.modPins b fun p => { p with park := false }))
        rw [r1, r2]
        exact ⟨rfl, rfl, rfl, rfl, rfl, rfl⟩
    · refine ⟨s.modPins b fun p => { p with park := false }, ?_, by simp, by rw [if_neg hs]⟩
      simp only [exec, execParkFall]
      rw [parkLost, if_neg (by simpa using hs), hset.settle_pins]
  · generalize hv : (s.modPins b fun p => { p with park := false }) = v
    have hexec : exec (.parkFall b) s = .next (settle (parkLost b v)) := by rw [← hv]; rfl
    have vpins : (v.bay b).pins.park = false := by simp [← hv]
    have vpos : (v.bay b).pos = (s.bay b).pos := by simp [← hv]
    have vledger : v.ledger = s.ledger := by simp [← hv]
    have vsched : (v.bay b).sched = (s.bay b).sched := by simp [← hv]
    have vother : v.bay b.other = s.bay b.other := by simp [← hv]
    have vcomp : v.completions = s.completions := by simp [← hv]
    have vsupply : v.supply = s.supply := by simp [← hv]
    obtain ⟨h1, h2, h3, h4, h5⟩ := parkLost_loading vpins (by rw [vpos]; exact hs) (by rw [vpos]; exact hp) (by rw [vsched]; exact hi) hk
      (by rw [vsched]; exact hq)
    rw [vpos] at h1
    rw [vcomp] at h4
    rw [vsched] at h5
    have ha : Acts b false v (parkLost b v) := (Acts.refl false v).parkLost
    have hqueue : (s.bay b).sched.ended.queue = [] := by simpa using hq
    have hdone : TakingsDone (parkLost b v) :=
      hset.2.2.2.ofOther (by rw [ha.other_kept.1, vother]) fun _ => by rw [h5]; exact hqueue
    refine ⟨_, hexec, ?_⟩
    rw [settle_of_takingsDone hdone]
    simp only [judgeGates_pos, judgeGates_ledger, judgeGates_completions, judgeGates_sched, State.hold]
    rw [h1, h2, h3, h4, h5]
    refine ⟨rfl, rfl, rfl, fun hw hm hc => ⟨?_, ?_⟩, rfl, Sched.ended_inflight _, hqueue, fun hn => ?_⟩
    · rw [parkLost_ledger vpins (by rw [vpos]; exact hs) (by rw [vledger]; exact hw) (by rw [vpos]; exact hp) (by simpa [← hv] using hm)
        (by simpa [← hv] using hc), vledger]
    · have ho := (ha.other_bay (Ledger.waitsOf_nil (by rw [vledger]; exact hw) b)).1.trans vother
      rw [judgeGates_own hset.2.2.1 ho (by rw [ha.kept.supply, vsupply]), judgeGate_bay_other, ho]
    · simp [Sched.ended, hi, hn]

end Sys2Proof.Machine
end

section
namespace Sys2Proof.Machine

variable {b : Bay} {m : Bool} {s t u v : State} {c : Consumer} {k : OpKind} {op : Op} {p : OpKind → Bool}

/-! ### Which operations a change of a mechanism can end (R14, R94, R104, R105, R109) -/

/-- The scheduler `y` is `x`, or `x` behind the end of its operation, one of these kinds. -/
def Sched.Ends (p : OpKind → Bool) (x y : Sched) : Prop := y = x ∨ y = x.ended ∧ ∃ op, x.inflight = some op ∧ p op.kind = true

namespace Sched.Ends

variable {x y z : Sched} {q : OpKind → Bool}

theorem refl (p : OpKind → Bool) (x : Sched) : x.Ends p x := .inl rfl

theorem trans (h : x.Ends p y) (k : y.Ends p z) : x.Ends p z := by
  rcases h with rfl | ⟨rfl, hop⟩
  · exact k
  · rcases k with rfl | ⟨-, op, hi, -⟩
    · exact .inr ⟨rfl, hop⟩
    · rw [Sched.ended_inflight] at hi; cases hi

theorem mono (h : x.Ends p y) (hpq : ∀ k, p k = true → q k = true) : x.Ends q y :=
  h.imp id fun ⟨e, op, hi, hk⟩ => ⟨e, op, hi, hpq _ hk⟩

/-- A scheduler with no operation of these kinds in flight stays. -/
theorem same (h : x.Ends p y) (hi : ∀ op, x.inflight = some op → p op.kind = false) : y = x := by
  rcases h with e | ⟨-, op, ho, hk⟩
  · exact e
  · rw [hi op ho] at hk; cases hk

theorem idle (h : x.Ends p y) (hi : x.inflight = none) : y = x := h.same fun op ho => by rw [hi] at ho; cases ho

/-- What the end of an operation leaves of a scheduler. -/
theorem kept (h : x.Ends p y) : y.queue = x.queue ∧ y.cause = x.cause ∧ y.step = x.step ∧ y.lastFault = x.lastFault ∧
    (x.state ≠ .halting → y.state = x.state) := by
  rcases h with rfl | ⟨rfl, op, hi, -⟩
  · exact ⟨rfl, rfl, rfl, rfl, fun _ => rfl⟩
  · simp only [Sched.ended, hi, Option.isSome_some, if_true]
    exact ⟨trivial, trivial, trivial, trivial, fun h => if_neg h⟩

end Sched.Ends

theorem completeIf_ends (p : OpKind → Bool) (o : OpOutcome) (b : Bay) (s : State) :
    (s.bay b).sched.Ends p ((completeIf b p o s).bay b).sched := by
  unfold completeIf
  split
  · next h =>
    rw [completeOp_sched]
    unfold inflightIs at h
    split at h
    · next op ho => exact .inr ⟨rfl, op, ho, h⟩
    · cases h
  · exact .inl rfl

/-- The operations that a change of a mechanism can end: the LOAD HEADS of a load wait, and an EJECT that finds no budget. -/
def OpKind.endsByChange (k : OpKind) : Bool := k.isLoad || k.isEject

/-- The bay's scheduler keeps its operation, or ends one of the kinds that a change of a mechanism can end. -/
def Unended (b : Bay) (s t : State) : Prop := (s.bay b).sched.Ends OpKind.endsByChange (t.bay b).sched

theorem Unended.trans (h : Unended b s t) (k : Unended b t u) : Unended b s u := Sched.Ends.trans h k

theorem Unended.of_eq (h : (t.bay b).sched = (s.bay b).sched) : Unended b s t := .inl h

theorem unended_withdraw (c : Consumer) (s : State) : Unended b s (withdrawRequest c s) := .of_eq (withdrawRequest_sched c s b)

theorem unended_lower (c : Consumer) (n : Nat) (s : State) : Unended b s (lowerHolding c n s) := .of_eq (lowerHolding_sched c n s b)

theorem unended_askLatch (r : Req) (s : State) : Unended b s (ask (.latch b) r s) := by
  have hg : Unended b s (tellGrants (s.ledger.request (.latch b) r).grants (s.setLedger (s.ledger.request (.latch b) r).ledger)) :=
    .of_eq (by simp)
  unfold ask
  dsimp only
  split
  · unfold tellNoBudget
    dsimp only
    split
    · refine (hg.trans (.of_eq (changeCart_sched _ _ b b))).trans ((completeIf_ends OpKind.isEject _ b _).mono fun k hk => ?_)
      simp [OpKind.endsByChange, hk]
    · exact hg
  · exact hg

theorem unended_judgeLatch (s : State) : Unended b s (judgeLatch b s) := by
  unfold judgeLatch
  split
  · split
    · split
      · exact .of_eq rfl
      · exact unended_askLatch _ s
    · exact unended_withdraw _ s
  · exact .of_eq rfl

theorem endLoadWait_sched (b c : Bay) (s : State) : ((endLoadWait b s).bay c).sched = (s.bay c).sched := by
  unfold endLoadWait
  split <;> simp [withdrawRequest]

theorem endLoadWait_completions (b : Bay) (s : State) : (endLoadWait b s).completions = s.completions := by
  unfold endLoadWait
  split <;> simp [withdrawRequest]

theorem unended_failLoadWait (x : Cause) (s : State) : Unended b s (failLoadWait b x s) := by
  unfold failLoadWait
  split
  · refine (Unended.of_eq (endLoadWait_sched b b s)).trans ((completeIf_ends OpKind.isLoad _ b _).mono fun k hk => ?_)
    simp [OpKind.endsByChange, hk]
  · exact .of_eq rfl

theorem unended_spindleChanged (s : State) : Unended b s (spindleChanged b s) := by
  unfold spindleChanged
  dsimp only
  refine Unended.trans ?_ (unended_judgeLatch _)
  refine Unended.trans ?_ (.of_eq (cutPulse_sched b b _))
  split
  · exact .of_eq ((tryLoading_sched b b _).trans (speedLostUpdate_sched s b b))
  · exact (Unended.of_eq (speedLostUpdate_sched s b b)).trans (unended_failLoadWait _ _)

theorem unended_enterBraking (x : BrakePurpose) (s : State) : Unended b s (enterBraking b x s) :=
  ((Unended.of_eq (by simp)).trans (unended_lower _ _ _)).trans (unended_spindleChanged _)

theorem unended_enterStopped (s : State) : Unended b s (enterStopped b s) :=
  (Unended.of_eq (by simp)).trans (unended_spindleChanged _)

theorem unended_abandonPower (s : State) : Unended b s (abandonPower b s) := (unended_withdraw _ s).trans (unended_enterStopped _)

theorem unended_brakeOrder (s : State) : Unended b s (brakeOrder b s) := by
  unfold brakeOrder
  split
  case h_4 => exact unended_abandonPower s
  case h_5 | h_6 | h_7 | h_8 | h_9 =>
    split
    · exact .of_eq (by simp)
    · exact unended_enterBraking _ s
  all_goals exact .of_eq rfl

theorem unended_cancelOnSpindle (s : State) : Unended b s (cancelOnSpindle b s) := by
  unfold cancelOnSpindle
  split
  case h_1 => exact unended_abandonPower s
  case h_2 | h_3 | h_4 => exact unended_enterBraking _ s
  case h_5 => exact .of_eq (by simp [mergeStop])
  all_goals exact .of_eq rfl

theorem unended_posChanged (s : State) : Unended b s (posChanged b s) := by
  have order : ∀ (p : Bool) (v : State), Unended b v (if p then brakeOrder b v else v) := fun p v => by
    split
    · exact unended_brakeOrder v
    · exact .of_eq rfl
  have hr : Unended b s (reported b s) := .of_eq (by unfold reported; split <;> simp)
  rw [posChanged_eq]
  exact ((((hr.trans (.of_eq (speedLostUpdate_sched _ b b))).trans (order _ _)).trans (order _ _)).trans
    (.of_eq (cutPulse_sched b b _))).trans (unended_judgeLatch _)

/-! ### A bay's cartridge outside a release -/

/-- Acts of a bay leave the cartridge outside RELEASE_PENDING and EJECTING. -/
theorem Acts.cart_idle (h : Acts b m s t) (hr : (s.bay b).cart.state ≠ .releasePending) (he : (s.bay b).cart.state ≠ .ejecting) :
    (s.bay b).cart.sameButLamp (t.bay b).cart := by
  induction h with
  | refl => exact sameButLamp_refl _
  | moved _ ih => exact ih hr he
  | judged _ _ ih => exact ih hr he
  | complete o _ ih => exact (ih hr he).trans (completeOp_sameButLamp _ b o)
  | fault c _ ih => exact (ih hr he).trans (faultHalt_sameButLamp c _ b)
  | lamp _ ih => exact (ih hr he).trans (lampUpdate_spec _ b).2.2.1
  | ledger c l gs _ _ _ ih =>
    rw [tellGrants_cart _ (by rw [State.setLedger_bay, (ih hr he).eqs.1]; exact hr), State.setLedger_bay]
    exact ih hr he
  | pulseOff _ hs ih => exact absurd ((ih hr he).eqs.1.symm.trans hs) he
  | abandon _ hs ih => exact absurd ((ih hr he).eqs.1.symm.trans hs) hr
  | spin _ _ _ _ ih | pos _ _ _ ih | count _ _ ih | unqualify _ ih | dropSau _ ih | history _ _ ih | close _ ih | cancel _ ih =>
    simpa [clearQualified] using ih hr he

end Sys2Proof.Machine
end

section
namespace Sys2Proof.Machine

variable {b : Bay} {m : Bool} {s t u v : State} {c : Consumer} {k : OpKind} {op : Op} {p : OpKind → Bool}

/-! ### The heads brought off the platter (R103, R107, R113) -/

/-- Any kind of operation. -/
def OpKind.any (_ : OpKind) : Bool := true

/-- What no move of the heads to the ramp changes: the head, the target, the servo history, the attempt; of the scheduler at most its
operation ends. -/
structure HeadsSame (b : Bay) (s t : State) : Prop where
  head : (t.bay b).pos.head = (s.bay b).pos.head
  target : (t.bay b).pos.target = (s.bay b).pos.target
  servo : (t.bay b).servo = (s.bay b).servo
  attempt : (t.bay b).spin.attempt = (s.bay b).spin.attempt
  sched : (s.bay b).sched.Ends OpKind.any (t.bay b).sched

namespace HeadsSame

theorem refl (b : Bay) (s : State) : HeadsSame b s s := ⟨rfl, rfl, rfl, rfl, .refl _ _⟩

theorem trans (h : HeadsSame b s t) (k : HeadsSame b t u) : HeadsSame b s u :=
  ⟨k.head.trans h.head, k.target.trans h.target, k.servo.trans h.servo, k.attempt.trans h.attempt, h.sched.trans k.sched⟩

end HeadsSame

theorem Calm.headsSame (h : Calm b s t) (hs : (s.bay b).sched.Ends p (t.bay b).sched) : HeadsSame b s t :=
  ⟨by rw [h.pos], by rw [h.pos], h.servo, h.attempt, hs.mono fun _ _ => rfl⟩

/-- The heads on the ramp or on their way to it, no load waiting. -/
structure Homeward (b : Bay) (s : State) : Prop where
  state : (s.bay b).pos.state = .parked ∨ (s.bay b).pos.state = .unloading ∨ (s.bay b).pos.state = .retracting
  load : loadWaiting b s = false

theorem Homeward.headsOff (h : Homeward b s) : HeadsOff b s :=
  ⟨by rcases h.state with e | e | e <;> rw [e] <;> rfl, fun hw => by rw [h.load] at hw; cases hw⟩

theorem Homeward.calm (h : Homeward b s) : HeadsCalm b s := .inr h.headsOff

/-- Heads stay homeward under a calm operation that leaves a standing load wait none. -/
theorem Homeward.of_pos (h : Homeward b s) (hp : (t.bay b).pos.state = (s.bay b).pos.state) (hl : loadWaiting b t = false) : Homeward b t :=
  ⟨by rw [hp]; exact h.state, hl⟩

theorem enterParked_homeward (hw : s.ledger.waits (.actuator b) = false) (hp : (s.bay b).pos.pending = .none) :
    Homeward b (enterParked b s) ∧ HeadsSame b s (enterParked b s) := by
  obtain ⟨h1, -, h3, h4, -⟩ := parkBegun_heads hw
  have hpos := enterParked_pos hw (by rw [hp]; simp)
  refine ⟨⟨.inl (by rw [hpos]; rfl), loadWaiting_of_pending (by rw [hpos]; simp [Positioner.ended, hp])⟩, ?_⟩
  have hbegun : HeadsSame b s (parkBegun b s) := by
    refine ⟨by rw [h1]; rfl, by rw [h1]; rfl, h3, h4, ?_⟩
    have hl : ((lowerHolding (.actuator b) 0 (s.modPos b (Positioner.ended .parked))).bay b).sched = (s.bay b).sched := by simp
    rw [← hl]
    exact ((completeIf_ends _ _ b _).mono fun _ _ => rfl).trans ((completeIf_ends _ _ b _).mono fun _ _ => rfl)
  exact hbegun.trans ((calm_enterParked hw).headsSame (unended_posChanged _))

/-- R107: RETRACTING, or PARKED at once. -/
theorem enterRetracting_homeward (b : Bay) (s : State) : Homeward b (enterRetracting b s) ∧ HeadsSame b s (enterRetracting b s) := by
  obtain ⟨hpos, -, hw⟩ := retractBegun_heads b s
  have hdrop : HeadsSame b s (headsDropped b 0 Positioner.retracting s) := by
    obtain ⟨hl, -, -⟩ := headsDropped_left b 0 Positioner.retracting s
    exact ⟨by rw [headsDropped_pos]; rfl, by rw [headsDropped_pos]; rfl, hl.servo.trans (by simp), hl.attempt.trans (by simp),
      .inl (headsDropped_sched b 0 _ s b)⟩
  have hbegun := hdrop.trans ((calm_retractBegun b s).headsSame (unended_posChanged _))
  rw [enterRetracting_begun]
  split
  · obtain ⟨e1, e2⟩ := enterParked_homeward hw (by rw [hpos]; rfl)
    exact ⟨e1, hbegun.trans e2⟩
  · exact ⟨⟨.inr (.inr (by rw [hpos]; rfl)), loadWaiting_of_pos (by rw [hpos]; simp [Positioner.retracting])⟩, hbegun⟩

/-- R103, R104: UNLOADING, or PARKED at once. -/
theorem enterUnloading_homeward (b : Bay) (s : State) : Homeward b (enterUnloading b s) ∧ HeadsSame b s (enterUnloading b s) := by
  obtain ⟨hpos, hw⟩ := unloadBegun_heads b s
  have hdrop : HeadsSame b s (headsDropped b 60 Positioner.unloading s) := by
    obtain ⟨hl, -, -⟩ := headsDropped_left b 60 Positioner.unloading s
    exact ⟨by rw [headsDropped_pos]; rfl, by rw [headsDropped_pos]; rfl, hl.servo.trans (by simp), hl.attempt.trans (by simp),
      .inl (headsDropped_sched b 60 _ s b)⟩
  have hbegun := hdrop.trans ((calm_unloadBegun b s).headsSame (unended_posChanged _))
  rw [enterUnloading_begun]
  split
  · obtain ⟨e1, e2⟩ := enterParked_homeward hw (by rw [hpos]; rfl)
    exact ⟨e1, hbegun.trans e2⟩
  · exact ⟨⟨.inr (.inl (by rw [hpos]; rfl)), loadWaiting_of_pos (by rw [hpos]; simp [Positioner.unloading])⟩, hbegun⟩

theorem endLoadWait_of_not (h : loadWaiting b s = false) : endLoadWait b s = s := by simp [endLoadWait, h]

/-- R103: the end of a load wait, if one stands. -/
theorem endLoadWait_homeward (h : (s.bay b).pos.state = .parked) : Homeward b (endLoadWait b s) ∧ HeadsSame b s (endLoadWait b s) := by
  by_cases hl : loadWaiting b s = true
  · obtain ⟨h1, h2, h3, -⟩ := endLoadWait_heads hl
    exact ⟨⟨.inl (by rw [h1]; exact h), loadWaiting_of_pending (by rw [h1]; simp)⟩,
      ⟨by rw [h1], by rw [h1], h2, h3, .inl (endLoadWait_sched b b s)⟩⟩
  · rw [endLoadWait_of_not (by simpa using hl)]
    exact ⟨⟨.inl h, by simpa using hl⟩, .refl b s⟩

/-- R103: an unload order brings heads that are not in FAULT on their way. -/
theorem unloadOrder_homeward (h : (s.bay b).pos.state ≠ .fault) : Homeward b (unloadOrder b s) ∧ HeadsSame b s (unloadOrder b s) := by
  unfold unloadOrder
  split
  · exact enterUnloading_homeward b s
  · next hl =>
    split
    · next hp => exact endLoadWait_homeward hp
    · next hp =>
      refine ⟨⟨.inr ?_, loadWaiting_of_pos hp⟩, .refl b s⟩
      cases hs : (s.bay b).pos.state <;> simp [hs, PosState.loaded] at hl hp h ⊢

theorem unloadOrder_headsSame (b : Bay) (s : State) : HeadsSame b s (unloadOrder b s) := by
  unfold unloadOrder
  split
  · exact (enterUnloading_homeward b s).2
  · split
    · next hp => exact (endLoadWait_homeward hp).2
    · exact .refl b s

/-- R113: the positioner's part of BAY RESET: the heads homeward, the counts cleared. -/
theorem resetPositioner_homeward (b : Bay) (s : State) :
    Homeward b (resetPositioner b s) ∧ HeadsSame b s (resetPositioner b s) ∧
      let p := ((resetPositioner b s).bay b).pos
      p.recovery = 0 ∧ p.acquire = 0 ∧ p.settle = 0 ∧ p.offTrack = 0 ∧ p.clean = 0 ∧ p.servoLost = 0 := by
  have home : Homeward b (if (s.bay b).pos.state = .fault then enterRetracting b s else unloadOrder b s) ∧
      HeadsSame b s (if (s.bay b).pos.state = .fault then enterRetracting b s else unloadOrder b s) := by
    split
    · exact enterRetracting_homeward b s
    · next h => exact unloadOrder_homeward h
  obtain ⟨h1, h2⟩ := home
  unfold resetPositioner
  dsimp only
  refine ⟨h1.of_pos (by simp) (by simpa [loadWaiting] using h1.load),
    h2.trans ⟨by simp, by simp, by simp, by simp, .inl (by simp)⟩, by simp⟩

/-- R47: the spindle's part of BAY RESET, the heads homeward. -/
theorem resetSpindle_calm (h : HeadsCalm b s) : Calm b s (resetSpindle b s) ∧ Unended b s (resetSpindle b s) := by
  unfold resetSpindle
  split
  · exact ⟨(Calm.refl h).spin rfl (.inl rfl), .of_eq (by simp)⟩
  · exact ⟨(Calm.refl h).enterBraking _, unended_enterBraking _ s⟩
  all_goals exact ⟨(Calm.refl h).brakeOrder, unended_brakeOrder s⟩

theorem resetSpindle_spin (b : Bay) (s : State) :
    ((resetSpindle b s).bay b).spin.state ≠ .fault ∧
      (((resetSpindle b s).bay b).spin.state = .braking → ((resetSpindle b s).bay b).spin.purpose = some .stop) := by
  have braked : ∀ v : State, (brakeOrder b v).bay b = (enterBraking b .stop v).bay b → ((brakeOrder b v).bay b).spin.state ≠ .fault ∧
      (((brakeOrder b v).bay b).spin.state = .braking → ((brakeOrder b v).bay b).spin.purpose = some .stop) := fun v e => by
    rw [e, enterBraking_spin .stop]
    simp [Spindle.braking]
  unfold resetSpindle
  split
  case h_1 hs => simp [hs]
  case h_2 hs =>
    rw [enterBraking_spin .stop]
    simp [Spindle.braking]
  case h_3 hs => simp [brakeOrder, hs]
  case h_4 hs =>
    simp only [brakeOrder, hs, abandonPower]
    rw [enterStopped_spin b]
    simp [Spindle.stopped]
  all_goals
    next hs =>
    by_cases hd : (s.bay b).pos.state.defersBrake = true
    · simp [brakeOrder, hs, hd]
    · exact braked s (by rw [brakeOrder_turning (by rw [hs]; rfl) (by simpa using hd)])

end Sys2Proof.Machine
end

section
namespace Sys2Proof.Machine

variable {b : Bay} {m : Bool} {s t u v : State} {c : Consumer} {k : OpKind} {op : Op} {p : OpKind → Bool}

/-! ### The stop of an operation in flight (R43, R109, R160) -/

theorem completeOp_ends (o : OpOutcome) (b : Bay) (s : State) : (s.bay b).sched.Ends OpKind.any ((completeOp b o s).bay b).sched := by
  rw [completeOp_sched]
  cases h : (s.bay b).sched.inflight with
  | none => exact .inl (by rw [Sched.ended, h]; rfl)
  | some op => exact .inr ⟨rfl, op, h, rfl⟩

theorem unloadBegun_sched (b c : Bay) (s : State) : ((unloadBegun b s).bay c).sched = (s.bay c).sched :=
  (posChanged_sched_away (.inl (headsDropped_left b 60 _ s).2.1) (by simp [Positioner.unloading]) c).trans (by simp)

/-- R104: heads unloaded with PARK false keep the operation in flight. -/
theorem enterUnloading_unparked (hk : (s.bay b).pins.park = false) : enterUnloading b s = unloadBegun b s := by
  rw [enterUnloading_begun, if_neg (by rw [unloadBegun_pins, hk]; simp)]

/-- R104, R109: heads unloaded onto a ramp whose PARK is true end the LOAD HEADS or SEEK in flight. -/
theorem enterUnloading_ends (hk : (s.bay b).pins.park = true) (hi : (s.bay b).sched.inflight = some op)
    (ho : op.kind.isSeek = true ∨ op.kind = .loadHeads) : ((enterUnloading b s).bay b).sched.inflight = none := by
  rw [enterUnloading_begun, if_pos (by rw [unloadBegun_pins, hk]), enterParked_begun]
  have hp := (parkBegun_stopped (s := unloadBegun b s) (by rw [unloadBegun_sched]; exact hi) ho).2
  rw [Sched.Ends.idle (unended_posChanged (b := b) (parkBegun b (unloadBegun b s))) hp, hp]

theorem enterUnloading_inflight (hi : (s.bay b).sched.inflight = some op) (ho : op.kind.isSeek = true ∨ op.kind = .loadHeads) :
    ((enterUnloading b s).bay b).sched.inflight = if (s.bay b).pins.park then none else some op := by
  split
  · next hk => exact enterUnloading_ends hk hi ho
  · next hk => rw [enterUnloading_unparked (by simpa using hk), unloadBegun_sched, hi]

/-- R43: a SPIN UP over a regulated spindle is left alone. -/
theorem cancelOnSpindle_regulated (h : (s.bay b).spin.state.regulated = true) : cancelOnSpindle b s = s := by
  unfold cancelOnSpindle
  cases hs : (s.bay b).spin.state <;> simp [hs, SpinState.regulated] at h ⊢

theorem cancelSpinUp_regulated (h : (s.bay b).spin.state.regulated = true) : cancelSpinUp b s = s := by
  have hw : (s.bay b).spin.state ≠ .waitPower := fun e => by simp [e, SpinState.regulated] at h
  rw [cancelSpinUp, if_neg hw, cancelOnSpindle_regulated h, ite_self]

theorem cancelSpinUp_of_not (h : inflightIs b OpKind.isSpinUp s = false) : cancelSpinUp b s = s := by simp [cancelSpinUp, h]

theorem cancelSpinUp_ends (b : Bay) (s : State) : (s.bay b).sched.Ends OpKind.any ((cancelSpinUp b s).bay b).sched := by
  unfold cancelSpinUp
  split
  · split
    · exact (completeOp_ends _ b s).trans ((unended_cancelOnSpindle _).mono fun _ _ => rfl)
    · exact (unended_cancelOnSpindle s).mono fun _ _ => rfl
  · exact .refl _ _

/-- R43: the cancelled SPIN UP leaves heads that are on the platter over a regulated spindle alone. -/
theorem cancelSpinUp_headsSame (hr : (s.bay b).pos.state.defersBrake = true → (s.bay b).spin.state.regulated = true) :
    HeadsSame b s (cancelSpinUp b s) := by
  by_cases h : (s.bay b).spin.state.regulated = true
  · rw [cancelSpinUp_regulated h]; exact .refl b s
  · have hoff : HeadsOff b s := by
      refine ⟨PosState.not_loaded_of_not_defers ?_, fun _ e => h (by rw [e]; rfl)⟩
      cases hd : (s.bay b).pos.state.defersBrake
      · rfl
      · exact absurd (hr hd) h
    exact ((Calm.refl (.inr hoff)).cancelSpinUp).headsSame (cancelSpinUp_ends b s)

/-- R43: a SPIN UP ends at its cancellation if it waits for power, and is left in flight otherwise. -/
theorem cancelSpinUp_inflight (hi : (s.bay b).sched.inflight = some op) (ho : op.kind = .spinUp) :
    ((cancelSpinUp b s).bay b).sched.inflight = if (s.bay b).spin.state = .waitPower then none else some op := by
  rw [cancelSpinUp, if_pos (by rw [inflightIs_of hi, ho]; rfl)]
  split
  · have hn : ((completeOp b .cancelled s).bay b).sched.inflight = none := by rw [completeOp_sched, Sched.ended_inflight]
    rw [Sched.Ends.idle (unended_cancelOnSpindle (b := b) _) hn, hn]
  · rw [Sched.Ends.same (unended_cancelOnSpindle (b := b) s) fun q hq => ?_, hi]
    rw [hi] at hq
    cases hq
    rw [ho]
    rfl

theorem stopLoad_headsSame (b : Bay) (s : State) : HeadsSame b s (stopLoad b s) := by
  unfold stopLoad
  split
  · next hl =>
    have h := (endLoadWait_homeward (loadWaiting_iff.mp hl).1).2
    exact h.trans ⟨by simp, by simp, by simp, by simp, (completeIf_ends _ _ b _).mono fun _ _ => rfl⟩
  · split
    · exact unloadOrder_headsSame b s
    · exact .refl b s

theorem stopByUnload_headsSame (b : Bay) (s : State) : HeadsSame b s (stopByUnload b s) := by
  unfold stopByUnload
  split
  · exact stopLoad_headsSame b s
  · split
    · exact unloadOrder_headsSame b s
    · exact .refl b s

theorem stopByUnload_of_not (hl : inflightIs b OpKind.isLoad s = false) (hs : inflightIs b OpKind.isSeek s = false) : stopByUnload b s = s := by
  simp [stopByUnload, hl, hs]

/-- R109: the LOAD HEADS in flight at its stop. -/
theorem stopLoad_inflight (hi : (s.bay b).sched.inflight = some op) (ho : op.kind = .loadHeads) :
    ((stopLoad b s).bay b).sched.inflight = if endsAtReset .loadHeads (s.bay b) then none else some op := by
  unfold stopLoad
  split
  · next hl =>
    rw [completeIf_of_kind (p := OpKind.isLoad) (op := op) (by rw [endLoadWait_sched]; exact hi) (by rw [ho]; rfl), completeOp_sched,
      Sched.ended_inflight, if_pos]
    simpa [endsAtReset] using .inl (loadWaiting_iff.mp hl)
  · next hl =>
    have hw : ¬((s.bay b).pos.state = .parked ∧ (s.bay b).pos.pending = .load) := fun h => hl (loadWaiting_iff.mpr h)
    have hends : endsAtReset .loadHeads (s.bay b) =
        ((decide ((s.bay b).pos.state = .loading) || decide ((s.bay b).pos.state = .acquiring)) && (s.bay b).pins.park) := by
      simp only [endsAtReset, Bool.or_eq_right_iff_imp, Bool.and_eq_true, decide_eq_true_eq]
      exact fun h => absurd h hw
    rw [hends]
    split
    · next hp =>
      have hload : (s.bay b).pos.state.loaded = true := by
        simp only [Bool.or_eq_true, decide_eq_true_eq] at hp
        rcases hp with e | e <;> rw [e] <;> rfl
      rw [unloadOrder, if_pos hload, enterUnloading_inflight hi (.inr ho), hp, Bool.true_and]
    · next hp => simp [hp, hi]

/-- R109: the SEEK in flight at its stop. -/
theorem unloadOrder_inflight (hi : (s.bay b).sched.inflight = some op) (ho : op.kind.isSeek = true) :
    ((unloadOrder b s).bay b).sched.inflight = if (s.bay b).pos.state.loaded && (s.bay b).pins.park then none else some op := by
  unfold unloadOrder
  split
  · next hl => rw [enterUnloading_inflight hi (.inl ho), hl, Bool.true_and]
  · next hl =>
    have hn : ((s.bay b).pos.state.loaded && (s.bay b).pins.park) = false := by simp [hl]
    simp only [hn, Bool.false_eq_true, if_false]
    split
    · rw [endLoadWait_sched]; exact hi
    · exact hi

/-- R160: the operation in flight at its stop by BAY RESET. -/
theorem stopped_inflight (b : Bay) (s : State) (hr : (s.bay b).pos.state.defersBrake = true → (s.bay b).spin.state.regulated = true) :
    ((stopByUnload b (cancelSpinUp b s)).bay b).sched.inflight =
      (s.bay b).sched.inflight.filter fun op => !endsAtReset op.kind (s.bay b) := by
  cases hi : (s.bay b).sched.inflight with
  | none =>
    have h := ((cancelSpinUp_headsSame hr).trans (stopByUnload_headsSame b _)).sched.idle hi
    rw [h, hi]
    rfl
  | some op =>
    have hfilter : ((some op).filter fun op => !endsAtReset op.kind (s.bay b)) = if endsAtReset op.kind (s.bay b) then none else some op := by
      cases h : endsAtReset op.kind (s.bay b) <;> simp [Option.filter, h]
    rw [hfilter]
    have keep : ∀ (q : Op), q.kind.isSpinUp = false → q = op → cancelSpinUp b s = s := fun q hq e =>
      cancelSpinUp_of_not (by rw [inflightIs_of hi, ← e]; exact hq)
    cases hk : op.kind with
    | spinUp =>
      have h := cancelSpinUp_inflight hi hk
      have hl : ∀ p : OpKind → Bool, p .spinUp = false → inflightIs b p (cancelSpinUp b s) = false := fun p hp => by
        unfold inflightIs
        rw [h]
        split
        · next q hq =>
          split at hq
          · cases hq
          · cases hq; rw [hk]; exact hp
        · rfl
      rw [stopByUnload_of_not (hl _ rfl) (hl _ rfl), h]
      simp [endsAtReset]
    | loadHeads =>
      rw [keep op (by rw [hk]; rfl) rfl, stopByUnload, if_pos (by rw [inflightIs_of hi, hk]; rfl)]
      exact stopLoad_inflight hi hk
    | seek track head =>
      rw [keep op (by rw [hk]; rfl) rfl, stopByUnload, if_neg (by rw [inflightIs_of hi, hk]; simp [OpKind.isLoad]),
        if_pos (by rw [inflightIs_of hi, hk]; rfl)]
      exact unloadOrder_inflight hi (by rw [hk]; rfl)
    | spinDown | unloadHeads | openWrite | closeWrite | eject =>
      rw [keep op (by rw [hk]; rfl) rfl, stopByUnload_of_not (by rw [inflightIs_of hi, hk]; rfl) (by rw [inflightIs_of hi, hk]; rfl), hi]
      rfl

end Sys2Proof.Machine
end

section
namespace Sys2Proof.Machine

variable {b : Bay} {m : Bool} {s t u v : State} {c : Consumer} {k : OpKind} {op : Op} {p : OpKind → Bool}

/-! ### BAY RESET (R160) -/

/-- The bay behind the queue's cancellation and the closing of its window. -/
def cleared (b : Bay) (s : State) : State := cancelQueue b (closeWindow b s)

@[simp] theorem cleared_pos (b c : Bay) (s : State) : ((cleared b s).bay c).pos = (s.bay c).pos := by simp [cleared]

@[simp] theorem cleared_spin (b c : Bay) (s : State) : ((cleared b s).bay c).spin = (s.bay c).spin := by simp [cleared]

@[simp] theorem cleared_servo (b c : Bay) (s : State) : ((cleared b s).bay c).servo = (s.bay c).servo := by simp [cleared, closeWindow]

@[simp] theorem cleared_cart (b c : Bay) (s : State) : ((cleared b s).bay c).cart = (s.bay c).cart := by simp [cleared]

@[simp] theorem cleared_ledger (b : Bay) (s : State) : (cleared b s).ledger = s.ledger := by simp [cleared]

@[simp] theorem cleared_bay_other (b : Bay) (s : State) : (cleared b s).bay b.other = s.bay b.other := by simp [cleared]

@[simp] theorem cleared_pins (b : Bay) (s : State) : ((cleared b s).bay b).pins = (s.bay b).pins :=
  (((Acts.refl false s).close.cancel).kept.bay b).pins

theorem cleared_sched (b : Bay) (s : State) : ((cleared b s).bay b).sched = { (s.bay b).sched with queue := [] } := by
  rw [cleared, cancelQueue_sched, closeWindow_sched]

theorem cleared_window (b : Bay) (s : State) : ((cleared b s).bay b).gate.window = false := by simp [cleared, closeWindow]

/-- R160: the first part of BAY RESET: nothing queued, the window closed, the heads and the attempt as no stop changes them. -/
theorem stopForReset_spec (hr : (s.bay b).pos.state.defersBrake = true → (s.bay b).spin.state.regulated = true) :
    HeadsSame b (cleared b s) (stopForReset b s) ∧ ((stopForReset b s).bay b).gate.window = false ∧
      ((stopForReset b s).bay b).sched.inflight = (s.bay b).sched.inflight.filter fun op => !endsAtReset op.kind (s.bay b) := by
  have hr' : ((cleared b s).bay b).pos.state.defersBrake = true → ((cleared b s).bay b).spin.state.regulated = true := by simpa using hr
  have hacts : Acts b false (cleared b s) (stopForReset b s) := (Acts.refl false _).cancelSpinUp.stopByUnload
  refine ⟨(cancelSpinUp_headsSame hr').trans (stopByUnload_headsSame b _), hacts.window_closed b (cleared_window b s), ?_⟩
  have h := stopped_inflight b (cleared b s) hr'
  rw [cleared_sched] at h
  have hends : ∀ k, endsAtReset k ((cleared b s).bay b) = endsAtReset k (s.bay b) := fun k => by
    cases k <;> simp [endsAtReset]
  simp only [hends] at h
  exact h

theorem kept_resetCartridge (b : Bay) (s : State) : Kept (s.modCart b fun c => { c with prevent := false }) (resetCartridge b s) := by
  have hcart := changeCart_sameButLamp (b := b) (s := s) fun c =>
    if c.state = .jammed then { c with prevent := false, state := .seated, pulseCount := 0 } else { c with prevent := false }
  have hm : ((resetCartridge b s).bay b).cart.media = (s.bay b).cart.media := hcart.eqs.2.2.2.1.trans (by split <;> rfl)
  have hp : ((resetCartridge b s).bay b).cart.prevent = false := hcart.eqs.2.2.2.2.1.trans (by split <;> rfl)
  refine ⟨fun c => ?_, ?_, ?_, ?_, ?_, ?_, ?_, ?_, ?_, ?_, ?_, ?_⟩
  · rcases Bay.cases_eq b c with rfl | rfl
    · exact ⟨by simp [resetCartridge, changeCart, lampUpdate], by simp [resetCartridge, changeCart, lampUpdate],
        by simp [resetCartridge, changeCart, lampUpdate], by simp [resetCartridge], by simp [resetCartridge],
        by rw [hm]; simp, by rw [hp]; simp, by simp [resetCartridge]⟩
    · simpa [resetCartridge] using BayState.Kept.refl _
  all_goals simp [resetCartridge, changeCart, lampUpdate]

theorem Kept.unprevented (h : Kept s t) : Kept (s.modCart b fun c => { c with prevent := false }) (t.modCart b fun c => { c with prevent := false }) := by
  refine ⟨fun c => ?_, ?_, ?_, ?_, ?_, ?_, ?_, ?_, ?_, ?_, ?_, ?_⟩
  · obtain ⟨k1, k2, k3, k4, k5, k6, k7, k8⟩ := h.bay c
    rcases Bay.cases_eq b c with rfl | rfl
    · exact ⟨by simpa using k1, by simpa using k2, by simpa using k3, by simpa using k4, by simpa using k5, by simpa using k6, by simp,
        by simpa using k8⟩
    · simpa using h.bay b.other
  all_goals simp [h.profile, h.sense, h.store, h.supply, h.nextTag, h.refusals, h.events, h.capacity, h.effective, h.resetN, h.reply]

/-- R23: a JAMMED cartridge is SEATED. -/
theorem resetCartridge_state (b : Bay) (s : State) : ((resetCartridge b s).bay b).cart.state =
    if (s.bay b).cart.state = .jammed then .seated else (s.bay b).cart.state :=
  (changeCart_sameButLamp (b := b) (s := s) _).eqs.1.trans (by split <;> rfl)

/-- R160: what the second part of BAY RESET makes of a bay whose queue is empty. -/
theorem resetBlocks_spec (b : Bay) (s : State) :
    let z := resetBlocks b s
    ((z.bay b).sched.state = .running ∧ (z.bay b).sched.cause = none ∧ (z.bay b).sched.step = false ∧
      (z.bay b).sched.queue = (s.bay b).sched.queue ∧ (z.bay b).sched.lastFault = (s.bay b).sched.lastFault) ∧
    ((z.bay b).pos.state.loaded = false ∧ (z.bay b).pos.state ≠ .fault ∧ (z.bay b).pos.recovery = 0 ∧
      (z.bay b).pos.acquire = 0 ∧ (z.bay b).pos.settle = 0 ∧ (z.bay b).pos.offTrack = 0 ∧ (z.bay b).pos.clean = 0 ∧
      (z.bay b).pos.servoLost = 0) ∧
    ((z.bay b).pos.head = (s.bay b).pos.head ∧ (z.bay b).pos.target = (s.bay b).pos.target ∧ (z.bay b).servo = (s.bay b).servo ∧
      (z.bay b).spin.attempt = (s.bay b).spin.attempt) ∧
    (((z.bay b).spin.state = .braking → (z.bay b).spin.purpose = some .stop) ∧ (z.bay b).spin.state ≠ .fault) ∧
    ((z.bay b.other).sched = (s.bay b.other).sched ∧ ((s.bay b).gate.window = false → (z.bay b).gate.window = false) ∧
      Kept (s.modCart b fun c => { c with prevent := false }) z ∧ ((s.bay b).cart.state = .jammed → (z.bay b).cart.state = .seated)) := by
  have hx : resetBlocks b s = resetSpindle b (resetPositioner b (resetCartridge b
    (changeSched b (fun x => { x with state := .running, cause := none, step := false }) s))) := rfl
  generalize hy : resetCartridge b (changeSched b (fun x => { x with state := .running, cause := none, step := false }) s) = y at hx
  have ysched : (y.bay b).sched = { (s.bay b).sched with state := .running, cause := none, step := false } := by
    rw [← hy, resetCartridge, changeCart_sched, (changeSched_spec s b _).1]
  have ykept : Kept (s.modCart b fun c => { c with prevent := false }) y := by
    have h1 := kept_changeSched b (fun x => { x with state := .running, cause := none, step := false }) s
    have h2 := kept_resetCartridge b (changeSched b (fun x => { x with state := .running, cause := none, step := false }) s)
    rw [hy] at h2
    exact h1.unprevented.trans h2
  have ypos : (y.bay b).pos = (s.bay b).pos := by simp [← hy, resetCartridge]
  have yservo : (y.bay b).servo = (s.bay b).servo := by simp [← hy, resetCartridge]
  have yspin : (y.bay b).spin = (s.bay b).spin := by simp [← hy, resetCartridge]
  have yother : y.bay b.other = s.bay b.other := by simp [← hy, resetCartridge]
  have ygate : (y.bay b).gate = (s.bay b).gate := by simp [← hy, resetCartridge]
  have ycart : (s.bay b).cart.state = .jammed → (y.bay b).cart.state = .seated := fun h => by
    rw [← hy, resetCartridge_state, if_pos]
    rw [(changeSched_sameButLamp s b _).eqs.1, h]
  obtain ⟨hhome, hsame, hcounts⟩ := resetPositioner_homeward b y
  obtain ⟨hcalm, hunended⟩ := resetSpindle_calm hhome.calm
  obtain ⟨hfault, hbraking⟩ := resetSpindle_spin b (resetPositioner b y)
  have hacts : Acts b false y (resetBlocks b s) := by rw [hx]; exact (Acts.refl false y).resetPositioner.resetSpindle
  rw [← hx] at hcalm hunended hfault hbraking
  have hall := hsame.trans (hcalm.headsSame hunended)
  obtain ⟨e1, e2, e3, e4, e5⟩ := hall.sched.kept
  rw [ysched] at e1 e2 e3 e4 e5
  dsimp only
  refine ⟨⟨e5 (by simp), e2, e3, e1, e4⟩, ⟨?_, ?_, ?_⟩, ⟨by rw [hall.head, ypos], by rw [hall.target, ypos], by rw [hall.servo, yservo],
    by rw [hall.attempt, yspin]⟩, ⟨hbraking, hfault⟩,
    ⟨by rw [hacts.other_kept.1, yother], fun h => hacts.window_closed b (by rw [ygate]; exact h), ykept.trans hacts.kept, fun h => ?_⟩⟩
  · rw [hcalm.state]; exact hhome.headsOff.1
  · rw [hcalm.state]; rcases hhome.state with e | e | e <;> rw [e] <;> simp
  · rw [hcalm.pos]; exact hcounts
  · rw [(hacts.cart_idle (by simp [ycart h]) (by simp [ycart h])).eqs.1, ycart h]

/-- The gate worked out leaves of a bay all but its gate and counters, and of the part all but ATTN and what is latched. -/
theorem judgeGate_frame (b c : Bay) (s : State) :
    let t := judgeGate b s
    t.bay c = { s.bay c with gate := (t.bay c).gate, cnt := (t.bay c).cnt } ∧ (t.bay c).gate.held = (s.bay c).gate.held ∧
      t.profile = s.profile ∧ t.sense = s.sense ∧ t.store = s.store ∧ t.supply = s.supply ∧ t.nextTag = s.nextTag ∧
      t.refusals = s.refusals ∧ t.events.mask = s.events.mask ∧ t.link.held = s.link.held := by
  dsimp only
  refine ⟨?_, ?_, ?_, ?_, ?_, judgeGate_supply b s, ?_, ?_, ?_, judgeGate_held b s⟩
  · rcases Bay.cases_eq b c with rfl | rfl
    · exact judgeGate_bay _ s
    · rw [judgeGate_bay_other]
  · rcases Bay.cases_eq b c with rfl | rfl
    · unfold judgeGate dropPermit latchEvent
      split
      · simp
      · split
        · dsimp only
          split <;> simp [refreshAttn, closeWindow, countBay]
        · rfl
    · rw [judgeGate_bay_other]
  · rw [judgeGate_eq, State.setBay_profile]
  · rw [judgeGate_eq, State.setBay_sense]
  · rw [judgeGate_eq, State.setBay_store]
  · rw [judgeGate_eq, State.setBay_nextTag]
  · rw [judgeGate_eq, State.setBay_refusals]
  · unfold judgeGate dropPermit latchEvent
    split
    · simp
    · split
      · dsimp only
        split <;> simp [refreshAttn, closeWindow, countBay]
      · rfl

theorem judgeGates_frame (c : Bay) (s : State) :
    let t := judgeGates s
    t.bay c = { s.bay c with gate := (t.bay c).gate, cnt := (t.bay c).cnt } ∧ (t.bay c).gate.held = (s.bay c).gate.held ∧
      t.profile = s.profile ∧ t.sense = s.sense ∧ t.store = s.store ∧ t.supply = s.supply ∧ t.nextTag = s.nextTag ∧
      t.refusals = s.refusals ∧ t.events.mask = s.events.mask ∧ t.link.held = s.link.held := by
  obtain ⟨a1, a2, a3, a4, a5, a6, a7, a8, a9, a10⟩ := judgeGate_frame .A c s
  obtain ⟨b1, b2, b3, b4, b5, b6, b7, b8, b9, b10⟩ := judgeGate_frame .B c (judgeGate .A s)
  exact ⟨by rw [judgeGates, b1, a1], b2.trans a2, b3.trans a3, b4.trans a4, b5.trans a5, b6.trans a6, b7.trans a7, b8.trans a8, b9.trans a9,
    b10.trans a10⟩

theorem judgeGates_window (c : Bay) (s : State) (h : (s.bay c).gate.window = false) : ((judgeGates s).bay c).gate.window = false :=
  judgeGate_window .B c _ (judgeGate_window .A c s h)

/-- Settles O34: the operation in flight is stopped by unloading, then each block of the bay is brought to rest, whatever its state. -/
theorem bayResetMakesTheBaySafe : Obligations.BayResetMakesTheBaySafe := by
  intro b s hl hset hreg
  refine ⟨_, exec_framed (i := .bayReset b) rfl hl, ?_⟩
  simp only [takeRequest, requestBayReset]
  generalize hv : s.modLink Link.framed = v
  have vbay : ∀ c, v.bay c = s.bay c := fun c => by simp [← hv]
  obtain ⟨hsame, hwindow, hin⟩ := stopForReset_spec (b := b) (s := v) (by rw [vbay]; exact hreg b)
  have hacts : Acts b false v (stopForReset b v) := (Acts.refl false v).stopForReset
  have hreply : abortReply (v.bay b).sched.queue.length ((stopForReset b v).bay b).sched =
      [byteOf (s.bay b).sched.queue.length,
        byteOf ((((s.bay b).sched.inflight.filter fun op => !endsAtReset op.kind (s.bay b)).map Op.tag).getD 0)] := by
    rw [abortReply, hin, vbay]
    cases (s.bay b).sched.inflight.filter fun op => !endsAtReset op.kind (s.bay b) <;> rfl
  rw [hreply]
  obtain ⟨⟨z1, z2, z3, z4, z5⟩, ⟨p1, p2, p3, p4, p5, p6, p7, p8⟩, ⟨q1, q2, q3, q4⟩, ⟨r1, r2⟩, ho, hw, hkept, hj⟩ := resetBlocks_spec b (stopForReset b v)
  obtain ⟨f1, -, -, f4, -⟩ := hsame.sched.kept
  rw [cleared_sched] at f1 f4
  generalize resetBlocks b (stopForReset b v) = z at *
  generalize hu : done 20 (toBay b) [byteOf (s.bay b).sched.queue.length,
    byteOf ((((s.bay b).sched.inflight.filter fun op => !endsAtReset op.kind (s.bay b)).map Op.tag).getD 0)] z = u
  have ubay : ∀ c, u.bay c = z.bay c := fun c => by simp [← hu, done, reply]
  have hqueue : (u.bay b).sched.queue = [] := by rw [ubay, z4, f1]
  have hother : (u.bay b.other).sched = (s.bay b.other).sched := by rw [ubay, ho, hacts.other_kept.1, vbay]
  have hz := hacts.kept.unprevented.trans hkept
  obtain ⟨-, k2, k3, k4, -, k6, k7, k8⟩ := hz.bay b
  rw [settle_of_takingsDone (hset.2.2.2.ofOther hother fun _ => hqueue)]
  obtain ⟨g1, g2, g3, g4, g5, g6, g7, g8, g9, g10⟩ := judgeGates_frame b u
  have gservo : ((judgeGates u).bay b).servo = (u.bay b).servo := by rw [g1]
  have ggains : ((judgeGates u).bay b).gains = (u.bay b).gains := by rw [g1]
  have gmon : ((judgeGates u).bay b).mon = (u.bay b).mon := by rw [g1]
  have gwindow : ((judgeGates u).bay b).gate.window = false := judgeGates_window b u (by rw [ubay]; exact hw hwindow)
  rw [g2, g3, g4, g5, g6, g7, g8, g9, g10, gservo, ggains, gmon, gwindow, judgeGates_sched, judgeGates_sched, judgeGates_cart, judgeGates_pos,
    judgeGates_spin, judgeGates_ledger, hother, ubay, z1, z2, z3, z4, z5, p1, p3, p4, p5, p6, p7, p8, q1, q2, q3, q4, k2, k3, k4, k6, k7, k8, f1, f4]
  have hjam : (s.bay b).cart.state = .jammed → ((stopForReset b v).bay b).cart.state = .jammed := fun h => by
    have hvj : (v.bay b).cart.state = .jammed := by rw [vbay, h]
    rw [(hacts.cart_idle (by simp [hvj]) (by simp [hvj])).eqs.1, hvj]
  have hevents : u.events = s.events := by rw [← hu]; simpa [done, reply, ← hv] using hz.events
  refine ⟨rfl, rfl, rfl, rfl, by rw [vbay], rfl, by simp [vbay], by simp, by simp [vbay], fun h => hj (hjam h), rfl, p2, rfl, rfl, rfl, rfl, rfl, rfl,
    by rw [hsame.head, cleared_pos, vbay], by rw [hsame.target, cleared_pos, vbay], by rw [hsame.servo, cleared_servo, vbay], by simp [vbay],
    by simp [vbay], by simp [vbay], by rw [hsame.attempt, cleared_spin, vbay], r1, r2, rfl, ?_, ?_, ?_, ?_, ?_, ?_, ?_, ?_, by rw [hevents], ?_⟩
  · rw [← hu]; simpa [done, reply, ← hv] using hz.capacity
  · rw [← hu]; simpa [done, reply, ← hv] using hz.effective
  · rw [← hu]; simpa [done, reply, ← hv] using hz.profile
  · rw [← hu]; simpa [done, reply, ← hv] using hz.sense
  · rw [← hu]; simpa [done, reply, ← hv] using hz.store
  · rw [← hu]; simpa [done, reply, ← hv] using hz.supply
  · rw [← hu]; simpa [done, reply, ← hv] using hz.nextTag
  · rw [← hu]; simpa [done, reply, ← hv] using hz.refusals
  · rw [← hu]; rfl

end Sys2Proof.Machine
end

section
namespace Sys2Proof.Machine

variable {b : Bay} {m : Bool} {s t u v : State} {c : Consumer} {k : OpKind} {op : Op} {p : OpKind → Bool}

/-! ### A bay without a release over an empty wait list asks for nothing -/

/-- Nothing waits, and the bay is in no release cycle. -/
structure Still (b : Bay) (n : Nat) (s : State) : Prop where
  wait : s.ledger.wait = []
  released : (s.bay b).cart.state ≠ .releasePending
  ejecting : (s.bay b).cart.state ≠ .ejecting
  latch : s.ledger.hold (.latch b) = n

namespace Still

variable {n : Nat}

theorem of (h : Still b n s) (ha : Acts b m s t) (hw : t.ledger.wait = [])
    (hl : t.ledger.hold (.latch b) = s.ledger.hold (.latch b)) : Still b n t := by
  have he := (ha.cart_idle h.released h.ejecting).eqs.1
  exact ⟨hw, by rw [he]; exact h.released, by rw [he]; exact h.ejecting, hl.trans h.latch⟩

theorem lower (h : Still b n s) (c : Consumer) (x : Nat) (hc : c = .spindle b ∨ c = .actuator b) : Still b n (lowerHolding c x s) := by
  refine h.of ((Acts.refl true s).lower x hc) ?_ ?_
  all_goals rw [lowerHolding_of_nil h.wait]
  · split <;> simp [h.wait]
  · have hne : .latch b ≠ c := by rcases hc with rfl | rfl <;> simp
    split
    · exact Ledger.setHold_hold_ne _ _ _ _ hne
    · rfl

theorem withdraw (h : Still b n s) (c : Consumer) : withdrawRequest c s = s := withdrawRequest_of_not_waits (Ledger.waits_of_nil h.wait c)

theorem judgeLatch (h : Still b n s) : judgeLatch b s = s := judgeLatch_of_not h.released

theorem cutPulse (h : Still b n s) : cutPulse b s = s := cutPulse_of_not (pulseOff_of_state h.ejecting)

theorem modSpin (h : Still b n s) (f : Spindle → Spindle) : Still b n (s.modSpin b f) :=
  ⟨by simpa using h.wait, by simpa using h.released, by simpa using h.ejecting, by simpa using h.latch⟩

theorem modPos (h : Still b n s) (f : Positioner → Positioner) : Still b n (s.modPos b f) :=
  ⟨by simpa using h.wait, by simpa using h.released, by simpa using h.ejecting, by simpa using h.latch⟩

theorem completeIf (h : Still b n s) (p : OpKind → Bool) (o : OpOutcome) : Still b n (completeIf b p o s) :=
  ⟨by simpa using h.wait, by simpa using h.released, by simpa using h.ejecting, by simpa using h.latch⟩

theorem speedLostUpdate (h : Still b n s) : Still b n (speedLostUpdate b s) :=
  ⟨by simpa using h.wait, by simpa using h.released, by simpa using h.ejecting, by simpa using h.latch⟩

theorem endLoadWait (h : Still b n s) : Still b n (endLoadWait b s) := by
  unfold Machine.endLoadWait
  split
  · rw [(h.modPos _).withdraw]
    exact (h.modPos _).lower _ _ (.inr rfl)
  · exact h

theorem failLoadWait (h : Still b n s) (x : Cause) : Still b n (failLoadWait b x s) := by
  unfold Machine.failLoadWait
  split
  · exact h.endLoadWait.completeIf _ _
  · exact h

theorem spindleChanged (h : Still b n s) (hr : (s.bay b).spin.state.regulated = false) : Still b n (spindleChanged b s) := by
  have hf := h.speedLostUpdate.failLoadWait .notReady
  unfold Machine.spindleChanged
  dsimp only
  rw [speedLostUpdate_spin_state, if_neg (by simp [hr]), hf.cutPulse, hf.judgeLatch]
  exact hf

theorem enterBraking (h : Still b n s) (p : BrakePurpose) : Still b n (enterBraking b p s) := by
  refine ((h.modSpin (Spindle.braking p)).lower (.spindle b) 0 (.inl rfl)).spindleChanged ?_
  rw [lowerHolding_spin (s := s.modSpin b (Spindle.braking p)) (b := b) (.spindle b) 0 (by simp [Spindle.braking]), State.modSpin_spin]
  rfl

theorem enterStopped (h : Still b n s) : Still b n (enterStopped b s) := (h.modSpin _).spindleChanged (by simp [SpinState.regulated])

theorem abandonPower (h : Still b n s) : Still b n (abandonPower b s) := by
  rw [Machine.abandonPower, h.withdraw]
  exact h.enterStopped

theorem brakeOrder (h : Still b n s) : Still b n (brakeOrder b s) := by
  unfold Machine.brakeOrder
  split
  case h_4 => exact h.abandonPower
  case h_5 | h_6 | h_7 | h_8 | h_9 =>
    split
    · exact h.modSpin _
    · exact h.enterBraking _
  all_goals exact h

theorem cancelOnSpindle (h : Still b n s) : Still b n (cancelOnSpindle b s) := by
  unfold Machine.cancelOnSpindle
  split
  case h_1 => exact h.abandonPower
  case h_2 | h_3 | h_4 => exact h.enterBraking _
  case h_5 => exact h.modSpin _
  all_goals exact h

theorem faultHalt (h : Still b n s) (x : Cause) : Still b n (faultHalt b x s) :=
  h.of ((Acts.refl true s).fault x) (by simpa using h.wait) (by simp)

theorem closeWindow (h : Still b n s) : Still b n (closeWindow b s) :=
  ⟨by simpa using h.wait, by simpa using h.released, by simpa using h.ejecting, by simpa using h.latch⟩

theorem raiseFatal (h : Still b n s) (x : Cause) : Still b n (raiseFatal b x s) := by
  unfold Machine.raiseFatal raiseOutcome
  dsimp only
  split
  · exact (h.closeWindow.faultHalt x).cancelOnSpindle
  · exact h.closeWindow.faultHalt x

theorem brakesDue (h : Still b n s) : Still b n (brakesDue b s) := by
  have order : ∀ (p : Bool) {v : State}, Still b n v → Still b n (if p then Machine.brakeOrder b v else v) := fun p v hv => by
    split
    · exact hv.brakeOrder
    · exact hv
  exact order _ (order _ h)

theorem posChanged (h : Still b n s) : Still b n (posChanged b s) := by
  have hr : Still b n (reported b s) := by
    unfold reported
    split
    · exact h
    · exact ⟨by simpa using h.wait, by simpa using h.released, by simpa using h.ejecting, by simpa using h.latch⟩
  have hb := hr.speedLostUpdate.brakesDue
  rw [posChanged_eq, hb.cutPulse, hb.judgeLatch]
  exact hb

theorem enterRetracting (h : Still b n s) : Still b n (enterRetracting b s) := by
  have hd : Still b n (retractBegun b s) := by
    unfold retractBegun headsDropped
    rw [(h.modPos _).withdraw]
    exact ((h.modPos _).lower _ _ (.inr rfl)).posChanged
  rw [enterRetracting_begun]
  split
  · exact ((((hd.modPos _).lower (.actuator b) 0 (.inr rfl)).completeIf _ _).completeIf _ _).posChanged
  · exact hd

theorem retractOrder (h : Still b n s) : Still b n (retractOrder b s) := by
  unfold Machine.retractOrder
  split
  · exact h.endLoadWait
  · exact h
  · exact h.enterRetracting

theorem spindleOnFail (h : Still b n s) : Still b n (spindleOnFail b s) := by
  unfold Machine.spindleOnFail
  split
  case h_1 => exact h.abandonPower
  case h_2 | h_3 | h_4 => exact h.enterBraking _
  case h_5 | h_6 => exact h.brakeOrder
  case h_7 => exact h.modSpin _
  all_goals exact h

end Still

/-! ### The heads retracted (R107, R110) -/

/-- R107: behind a retract order the heads are PARKED or RETRACTING, no load waiting. -/
theorem retractOrder_homeward (b : Bay) (s : State) :
    (Homeward b (retractOrder b s) ∧ ((retractOrder b s).bay b).pos.state ≠ .unloading) ∧ HeadsSame b s (retractOrder b s) ∧
      ((s.bay b).pos.state ≠ .parked → (s.bay b).pins.park = false → ((retractOrder b s).bay b).pos.state = .retracting) := by
  unfold retractOrder
  split
  · next hs =>
    obtain ⟨h1, h2⟩ := endLoadWait_homeward hs
    refine ⟨⟨h1, ?_⟩, h2, fun h => absurd hs h⟩
    by_cases hl : loadWaiting b s = true
    · rw [(endLoadWait_heads hl).1]; simp [hs]
    · rw [endLoadWait_of_not (by simpa using hl), hs]; simp
  · next hs => exact ⟨⟨⟨.inr (.inr hs), loadWaiting_of_pos (by simp [hs])⟩, by simp [hs]⟩, .refl b s, fun _ _ => hs⟩
  · obtain ⟨h1, h2⟩ := enterRetracting_homeward b s
    obtain ⟨hpos, -, hw⟩ := retractBegun_heads b s
    rw [enterRetracting_begun, retractBegun_pins] at *
    refine ⟨⟨h1, ?_⟩, h2, fun _ hk => ?_⟩
    · split
      · rw [enterParked_pos hw (by rw [hpos]; simp [Positioner.retracting])]
        simp [Positioner.ended]
      · rw [hpos]; simp [Positioner.retracting]
    · rw [hk, if_neg (by simp), hpos]
      rfl

/-- R44: the spindle of a bay at FAIL, its heads off the platter. -/
theorem spindleOnFail_rests (h : (s.bay b).pos.state.defersBrake = false) : ((spindleOnFail b s).bay b).spin.state.resting = true := by
  unfold spindleOnFail
  split
  case h_1 hs =>
    rw [abandonPower, enterStopped_spin b]
    rfl
  case h_2 | h_3 | h_4 => rw [enterBraking_spin .stop]; rfl
  case h_5 | h_6 => exact brakeOrder_rests h
  case h_7 hs => simp [mergeStop, hs, SpinState.resting]
  case h_8 hs | h_9 hs => rw [hs]; rfl

theorem spindleOnFail_calm (h : HeadsCalm b s) : Calm b s (spindleOnFail b s) ∧ Unended b s (spindleOnFail b s) := by
  unfold spindleOnFail
  split
  case h_1 => exact ⟨(Calm.refl h).abandonPower, unended_abandonPower s⟩
  case h_2 | h_3 | h_4 => exact ⟨(Calm.refl h).enterBraking _, unended_enterBraking _ s⟩
  case h_5 | h_6 => exact ⟨(Calm.refl h).brakeOrder, unended_brakeOrder s⟩
  case h_7 => exact ⟨(Calm.refl h).spin rfl (.inl rfl), .of_eq (by simp [mergeStop])⟩
  all_goals exact ⟨.refl h, .of_eq rfl⟩

end Sys2Proof.Machine
end

section
namespace Sys2Proof.Machine

variable {b : Bay} {m : Bool} {s t u v : State} {c : Consumer} {k : OpKind} {op : Op} {p : OpKind → Bool}

/-! ### The supply becomes FAIL (R20, R44, R60, R110, R119, R154) -/

/-- R20: with nothing waiting an abandoned release cycle is the cartridge and the holding of its latch. -/
theorem abandonCycle_spec (hw : s.ledger.wait = []) :
    let t := abandonCycle b s
    (∃ n, Still b n t) ∧ (t.bay b).pos = (s.bay b).pos ∧ (t.bay b).spin = (s.bay b).spin ∧ (t.bay b).sched = (s.bay b).sched ∧
      t.bay b.other = s.bay b.other ∧ Kept s t ∧
      ((s.bay b).cart.state = .releasePending ∨ (s.bay b).cart.state = .ejecting → (t.bay b).cart.state = .seated) := by
  dsimp only
  unfold abandonCycle
  by_cases h : (s.bay b).cart.state = .releasePending ∨ (s.bay b).cart.state = .ejecting
  · rw [if_pos (by simpa using h)]
    have hcart := changeCart_sameButLamp (b := b) (s := s) fun c =>
      { c with state := .seated, pulseCount := 0, phase := none, latch := false, pulseTimer := none, waitTimer := none }
    generalize hv : changeCart b (fun c =>
      { c with state := .seated, pulseCount := 0, phase := none, latch := false, pulseTimer := none, waitTimer := none }) s = v at hcart
    have hvw : v.ledger.wait = [] := by rw [← hv, changeCart_ledger]; exact hw
    have hd : dropLatch b v = v.setLedger (v.ledger.setHold (.latch b) 0) := by
      rw [dropLatch, lowerHolding_zero_of_nil hvw, withdrawRequest_of_not_waits (Ledger.waits_of_nil (by simpa using hvw) _)]
    have hs : (v.bay b).cart.state = .seated := hcart.eqs.1
    rw [hd]
    refine ⟨⟨_, by simpa using hvw, by simp [hs], by simp [hs], rfl⟩, by simp [← hv], by simp [← hv], by simp [← hv], by simp [← hv], ?_, fun _ => by simpa using hs⟩
    have hkv : Kept s v := by rw [← hv]; exact (granted_changeCart b rfl rfl).kept
    exact hkv.trans ⟨fun c => by simpa using .refl _, rfl, rfl, rfl, rfl, rfl, rfl, rfl, by simp, by simp, rfl, rfl⟩
  · rw [if_neg (by simpa using h)]
    rw [not_or] at h
    exact ⟨⟨_, hw, h.1, h.2, rfl⟩, rfl, rfl, rfl, rfl, .refl s, fun hn => absurd hn (not_or.mpr h)⟩

/-- What a bay is behind the failure of the supply, from the bay it was. -/
structure FailedFrom (b : Bay) (s t : State) : Prop where
  sched : (t.bay b).sched.state = .halted ∧ (t.bay b).sched.cause = some .fault ∧ (t.bay b).sched.lastFault = some .supplyFail ∧
    (t.bay b).sched.inflight = none
  window : (t.bay b).gate.window = false
  heads : (t.bay b).pos.state = .parked ∨ (t.bay b).pos.state = .retracting
  spin : (t.bay b).spin.state.resting = true
  cart : (s.bay b).cart.state = .releasePending ∨ (s.bay b).cart.state = .ejecting → (t.bay b).cart.state = .seated
  retracting : (s.bay b).pos.state ≠ .parked → (s.bay b).pins.park = false → (t.bay b).pos.state = .retracting

theorem FailedFrom.congr {p q : State} (h : FailedFrom b s t) (hs : p.bay b = s.bay b) (ht : q.bay b = t.bay b) : FailedFrom b p q := by
  obtain ⟨h1, h2, h3, h4, h5, h6⟩ := h
  exact ⟨by rwa [ht], by rwa [ht], by rwa [ht], by rwa [ht], by rwa [hs, ht], by rwa [hs, ht]⟩

theorem raiseFatal_sched (x : Cause) (b : Bay) (s : State) : ((raiseFatal b x s).bay b).sched = (s.bay b).sched.faulted x := by
  have hf : ((raiseOutcome b x s).bay b).sched = (s.bay b).sched.faulted x := by rw [raiseOutcome, faultHalt_sched, closeWindow_sched]
  unfold raiseFatal
  dsimp only
  split
  · rw [Sched.Ends.idle (unended_cancelOnSpindle (b := b) _) (by rw [hf]; rfl), hf]
  · exact hf

/-- One bay at FAIL, with nothing waiting. -/
theorem supplyFailBay_spec (hw : s.ledger.wait = []) :
    let t := supplyFailBay b s
    FailedFrom b s t ∧ t.bay b.other = s.bay b.other ∧ t.ledger.wait = [] ∧ t.ledger.effective = s.ledger.effective ∧ t.supply = s.supply := by
  obtain ⟨⟨n, a1⟩, a2, a3, a4, a5, a6, a7⟩ := abandonCycle_spec (b := b) hw
  have hx : supplyFailBay b s = spindleOnFail b (retractOrder b (raiseFatal b .supplyFail (abandonCycle b s))) := rfl
  generalize abandonCycle b s = v at a1 a2 a3 a4 a5 a6 a7 hx
  have hacts : Acts b false v (supplyFailBay b s) := by rw [hx]; exact (Acts.refl false v).supplyFail
  have hraise := (Calm.refl (b := b) (.inl (Ledger.waits_of_nil a1.wait _))).raiseFatal .supplyFail
  have hpins : ((raiseFatal b .supplyFail v).bay b).pins = (s.bay b).pins :=
    (((Acts.refl true v).raiseFatal .supplyFail).kept.bay b).pins.trans (a6.bay b).pins
  obtain ⟨⟨r1, r2⟩, r3, r4⟩ := retractOrder_homeward b (raiseFatal b .supplyFail v)
  have hstill := (a1.raiseFatal .supplyFail).retractOrder.spindleOnFail
  have hheads : ((retractOrder b (raiseFatal b .supplyFail v)).bay b).pos.state = .parked ∨
      ((retractOrder b (raiseFatal b .supplyFail v)).bay b).pos.state = .retracting := by
    rcases r1.state with e | e | e
    · exact .inl e
    · exact absurd e r2
    · exact .inr e
  obtain ⟨c1, c2⟩ := spindleOnFail_calm r1.calm
  have hrest := spindleOnFail_rests (b := b) (s := retractOrder b (raiseFatal b .supplyFail v)) (by rcases hheads with e | e <;> rw [e] <;> rfl)
  have hsched := raiseFatal_sched .supplyFail b v
  have hin : ((raiseFatal b .supplyFail v).bay b).sched.inflight = none := by rw [hsched]; rfl
  have hretract := r3.sched.idle hin
  have hfinal := Sched.Ends.idle c2 (by rw [hretract, hin])
  rw [hretract, hsched] at hfinal
  rw [← hx] at hstill c1 hrest hfinal
  dsimp only
  refine ⟨⟨by rw [hfinal]; exact ⟨rfl, rfl, rfl, rfl⟩, ?_, by rw [c1.state]; exact hheads, hrest, fun h => ?_, fun hn hk => ?_⟩,
    (hacts.other_bay (Ledger.waitsOf_nil a1.wait b)).1.trans a5, hstill.wait, hacts.kept.effective.trans a6.effective, hacts.kept.supply.trans a6.supply⟩
  · have h0 : ((raiseFatal b .supplyFail v).bay b).gate.window = false := by
      have h1 : ((raiseOutcome b .supplyFail v).bay b).gate.window = false := by
        rw [raiseOutcome, faultHalt_gate, closeWindow_window]
      unfold raiseFatal
      dsimp only
      split
      · exact ((Acts.refl true _).cancelOnSpindle).window_closed b h1
      · exact h1
    rw [hx]
    have hr : Acts b false (raiseFatal b .supplyFail v) (spindleOnFail b (retractOrder b (raiseFatal b .supplyFail v))) :=
      (Acts.refl false _).retractOrder.spindleOnFail
    exact hr.window_closed b h0
  · rw [(hacts.cart_idle a1.released a1.ejecting).eqs.1, a7 h]
  · rw [c1.state]
    exact r4 (by rw [hraise.state, a2]; exact hn) (by rw [hpins]; exact hk)

end Sys2Proof.Machine
end

section
namespace Sys2Proof.Machine

variable {b : Bay} {m : Bool} {s t u v : State} {c : Consumer} {k : OpKind} {op : Op} {p : OpKind → Bool}

/-- Two states of the same bays, ledger and supply. -/
structure SameMachine (s t : State) : Prop where
  bay : ∀ c, t.bay c = s.bay c
  ledger : t.ledger = s.ledger
  supply : t.supply = s.supply

theorem SameMachine.trans (h : SameMachine s t) (k : SameMachine t u) : SameMachine s u :=
  ⟨fun c => (k.bay c).trans (h.bay c), k.ledger.trans h.ledger, k.supply.trans h.supply⟩

theorem sameMachine_sense (s : State) (f : Sense → Sense) : SameMachine s (s.modSense f) := ⟨by simp, by simp, by simp⟩

theorem sameMachine_openScan (s : State) : SameMachine s (openScan s) := by
  unfold openScan
  dsimp only
  refine SameMachine.trans ?_ (sameMachine_sense _ _)
  split
  · exact ⟨by simp [installList], by simp [installList], by simp [installList]⟩
  · exact sameMachine_sense s _

/-- The sequencer goes on without a change of the bays. -/
theorem sameMachine_goOn (goal : Option Nat) (s : State) : SameMachine s (goOn goal s) := by
  unfold goOn
  dsimp only
  refine SameMachine.trans ?_ (sameMachine_sense _ _)
  split
  · exact sameMachine_sense s _
  · split
    · exact (sameMachine_sense s _).trans (sameMachine_openScan _)
    · exact sameMachine_sense s _

/-- R126: the conversion of a fixed position is judged raw, between changes of the sequencer and the store alone. -/
theorem listCompletion_fixed {n : Nat} (hn : n < 6) (raw : BitVec 10) (s : State) :
    ∃ v, SameMachine s v ∧ SameMachine (judgeSample n raw.toNat v) (listCompletion n raw s) := by
  have hv : sampleOf raw 0 = raw.toNat := by
    have := raw.isLt
    simp only [sampleOf]
    omega
  refine ⟨storeSample n n raw.toNat s, ?_, ?_⟩
  · rw [storeSample, if_pos (by simp [hn])]
    exact ⟨by simp [storeImage], by simp [storeImage], by simp [storeImage]⟩
  · simp only [listCompletion, Sense.entry, hn, if_true]
    have hmarks : ∀ w, actOnMarks (.plain n false) w = w := fun w => rfl
    rw [hmarks, show (SenseEntry.plain n false).gain = 0 from rfl, hv]
    exact sameMachine_goOn _ _

/-- R60: behind the failure of the supply both bays are as FAIL leaves them, E is 0, and nothing waits. -/
theorem supplyFails_spec (s : State) :
    let t := supplyFails s
    (∀ c, FailedFrom c s t) ∧ t.ledger.wait = [] ∧ t.ledger.effective = 0 := by
  obtain ⟨a1, a2, a3, a4, -⟩ := supplyFailBay_spec (b := .A) (s := s.setLedger s.ledger.failed) rfl
  obtain ⟨b1, b2, b3, b4, -⟩ := supplyFailBay_spec (b := .B) a3
  refine ⟨fun c => ?_, b3, b4.trans a4⟩
  cases c with
  | A => exact a1.congr rfl b2
  | B => exact b1.congr a2.symm rfl

/-- WPERM worked out is the permit (R115, R117). -/
theorem judgeGate_wperm (b : Bay) (s : State) : ((judgeGate b s).bay b).gate.wperm = permitDue (s.bay b) s.supply.state := by
  by_cases h : permitDue (s.bay b) s.supply.state = true ∨ (s.bay b).gate.wperm = false ∨ (s.bay b).pins.wgate = false
  · rw [judgeGate_of_no_fault h, State.modGate_gate]
  · simp only [not_or, Bool.not_eq_true, Bool.not_eq_false] at h
    obtain ⟨hd, hw, hg⟩ := h
    rw [judgeGate_of_fault hd hw hg, latchEvent_bay, State.setBay_bay, hd]

theorem judgeGates_wperm (b : Bay) (s : State) : ((judgeGates s).bay b).gate.wperm = permitDue (s.bay b) s.supply.state := by
  cases b with
  | A =>
    have ho : (judgeGates s).bay .A = (judgeGate .A s).bay .A := judgeGate_bay_other .B (judgeGate .A s)
    rw [ho, judgeGate_wperm]
  | B =>
    have ho : (judgeGate .A s).bay .B = s.bay .B := judgeGate_bay_other .A s
    rw [judgeGates, judgeGate_wperm, ho, judgeGate_supply]

/-- R137: the entry to FAIL, from the bays as they are. -/
theorem changeSupply_fail (s : State) : ∃ v, (∀ c, v.bay c = s.bay c) ∧ changeSupply .fail s = supplyFails v :=
  ⟨_, fun c => by simp [countPart], rfl⟩

theorem judge12_fails {n : Nat} (hs : s.supply.state ≠ .fail) (hn : n < s.supply.limits.fail) :
    ∃ v, (∀ c, v.bay c = s.bay c) ∧ judge12 n s = supplyFails v := by
  have hgoal : after12 s.supply.limits s.supply.state n = .fail := by simp [after12, hs, hn]
  obtain ⟨v, h1, h2⟩ := changeSupply_fail (s.setSupply { s.supply with good12 := decide (s.supply.limits.recover < n) })
  refine ⟨v, fun c => by rw [h1]; simp, ?_⟩
  rw [← h2]
  simp only [judge12, hgoal]
  rw [if_neg hs.symm]

theorem judge5_fails {n : Nat} (hs : s.supply.state ≠ .fail) (hn : n < s.supply.limits.logicFail) : judge5 n s = changeSupply .fail s := by
  simp [judge5, hs, hn]

/-- R137: the sample of a rail below its limit makes the supply FAIL. -/
theorem listCompletion_fails {raw : BitVec 10} {n : Nat} (hs : s.supply.state ≠ .fail)
    (h : n = 0 ∧ raw.toNat < s.supply.limits.fail ∨ n = 1 ∧ raw.toNat < s.supply.limits.logicFail) :
    ∃ v, (∀ c, v.bay c = s.bay c) ∧ SameMachine (supplyFails v) (listCompletion n raw s) := by
  obtain ⟨w, hw, hl⟩ := listCompletion_fixed (n := n) (by omega) raw s
  have hws : w.supply.state ≠ .fail := by rw [hw.supply]; exact hs
  have judged : ∃ v, (∀ c, v.bay c = w.bay c) ∧ judgeSample n raw.toNat w = supplyFails v := by
    rcases h with ⟨rfl, hlt⟩ | ⟨rfl, hlt⟩
    · exact judge12_fails hws (by rw [hw.supply]; exact hlt)
    · obtain ⟨v, h1, h2⟩ := changeSupply_fail w
      exact ⟨v, h1, (judge5_fails hws (by rw [hw.supply]; exact hlt)).trans h2⟩
  obtain ⟨v, h1, h2⟩ := judged
  exact ⟨v, fun c => (h1 c).trans (hw.bay c), by rw [← h2]; exact hl⟩

/-- Settles O59: the ledger fails first, then each bay: its release cycle abandoned, SUPPLY_FAIL raised, its heads retracted, its spindle braked. -/
theorem supplyFailureMakesBothBaysSafe : Obligations.SupplyFailureMakesBothBaysSafe := by
  intro b raw s hset hs h
  have hconv : ∃ n, s.sense.conv = .list n ∧ (n = 0 ∧ raw.toNat < s.supply.limits.fail ∨ n = 1 ∧ raw.toNat < s.supply.limits.logicFail) := by
    rcases h with ⟨hc, hl⟩ | ⟨hc, hl⟩
    · exact ⟨0, hc, .inl ⟨rfl, hl⟩⟩
    · exact ⟨1, hc, .inr ⟨rfl, hl⟩⟩
  obtain ⟨n, hc, hn⟩ := hconv
  obtain ⟨v, hbay, hu⟩ := listCompletion_fails hs hn
  obtain ⟨hfail, hwait, heff⟩ := supplyFails_spec v
  have hexec : exec (.conversionCompletion raw) s = .next (settle (listCompletion n raw s)) := by simp only [exec, execConversionCompletion, hc]
  generalize listCompletion n raw s = u at hu hexec
  obtain ⟨⟨h1, h2, h3, h4⟩, h5, h6, h7, h8, h9⟩ : FailedFrom b s u := (hfail b).congr (hbay b).symm (hu.bay b)
  have hdone : TakingsDone u := fun c hm => by
    rw [hu.bay c] at hm
    simp [mayTake, (hfail c).sched.1] at hm
  refine ⟨_, hexec, ?_⟩
  dsimp only
  rw [settle_of_takingsDone hdone, judgeGates_sched, judgeGates_pos, judgeGates_spin, judgeGates_cart, judgeGates_ledger, hu.ledger,
    judgeGates_window b u h5, judgeGates_wperm, permitDue_of_closed h5]
  exact ⟨heff, hwait, h1, h2, h3, h4, rfl, rfl, h6, (SpinState.resting_iff _).mp h7, h8, h9⟩

end Sys2Proof.Machine
end

section
namespace Sys2Proof.Machine

variable {b : Bay} {m : Bool} {s t u v : State} {c : Consumer} {k : OpKind} {op : Op} {p : OpKind → Bool}

/-! ### The departure of a cartridge (R2, R4, R17, R19) -/

theorem recordedAll_append (l x y : List Completion) : recordedAll l (x ++ y) = recordedAll (recordedAll l x) y := by
  induction x generalizing l with
  | nil => rfl
  | cons r x ih => exact ih _

/-- R4, R17, R19: a bay that its cartridge has left, before its mechanisms and its operation are seen to. -/
def emptied (b : Bay) (s : State) : State := dropLatch b (enterEmpty b s)

/-- What leaves with a cartridge, over an empty wait list. -/
theorem emptied_spec (hw : s.ledger.wait = []) :
    let t := emptied b s
    ((t.bay b).cart.state = .empty ∧ (t.bay b).cart.media = none ∧ (t.bay b).cart.prevent = false ∧ (t.bay b).cart.pulseCount = 0 ∧
      (t.bay b).cart.latch = false ∧ (t.bay b).cart.phase = none) ∧
    (t.bay b).pos = (s.bay b).pos ∧ (t.bay b).spin = (s.bay b).spin ∧ (t.bay b).pins = (s.bay b).pins ∧
    (t.bay b).sched = { (s.bay b).sched with queue := [] } ∧ (t.bay b).gate.window = false ∧
    t.completions = recordedAll s.completions (cancelRecords b (s.bay b)) ∧ t.ledger = s.ledger.setHold (.latch b) 0 ∧
    t.bay b.other = s.bay b.other ∧ t.supply = s.supply ∧
    t.events.latched = s.events.latched ||| (if b = .A then 0x0008 else 0x0010) := by
  generalize hv : latchEvent (.presence b) (s.modCart b fun c =>
    { c with state := .empty, media := none, prevent := false, pulseCount := 0, phase := none, debounce := none, latch := false,
             pulseTimer := none, waitTimer := none }) = v
  have hempty : enterEmpty b s = cleared b v := by rw [← hv]; rfl
  have vbay : v.bay b = { s.bay b with cart :=
      { (s.bay b).cart with state := .empty, media := none, prevent := false, pulseCount := 0, phase := none, debounce := none, latch := false,
                            pulseTimer := none, waitTimer := none } } := by rw [← hv, latchEvent_bay]; simp [State.modCart]
  have vledger : v.ledger = s.ledger := by rw [← hv, latchEvent_ledger, State.modCart_ledger]
  have vcomp : v.completions = s.completions := by rw [← hv]; simp [latchEvent, refreshAttn]
  have vother : v.bay b.other = s.bay b.other := by rw [← hv]; simp
  have hkept : Kept v (cleared b v) := (Acts.refl true v).close.cancel.kept
  have hdrop : emptied b s = (cleared b v).setLedger (s.ledger.setHold (.latch b) 0) := by
    rw [emptied, hempty, dropLatch, lowerHolding_zero_of_nil (by simpa [vledger] using hw),
      withdrawRequest_of_not_waits (Ledger.waits_of_nil (by simpa [vledger] using hw) _), cleared_ledger, vledger]
  have hcomp : (cleared b v).completions = recordedAll s.completions (cancelRecords b (s.bay b)) := by
    rw [cleared, cancelQueue_completions, closeWindow_completions, vcomp]
    simp [cancelRecords, vbay]
  dsimp only
  rw [hdrop]
  simp only [State.setLedger_bay, State.setLedger_completions, State.setLedger_ledger, State.setLedger_supply, State.setLedger_events, cleared_cart,
    cleared_pos, cleared_spin, cleared_pins, cleared_sched, cleared_window, cleared_bay_other, hcomp, vbay, vother]
  refine ⟨by simp, trivial, trivial, trivial, trivial, trivial, trivial, trivial, trivial, ?_, ?_⟩
  · rw [hkept.supply, ← hv]; simp
  · rw [hkept.events, ← hv, latchEvent_eq, presence_bit]
    dsimp only
    rw [State.modCart_events]

/-- Behind the departure a bay asks for nothing more. -/
theorem emptied_still (hw : s.ledger.wait = []) : Still b 0 (emptied b s) := by
  obtain ⟨⟨hc, -⟩, -, -, -, -, -, -, hl, -⟩ := emptied_spec (b := b) hw
  exact ⟨by rw [hl]; simpa using hw, by simp [hc], by simp [hc], by simp [hl]⟩

/-- R19: the loss of a cartridge at rest. -/
theorem presenceLoss_rest (h : atRest b s = true) :
    presenceLoss b s =
      lampUpdate b (completeOp b (if inflightIs b OpKind.isEject (emptied b s) then .success else .cancelled) (emptied b s)) := by
  simp only [presenceLoss, h, if_true]
  rfl

/-- R19: the loss of a cartridge with the mechanisms moving. -/
theorem presenceLoss_away (h : atRest b s = false) :
    presenceLoss b s = brakeOrder b (retractOrder b (raiseFatal b .presenceLost (emptied b s))) := by
  simp only [presenceLoss, h, Bool.false_eq_true, if_false]
  rfl

/-- The presence falls in a bay whose cartridge had been seated: what becomes of the cartridge whatever the mechanisms do. -/
theorem departed (hset : Settled s) (hw : s.ledger.wait = []) (hg : (s.bay b).pins.wgate = false)
    (hacts : Acts b false (emptied b (s.modPins b fun p => { p with pres := false })) u) (hstill : Still b 0 u) :
    let t := judgeGate b u
    settle u = t ∧ (t.bay b).pins = { (s.bay b).pins with pres := false } ∧
      (t.bay b).cart.state = .empty ∧ (t.bay b).cart.media = none ∧ (t.bay b).cart.prevent = false ∧
      (t.bay b).cart.pulseCount = 0 ∧ (t.bay b).cart.latch = false ∧ (t.bay b).cart.phase = none ∧
      (t.bay b).sched.queue = [] ∧ (t.bay b).gate.window = false ∧ t.hold (.latch b) = 0 ∧
      t.events.latched = s.events.latched ||| (if b = .A then 0x0008 else 0x0010) := by
  obtain ⟨⟨c1, c2, c3, c4, c5, c6⟩, -, -, hpins, hsched, hwin, -, hledger, hother, hsupply, hevents⟩ :=
    emptied_spec (b := b) (s := s.modPins b fun p => { p with pres := false }) (by simpa using hw)
  generalize emptied b (s.modPins b fun p => { p with pres := false }) = e at hacts c1 c2 c3 c4 c5 c6 hpins hsched hwin hledger hother hsupply hevents
  obtain ⟨e1, e2, e3, e4, e5, e6, -⟩ := (hacts.cart_idle (by simp [c1]) (by simp [c1])).eqs
  have hwindow := hacts.window_closed b hwin
  have hqueue : (u.bay b).sched.queue = [] := by
    rcases hacts.sched_acted.queue with e | e
    · rw [e, hsched]
    · exact e
  have hkept := hacts.kept
  have hgate : (u.bay b).pins.wgate = false := by rw [(hkept.bay b).pins, hpins]; simpa using hg
  have hjudge : judgeGate b u = u.modGate b fun g => { g with wperm := permitDue (u.bay b) u.supply.state } := judgeGate_of_no_fault (.inr (.inr hgate))
  dsimp only
  refine ⟨hset.settle_acts (v := e) (by rw [hother]; simp) (by rw [hsupply]; simp) (by rw [hledger]; simpa using hw) (by rw [hsched]) hacts, ?_⟩
  rw [hjudge]
  simp only [State.modGate_pins, State.modGate_cart, State.modGate_sched, State.modGate_gate, State.hold, State.modGate_ledger, State.modGate_events]
  refine ⟨by rw [(hkept.bay b).pins, hpins]; simp, e1.trans c1, e4.trans c2, e5.trans c3, e6.trans c4, e3.trans c5, e2.trans c6, hqueue, hwindow,
    hstill.latch, ?_⟩
  rw [hkept.events, hevents]
  simp

end Sys2Proof.Machine
end

section
namespace Sys2Proof.Machine

variable {b : Bay} {m : Bool} {s t u v : State} {c : Consumer} {k : OpKind} {op : Op} {p : OpKind → Bool}

/-! ### PRESENCE_LOST (R19, R37, R107) -/

theorem raiseOutcome_completions (x : Cause) (b : Bay) (s : State) :
    (raiseOutcome b x s).completions = recordedAll s.completions (faultRecords b (s.bay b) x) := by
  rw [raiseOutcome, faultHalt_completions, closeWindow_completions]
  simp [faultRecords]

/-- R153: a fatal outcome of a bay with an empty queue adds its record alone. -/
theorem raiseFatal_completions (hq : (s.bay b).sched.queue = []) (x : Cause) :
    (raiseFatal b x s).completions = recordedAll s.completions (faultRecords b (s.bay b) x) := by
  have hs : ((raiseOutcome b x s).bay b).sched = (s.bay b).sched.faulted x := by rw [raiseOutcome, faultHalt_sched, closeWindow_sched]
  unfold raiseFatal
  dsimp only
  split
  · have ha : Acts b true (raiseOutcome b x s) (cancelOnSpindle b (raiseOutcome b x s)) := (Acts.refl true _).cancelOnSpindle
    rw [(ha.idle (by rw [hs]; rfl) (by rw [hs]; exact hq)).1, raiseOutcome_completions]
  · exact raiseOutcome_completions x b s

/-- R19: a bay without its cartridge retracts its heads and brakes its platter. -/
theorem lost_away (hw : s.ledger.wait = []) (hq : (s.bay b).sched.queue = []) (x : Cause) :
    let t := brakeOrder b (retractOrder b (raiseFatal b x s))
    (t.bay b).sched = (s.bay b).sched.faulted x ∧ t.completions = recordedAll s.completions (faultRecords b (s.bay b) x) ∧
      (t.bay b).spin.state.resting = true ∧
      ((s.bay b).pos.state ≠ .parked → (s.bay b).pins.park = false → (t.bay b).pos.state = .retracting) := by
  have hsched := raiseFatal_sched x b s
  have hin : ((raiseFatal b x s).bay b).sched.inflight = none := by rw [hsched]; rfl
  have hraise := (Calm.refl (b := b) (.inl (Ledger.waits_of_nil hw _))).raiseFatal x
  have hpins : ((raiseFatal b x s).bay b).pins = (s.bay b).pins := (((Acts.refl true s).raiseFatal x).kept.bay b).pins
  obtain ⟨⟨r1, r2⟩, r3, r4⟩ := retractOrder_homeward b (raiseFatal b x s)
  have hretract := r3.sched.idle hin
  have hdefer : ((retractOrder b (raiseFatal b x s)).bay b).pos.state.defersBrake = false := by
    rcases r1.state with e | e | e
    · rw [e]; rfl
    · exact absurd e r2
    · rw [e]; rfl
  have hcalm := (Calm.refl r1.calm).brakeOrder
  have ha : Acts b true (raiseFatal b x s) (brakeOrder b (retractOrder b (raiseFatal b x s))) := (Acts.refl true _).retractOrder.brakeOrder
  dsimp only
  refine ⟨?_, ?_, brakeOrder_rests hdefer, fun hn hk => ?_⟩
  · rw [Sched.Ends.idle (unended_brakeOrder (b := b) _) (by rw [hretract, hin]), hretract, hsched]
  · rw [(ha.idle hin (by rw [hsched]; exact hq)).1, raiseFatal_completions hq]
  · rw [hcalm.state]
    exact r4 (by rw [hraise.state]; exact hn) (by rw [hpins]; exact hk)

/-- R107: loaded heads of a bay that asks for nothing are retracted and its platter braked. -/
theorem lost_loaded (hstill : Still b 0 s) (hl : (s.bay b).pos.state.loaded = true) (hk : (s.bay b).pins.park = false)
    (hr : (s.bay b).spin.state.regulated = true) (hi : (s.bay b).sched.inflight = none) (x : Cause) :
    let t := brakeOrder b (retractOrder b (raiseFatal b x s))
    (t.bay b).pos = (s.bay b).pos.retracting ∧ t.ledger.hold (.actuator b) = 0 ∧
      (t.bay b).spin.state = .braking ∧ (t.bay b).spin.purpose = some .stop ∧ (t.bay b).spin.drive = 0 ∧
      t.ledger.hold (.spindle b) = 0 := by
  have hturn : (s.bay b).spin.state.turning = true := by cases h : (s.bay b).spin.state <;> simp [h, SpinState.regulated, SpinState.turning] at hr ⊢
  have hpower : (s.bay b).spin.state ≠ .waitPower := fun e => by simp [e, SpinState.turning] at hturn
  dsimp only
  rw [raiseFatal_of_not_spinUp (inflightIs_none hi)]
  have hcart := faultHalt_sameButLamp x (closeWindow b s) b
  rw [closeWindow_cart] at hcart
  generalize hw : faultHalt b x (closeWindow b s) = w at hcart
  have wpos : (w.bay b).pos = (s.bay b).pos := by simp [← hw]
  have wspin : (w.bay b).spin = (s.bay b).spin := by simp [← hw]
  have wledger : w.ledger = s.ledger := by simp [← hw]
  have wpins : (w.bay b).pins = (s.bay b).pins := by rw [← hw]; exact (((Acts.refl true s).close.fault x).kept.bay b).pins
  have wwait : w.ledger.wait = [] := by rw [wledger]; exact hstill.wait
  have wreleased : (w.bay b).cart.state ≠ .releasePending := by rw [hcart.eqs.1]; exact hstill.released
  have wpulse : PulseOff b w := pulseOff_of_state (by rw [hcart.eqs.1]; exact hstill.ejecting)
  have horder : retractOrder b w = retractBegun b w := by
    have he : retractOrder b w = enterRetracting b w := by
      unfold retractOrder
      rw [wpos]
      cases hs : (s.bay b).pos.state <;> simp [hs, PosState.loaded] at hl ⊢
    rw [he, enterRetracting_begun, if_neg (by rw [retractBegun_pins, wpins, hk]; simp)]
  have hdrop : headsDropped b 0 Positioner.retracting w = (w.modPos b Positioner.retracting).setLedger (w.ledger.setHold (.actuator b) 0) := by
    rw [headsDropped, withdrawRequest_of_not_waits (Ledger.waits_of_nil (by simpa using wwait) _), lowerHolding_zero_of_nil (by simpa using wwait),
      State.modPos_ledger]
  rw [horder, retractBegun, hdrop]
  generalize hy : (w.modPos b Positioner.retracting).setLedger (w.ledger.setHold (.actuator b) 0) = y
  have ypos : (y.bay b).pos = (s.bay b).pos.retracting := by simp [← hy, wpos]
  have yspin : (y.bay b).spin = (s.bay b).spin := by simp [← hy, wspin]
  have ywait : y.ledger.wait = [] := by simp [← hy, wwait]
  have yhold : y.ledger.hold (.actuator b) = 0 := by simp [← hy]
  have ypulse : PulseOff b y := wpulse.congr (by simp [← hy, sameButLamp_refl])
  have yloaded : (y.bay b).pos.state.loaded = false := by rw [ypos]; rfl
  have ydefers : (y.bay b).pos.state.defersBrake = false := by rw [ypos]; rfl
  have yload : loadWaiting b y = false := loadWaiting_of_pos (by rw [ypos]; simp [Positioner.retracting])
  have hold : ((y.ledger.setHold (.spindle b) 0).hold (.actuator b)) = 0 := by rw [Ledger.setHold_hold_ne _ _ _ _ (by simp), yhold]
  by_cases hb : BrakeWaits b y
  · rw [posChanged_braked yloaded ydefers ywait yload ypulse hb, brakeOrder_resting (by simp [Spindle.braking, SpinState.resting])]
    simp [ypos, hold, Spindle.braking]
  · rw [posChanged_unbraked yloaded ypulse hb (by rw [yspin]; exact hpower), judgeLatch_of_not (by simpa [← hy] using wreleased),
      brakeOrder_turning (by simpa [yspin] using hturn) (by simpa using ydefers),
      enterBraking_eq (by simpa using ywait) ((loadWaiting_congr (by simp)).trans yload) (ypulse.congr (by simp [sameButLamp_refl]))]
    simp [ypos, hold, Spindle.braking]

/-! ### What becomes of a bay at a fall of PRES (R2, R17, R19) -/

theorem Still.lampUpdate {n : Nat} (h : Still b n s) : Still b n (lampUpdate b s) := h.of (Acts.refl true s).lamp (by simpa using h.wait) (by simp)

theorem Still.completeOp {n : Nat} (h : Still b n s) (o : OpOutcome) : Still b n (completeOp b o s) :=
  h.of ((Acts.refl true s).complete o) (by simpa [completeOp_ledger] using h.wait) (by simp [completeOp_ledger])

/-- R17: the departure behind a pulse. -/
theorem cartridgeLeaves_gone (hw : s.ledger.wait = []) :
    cartridgeLeaves b s = lampUpdate b (completeIf b OpKind.isEject .success (emptied b s)) ∧
      Acts b false (emptied b s) (cartridgeLeaves b s) ∧ Still b 0 (cartridgeLeaves b s) :=
  ⟨rfl, ((Acts.refl false _).completeIf _ _).lamp, ((emptied_still hw).completeIf _ _).lampUpdate⟩

/-- R19: the departure without one. -/
theorem presenceLoss_gone (hw : s.ledger.wait = []) : Acts b false (emptied b s) (presenceLoss b s) ∧ Still b 0 (presenceLoss b s) := by
  cases h : atRest b s
  · rw [presenceLoss_away h]
    exact ⟨((Acts.refl false _).raiseFatal _).retractOrder.brakeOrder, ((emptied_still hw).raiseFatal _).retractOrder.brakeOrder⟩
  · rw [presenceLoss_rest h]
    exact ⟨((Acts.refl false _).complete _).lamp, ((emptied_still hw).completeOp _).lampUpdate⟩

theorem presenceFall_gone (hw : s.ledger.wait = []) (he : (s.bay b).cart.state ≠ .empty) (hs : (s.bay b).cart.state ≠ .seating) :
    Acts b false (emptied b s) (presenceFall b s) ∧ Still b 0 (presenceFall b s) := by
  unfold presenceFall
  split
  · next h => exact absurd h he
  · next h => exact absurd h hs
  case h_5 =>
    split
    · exact presenceLoss_gone hw
    · exact (cartridgeLeaves_gone hw).2
  case h_6 => exact (cartridgeLeaves_gone hw).2
  all_goals exact presenceLoss_gone hw

end Sys2Proof.Machine
end

section
namespace Sys2Proof.Machine

variable {b : Bay} {m : Bool} {s t u v : State} {c : Consumer} {k : OpKind} {op : Op} {p : OpKind → Bool}

theorem inflightIs_isEject_of (h : (s.bay b).sched.inflight = some op) : inflightIs b OpKind.isEject s = decide (op.kind = .eject) := by
  rw [inflightIs_of h]
  cases op.kind <;> rfl

/-- R17: what the departure behind a pulse completes. -/
theorem cartridgeLeaves_spec (hw : s.ledger.wait = []) (hi : ∀ op, (s.bay b).sched.inflight = some op → op.kind = .eject)
    (hq : (s.bay b).sched.queue = []) :
    let t := cartridgeLeaves b s
    t.completions = recordedAll s.completions ((s.bay b).sched.inflight.toList.map fun op =>
        { tag := op.tag, bay := b, op := op.kind, outcome := .success, detail := none }) ∧
      (t.bay b).sched.inflight = none ∧ (t.bay b).spin = (s.bay b).spin ∧ (t.bay b).pos = (s.bay b).pos := by
  obtain ⟨-, hpos, hspin, -, hsched, -, hcomp, -⟩ := emptied_spec (b := b) hw
  have hrec : cancelRecords b (s.bay b) = [] := by rw [cancelRecords, hq]; rfl
  rw [hrec] at hcomp
  dsimp only
  rw [(cartridgeLeaves_gone hw).1]
  generalize emptied b s = e at hpos hspin hsched hcomp
  have hin : (e.bay b).sched.inflight = (s.bay b).sched.inflight := by rw [hsched]
  cases ho : (s.bay b).sched.inflight with
  | none =>
    rw [completeIf_of_not (inflightIs_none (hin.trans ho))]
    exact ⟨by simpa [lampUpdate] using hcomp, by simp [lampUpdate, hin, ho], by simp [hspin], by simp [hpos]⟩
  | some op =>
    have hk := hi op ho
    rw [completeIf_of_kind (p := OpKind.isEject) (hin.trans ho) (by rw [hk]; rfl)]
    refine ⟨?_, ?_, by simp [hspin], by simp [hpos]⟩
    · simp only [lampUpdate, State.modCart_completions]
      rw [completeOp_completions (hin.trans ho), hk, hcomp]
      simp [recordedAll, detailOf, hk]
    · simp only [lampUpdate, State.modCart_sched]
      rw [completeOp_sched, Sched.ended_inflight]

/-- R19: what the loss of a cartridge at rest completes. -/
theorem presenceLoss_rest_spec (hw : s.ledger.wait = []) (hr : atRest b s = true) :
    let t := presenceLoss b s
    (t.bay b).sched = { (s.bay b).sched with queue := [] }.ended ∧ (t.bay b).spin = (s.bay b).spin ∧ (t.bay b).pos = (s.bay b).pos ∧
      ∀ op, (s.bay b).sched.inflight = some op →
        t.completions = recordedAll s.completions (cancelRecords b (s.bay b) ++
          [{ tag := op.tag, bay := b, op := op.kind, outcome := if op.kind = .eject then .success else .cancelled,
             detail := if op.kind = .spinUp then some (s.bay b).spin.attempt else none }]) := by
  obtain ⟨-, hpos, hspin, -, hsched, -, hcomp, -⟩ := emptied_spec (b := b) hw
  dsimp only
  rw [presenceLoss_rest hr]
  generalize emptied b s = e at hpos hspin hsched hcomp
  refine ⟨?_, by simp [hspin], by simp [hpos], fun op ho => ?_⟩
  · simp only [lampUpdate, State.modCart_sched]
    rw [completeOp_sched, hsched]
  · have hin : (e.bay b).sched.inflight = some op := by rw [hsched]; exact ho
    simp only [lampUpdate, State.modCart_completions]
    rw [completeOp_completions hin, hcomp, recordedAll_append, inflightIs_isEject_of hin]
    by_cases hk : op.kind = .eject
    · simp [hk, recordedAll, detailOf]
    · simp [hk, recordedAll, detailOf_of_failed, hspin]

theorem presenceFall_leaves (h : (s.bay b).cart.state = .ejecting ∨ (s.bay b).cart.state = .releasePending ∧ 0 < (s.bay b).cart.pulseCount) :
    presenceFall b s = cartridgeLeaves b s := by
  rcases h with h | ⟨h, hn⟩
  · simp only [presenceFall, h]
  · simp only [presenceFall, h]
    rw [if_neg (by omega)]

theorem presenceFall_loss (h : (s.bay b).cart.state = .seated ∨ (s.bay b).cart.state = .jammed ∨
    (s.bay b).cart.state = .releasePending ∧ (s.bay b).cart.pulseCount = 0) : presenceFall b s = presenceLoss b s := by
  rcases h with h | h | ⟨h, hn⟩
  · simp only [presenceFall, h]
  · simp only [presenceFall, h]
  · simp only [presenceFall, h, hn, if_true]

/-- R2: a fall of PRES before the cartridge was seated. -/
theorem presFall_unseated (hset : Settled s) :
    let v := s.modPins b fun p => { p with pres := false }
    ((s.bay b).cart.state = .empty → settle (presenceFall b v) = v) ∧
      ((s.bay b).cart.state = .seating →
        settle (presenceFall b v) = v.modCart b fun c => { c with state := .empty, debounce := none }) := by
  refine ⟨fun h => ?_, fun h => ?_⟩
  · simp only [presenceFall, State.modPins_cart, h]
    exact hset.settle_pins _
  · have hlamp : LampAt b (s.modPins b fun p => { p with pres := false }) :=
      (show LampAt b s from hset.2.1 b).congr (by simp) (by simp) (by simp)
    simp only [presenceFall, State.modPins_cart, h]
    rw [changeCart_of_lampAt (lampAt_seating hlamp rfl (.inr (by simpa using h)) (.inl rfl))]
    refine hset.settle_eq (b := b) (by simp) (by simp) (by simp) ?_
    rw [permitDue_of_cart (by simp)]
    simpa using (hset.2.2.1 b).trans (permitDue_of_cart (by simp [h]) _)

/-- Settles O48: a fall of PRES returns from SEATING, succeeds behind a pulse, is quiet at rest, and else PRESENCE_LOST. -/
theorem departureOfTheCartridge : Obligations.DepartureOfTheCartridge := by
  refine ⟨fun b s hset _ hw hg => ⟨_, rfl, ?_⟩, fun b s op hset _ hw hg hi hc => ⟨_, rfl, ?_⟩⟩
  all_goals
    generalize hv : (s.modPins b fun p => { p with pres := false }) = v
    have vw : v.ledger.wait = [] := by simpa [← hv] using hw
    have vcart : (v.bay b).cart = (s.bay b).cart := by simp [← hv]
    have vpos : (v.bay b).pos = (s.bay b).pos := by simp [← hv]
    have vspin : (v.bay b).spin = (s.bay b).spin := by simp [← hv]
    have vsched : (v.bay b).sched = (s.bay b).sched := by simp [← hv]
    have vpins : (v.bay b).pins = { (s.bay b).pins with pres := false } := by simp [← hv]
    have vcomp : v.completions = s.completions := by simp [← hv]
    have vrest : atRest b v = atRest b s := atRest_congr (by rw [vpos]) (by rw [vspin])
    have vrecords : cancelRecords b (v.bay b) = cancelRecords b (s.bay b) := by simp [cancelRecords, vsched, vspin]
    have hgone := presenceFall_gone (b := b) vw
    rw [vcart] at hgone
    have hgone' : ∀ h1 h2, _ := fun h1 h2 => departed (u := presenceFall b v) hset hw hg (by rw [hv]; exact (hgone h1 h2).1) (hgone h1 h2).2
  · obtain ⟨hempty, hseating⟩ := presFall_unseated (b := b) hset
    rw [hv] at hempty hseating
    by_cases he : (s.bay b).cart.state = .empty
    · rw [hempty he]
      simp [he, vpins]
    by_cases hs : (s.bay b).cart.state = .seating
    · rw [hseating hs]
      simp [hs, vpins]
    obtain ⟨hsettle, hpins, hrest⟩ := hgone' he hs
    rw [hsettle]
    refine ⟨hpins, fun h => absurd h he, fun h => absurd h hs, fun _ _ => hrest, fun hl hop hq => ?_, fun hc hr hi => ?_, fun hc hl hk hr hi => ?_⟩
    · obtain ⟨l1, l2, l3, l4⟩ := cartridgeLeaves_spec (b := b) vw (by rw [vsched]; exact hop) (by rw [vsched]; exact hq)
      rw [presenceFall_leaves (by rw [vcart]; exact hl), judgeGate_completions, judgeGate_sched, judgeGate_spin, judgeGate_pos]
      rw [vcomp, vsched] at l1
      exact ⟨l1, l2, l3.trans vspin, l4.trans vpos⟩
    · obtain ⟨l1, l2, l3, -⟩ := presenceLoss_rest_spec (b := b) vw (vrest.trans hr)
      rw [presenceFall_loss (by rw [vcart]; exact .inl hc), judgeGate_sched, judgeGate_spin, judgeGate_pos, l1, l2, l3, vsched, vspin, vpos]
      exact ⟨by simp [Sched.ended, hi], rfl, rfl⟩
    · have haway : atRest b v = false := not_atRest_of_pos fun e => by rw [vpos] at e; simp [e, PosState.loaded] at hl
      obtain ⟨-, epos, espin, epins, esched, -⟩ := emptied_spec (b := b) vw
      rw [vpos] at epos
      rw [vspin] at espin
      rw [vsched] at esched
      have hstill := emptied_still (b := b) vw
      have hin : ((emptied b v).bay b).sched.inflight = none := by rw [esched]; exact hi
      obtain ⟨l1, l2, l3, l4, l5, l6⟩ := lost_loaded hstill (by rw [epos]; exact hl) (by rw [epins, vpins]; exact hk) (by rw [espin]; exact hr) hin .presenceLost
      obtain ⟨a1, -⟩ := lost_away (b := b) hstill.wait (by rw [esched]) .presenceLost
      rw [presenceFall_loss (by rw [vcart]; exact .inl hc), presenceLoss_away haway]
      simp only [judgeGate_sched, judgeGate_spin, judgeGate_pos, State.hold, judgeGate_ledger]
      rw [a1, l1, l2, l3, l4, l5, l6, esched]
      exact ⟨by simp [Sched.faulted, hi], rfl, rfl, rfl, rfl, rfl, rfl, rfl, rfl, rfl⟩
  · have he : (s.bay b).cart.state ≠ .empty := by rcases hc with h | h | ⟨h, -⟩ <;> simp [h]
    have hs : (s.bay b).cart.state ≠ .seating := by rcases hc with h | h | ⟨h, -⟩ <;> simp [h]
    obtain ⟨hsettle, -, g1, -, -, -, -, -, -, g2, g3, -⟩ := hgone' he hs
    rw [hsettle]
    refine ⟨g1, g2, g3, fun hr => ?_, fun hr => ?_⟩
    · obtain ⟨-, epos, espin, epins, esched, -, ecomp, -⟩ := emptied_spec (b := b) vw
      rw [vpos] at epos
      rw [vspin] at espin
      rw [vsched] at esched
      rw [vcomp, vrecords] at ecomp
      have hrec : faultRecords b ((emptied b v).bay b) .presenceLost = faultRecords b (s.bay b) .presenceLost := by simp [faultRecords, esched, espin]
      obtain ⟨a1, a2, a3, a4⟩ := lost_away (b := b) (emptied_still (b := b) vw).wait (by rw [esched]) .presenceLost
      rw [presenceFall_loss (by rw [vcart]; exact hc), presenceLoss_away (vrest.trans hr)]
      simp only [judgeGate_sched, judgeGate_spin, judgeGate_pos, judgeGate_completions]
      rw [a1, a2, esched, ecomp, hrec, recordedAll_append]
      exact ⟨rfl, rfl, fun hn hk => a4 (by rw [epos]; exact hn) (by rw [epins, vpins]; exact hk), .inr ((SpinState.resting_iff _).mp a3)⟩
    · obtain ⟨l1, -, -, l4⟩ := presenceLoss_rest_spec (b := b) vw (vrest.trans hr)
      have hrec := l4 op (by rw [vsched]; exact hi)
      rw [vcomp, vrecords, vspin] at hrec
      rw [presenceFall_loss (by rw [vcart]; exact hc), judgeGate_sched, judgeGate_completions, l1, hrec, vsched]
      exact ⟨by simp [Sched.ended, hi], rfl⟩

end Sys2Proof.Machine
end

section
namespace Sys2Proof.Machine

variable {b : Bay} {m : Bool} {s t u v w : State} {c : Consumer} {k : OpKind} {op : Op} {p : OpKind → Bool}

/-! ### A release by the button (R8 to R11, R18) -/

/-- The bay at the release request of a long press: the press is over, and an override has cleared prevent (R9). -/
def overridden (b : Bay) (s : State) : State :=
  if (s.bay b).cart.state = .seated && (s.bay b).cart.prevent then
    latchEvent (.button b) (s.modCart b fun c => { c with pressTimer := none, prevent := false })
  else s.modCart b fun c => { c with pressTimer := none }

/-- A release is asked of a bay in `w` as it stands in `s`: all but the words of its button and its override. -/
structure ReleaseAsked (b : Bay) (s w : State) : Prop where
  bay : w.bay b = { s.bay b with cart := (w.bay b).cart }
  state : (w.bay b).cart.state = (s.bay b).cart.state
  media : (w.bay b).cart.media = (s.bay b).cart.media
  other : w.bay b.other = s.bay b.other
  ledger : w.ledger = s.ledger
  completions : w.completions = s.completions
  supply : w.supply = s.supply

theorem releaseAsked_modCart {f : Cartridge → Cartridge} (hs : (f (s.bay b).cart).state = (s.bay b).cart.state)
    (hm : (f (s.bay b).cart).media = (s.bay b).cart.media) : ReleaseAsked b s (s.modCart b f) := by
  constructor <;> simp [hs, hm, State.modCart]

theorem ReleaseAsked.latchEvent (h : ReleaseAsked b s w) (x : LatchedClass) : ReleaseAsked b s (latchEvent x w) := by
  refine ⟨?_, ?_, ?_, ?_, ?_, ?_, ?_⟩
  · rw [latchEvent_bay]; exact h.bay
  · rw [latchEvent_bay, h.state]
  · rw [latchEvent_bay, h.media]
  · rw [latchEvent_bay, h.other]
  · rw [latchEvent_ledger, h.ledger]
  · rw [latchEvent_eq]; exact h.completions
  · rw [latchEvent_supply, h.supply]

/-- R9: what the override leaves. -/
theorem overridden_spec (b : Bay) (s : State) :
    ReleaseAsked b s (overridden b s) ∧
      ((overridden b s).bay b).cart.prevent = ((s.bay b).cart.prevent && !decide ((s.bay b).cart.state = .seated)) ∧
      (overridden b s).events.latched =
        if (s.bay b).cart.prevent = true ∧ (s.bay b).cart.state = .seated then
          s.events.latched ||| (if b = .A then 0x0020 else 0x0040)
        else s.events.latched := by
  unfold overridden
  split
  · next h =>
    obtain ⟨hs, hv⟩ : (s.bay b).cart.state = .seated ∧ (s.bay b).cart.prevent = true := by simpa using h
    refine ⟨(releaseAsked_modCart rfl rfl).latchEvent _, by simp [hs], ?_⟩
    rw [if_pos ⟨hv, hs⟩, latchEvent_eq, button_bit]
    dsimp only
    rw [State.modCart_events]
  · next h =>
    have h : ¬((s.bay b).cart.prevent = true ∧ (s.bay b).cart.state = .seated) := fun e => h (by simp [e.1, e.2])
    refine ⟨releaseAsked_modCart rfl rfl, ?_, by rw [if_neg h, State.modCart_events]⟩
    cases hv : (s.bay b).cart.prevent <;> simp_all

/-- A bay whose release has been accepted, before what is in flight is stopped and its mechanisms are ordered to rest. -/
structure ReleaseBegun (b : Bay) (s v : State) : Prop where
  ledger : v.ledger = s.ledger
  completions : v.completions = recordedAll s.completions (cancelRecords b (s.bay b))
  spin : (v.bay b).spin = (s.bay b).spin
  pos : (v.bay b).pos = (s.bay b).pos
  pins : (v.bay b).pins = (s.bay b).pins
  other : v.bay b.other = s.bay b.other
  supply : v.supply = s.supply
  state : (v.bay b).cart.state = .releasePending
  pulseCount : (v.bay b).cart.pulseCount = 0
  media : (v.bay b).cart.media = (s.bay b).cart.media
  sched : (v.bay b).sched = { (s.bay b).sched with queue := [] }
  window : (v.bay b).gate.window = false

theorem ReleaseAsked.begun (h : ReleaseAsked b s w) : ReleaseBegun b s (releasing b w) := by
  have hcart := releasing_cart b w
  have hk := releasing_kept b w
  have hsched : (w.bay b).sched = (s.bay b).sched := by rw [h.bay]
  have hspin : (w.bay b).spin = (s.bay b).spin := by rw [h.bay]
  exact {
    ledger := by rw [releasing_ledger, h.ledger]
    completions := by rw [releasing_completions, h.completions, cancelRecords, cancelRecords, hsched, hspin]
    spin := by rw [releasing_spin, hspin]
    pos := by rw [releasing_pos, h.bay]
    pins := by rw [(hk.bay b).pins, h.bay]
    other := by rw [releasing_bay_other, h.other]
    supply := by rw [hk.supply, h.supply]
    state := releasing_state b w
    pulseCount := hcart.eqs.2.2.2.2.2.1
    media := hcart.eqs.2.2.2.1.trans h.media
    sched := by rw [releasing_sched, hsched]
    window := releasing_window b w }

/-- The bay behind its release: what was in flight stopped, the mechanisms ordered to rest (R11, R12). -/
def released (b : Bay) (v : State) : State := orderToRest b (stopForRelease b v)

theorem acts_released (b : Bay) (v : State) : Acts b false v (released b v) := ((Acts.refl false v).stopForRelease).orderToRest

theorem requestRelease_released (h : (s.bay b).cart.state = .seated ∨ (s.bay b).cart.state = .jammed) :
    requestRelease b s = released b (releasing b s) := requestRelease_eq h

theorem exec_longPress (ht : (s.bay b).cart.pressTimer.isSome = true)
    (hc : (s.bay b).cart.state = .seated ∨ (s.bay b).cart.state = .jammed) :
    exec (.longPress b) s = .next (settle (released b (releasing b (overridden b s)))) := by
  have hstate : ((overridden b s).bay b).cart.state = .seated ∨ ((overridden b s).bay b).cart.state = .jammed := by
    rw [(overridden_spec b s).1.state]; exact hc
  rw [← requestRelease_released hstate]
  simp only [exec, execLongPress, ht, if_true, longPressAction, overridden, State.modCart_cart]
  split <;> simp [State.modCart]

/-- The end of an event that accepted a release: nothing queued, the window closed, nothing taken. -/
theorem ReleaseBegun.ends (h : ReleaseBegun b s v) (hset : Settled s) (ha : Acts b m v u) :
    settle u = judgeGates u ∧ (u.bay b).sched.queue = [] ∧ (u.bay b).gate.window = false ∧
      (u.bay b).cart.media = (s.bay b).cart.media := by
  have hq : (u.bay b).sched.queue = [] := by
    rcases ha.sched_acted.queue with e | e
    · rw [e, h.sched]
    · exact e
  have ho : (u.bay b.other).sched = (s.bay b.other).sched := ha.other_kept.1.trans (by rw [h.other])
  exact ⟨settle_of_takingsDone (hset.2.2.2.ofOther ho fun _ => hq), hq, ha.window_closed b h.window,
    (ha.kept.bay b).media.trans h.media⟩

end Sys2Proof.Machine
end

section
namespace Sys2Proof.Machine

variable {b : Bay} {m : Bool} {s t u v w : State} {c : Consumer} {k : OpKind} {op : Op} {p : OpKind → Bool}

/-! ### The heads at a release (R12) -/

theorem headsOff_of_spin (hl : (s.bay b).pos.state.loaded = false) (hs : (s.bay b).spin.state ≠ .locked) : HeadsOff b s := ⟨hl, fun _ => hs⟩

theorem headsOff_of_pos (hl : (s.bay b).pos.state.loaded = false) (hp : (s.bay b).pos.state ≠ .parked) : HeadsOff b s :=
  ⟨hl, fun hw => by rw [loadWaiting_of_pos hp] at hw; cases hw⟩

/-- R37, R94: a brake order leaves heads that are off the platter where they are. -/
theorem brakeOrder_pos_state (hl : (s.bay b).pos.state.loaded = false) : ((brakeOrder b s).bay b).pos.state = (s.bay b).pos.state := by
  have braked : ((enterBraking b .stop s).bay b).pos.state = (s.bay b).pos.state := by
    have hs : ((lowerHolding (.spindle b) 0 (s.modSpin b (Spindle.braking .stop))).bay b).spin.state = .braking := by
      rw [lowerHolding_spin (b := b) (.spindle b) 0 (by simp [Spindle.braking])]
      simp [Spindle.braking]
    have hc := (Calm.refl (b := b) (s := s.modSpin b (Spindle.braking .stop))
      (.inr (headsOff_of_spin (by simpa using hl) (by simp [Spindle.braking])))).lower (c := .spindle b) 0 (by simp)
    exact (hc.spindleChanged (by rw [hs]; rfl)).state.trans (by simp)
  unfold brakeOrder
  split
  case h_4 hw => exact ((Calm.refl (.inr (headsOff_of_spin hl (by rw [hw]; simp)))).abandonPower).state
  case h_5 | h_6 | h_7 | h_8 | h_9 =>
    split
    · simp
    · exact braked
  all_goals rfl

/-- R12: a bay ordered to rest has no loaded heads. -/
theorem orderToRest_unloaded (b : Bay) (s : State) : ((orderToRest b s).bay b).pos.state.loaded = false := by
  unfold orderToRest
  dsimp only
  generalize hv : (if (s.bay b).pos.state.loaded then unloadOrder b s else s) = v
  have hl : (v.bay b).pos.state.loaded = false := by
    rw [← hv]
    split
    · next h => exact (unloadOrder_homeward (fun e => by simp [e, PosState.loaded] at h)).1.headsOff.1
    · next h => simpa using h
  split
  · next h =>
    have hd : (v.bay b).pos.state.defersBrake = false := by simp at h; exact h.2
    have hp := brakeOrder_pos_state hl
    have hs := (SpinState.resting_not (brakeOrder_rests hd)).2.1
    rw [((Calm.refl (.inr (headsOff_of_spin (by rw [hp]; exact hl) hs))).judgeLatch).state, hp]
    exact hl
  · next h =>
    have hoff : HeadsOff b v := by
      by_cases hs : (v.bay b).spin.state = .stopped
      · exact headsOff_of_spin hl (by simp [hs])
      · refine headsOff_of_pos hl fun e => h ?_
        simp [hs, e, PosState.defersBrake, PosState.loaded]
    rw [((Calm.refl (.inr hoff)).judgeLatch).state]
    exact hl

/-! #### Heads on their way, whoever waits for power -/

/-- A grant gives a bay whose heads are off the platter and away from PARKED no pulse. -/
theorem tellGrant_cart_away (g : Grant) (hp : (s.bay b).pos.state ≠ .parked) : ((tellGrant s g).bay b).cart = (s.bay b).cart := by
  rcases g with ⟨d | d | d, n⟩
  · simp [tellGrant]
  · simp [tellGrant]
  · rcases Bay.cases_eq d b with rfl | rfl
    · simp [tellGrant, startPulse, not_atRest_of_pos hp]
    · simp [tellGrant]

theorem tellGrants_cart_away (gs : List Grant) (hl : (s.bay b).pos.state.loaded = false) (hp : (s.bay b).pos.state ≠ .parked) :
    ((tellGrants gs s).bay b).cart = (s.bay b).cart := by
  unfold tellGrants
  induction gs generalizing s with
  | nil => rfl
  | cons g gs ih =>
    have hs : ((tellGrant s g).bay b).pos.state = (s.bay b).pos.state := by rw [(tellGrant_heads g fun _ => headsOff_of_pos hl hp).1]
    exact (ih (by rw [hs]; exact hl) (by rw [hs]; exact hp)).trans (tellGrant_cart_away g hp)

/-- The heads of `t` are on their way to PARKED, over the spindle and under the cartridge of `s`. -/
structure UnloadingUnder (b : Bay) (s t : State) : Prop where
  pos : (t.bay b).pos.state = .unloading
  cart : (t.bay b).cart = (s.bay b).cart
  spin : (s.bay b).spin.SameButSpeedLost (t.bay b).spin

namespace UnloadingUnder

variable (hw : (s.bay b).spin.state ≠ .waitPower)
include hw

theorem grants (h : UnloadingUnder b s t) (l : Ledger) (gs : List Grant) : UnloadingUnder b s (tellGrants gs (t.setLedger l)) := by
  have hl : ((t.setLedger l).bay b).pos.state.loaded = false := by rw [State.setLedger_bay, h.pos]; rfl
  have hp : ((t.setLedger l).bay b).pos.state ≠ .parked := by rw [State.setLedger_bay, h.pos]; simp
  refine ⟨?_, ?_, ?_⟩
  · rw [(tellGrants_heads gs fun _ _ _ => headsOff_of_pos hl hp).1, State.setLedger_bay]; exact h.pos
  · rw [tellGrants_cart_away gs hl hp, State.setLedger_bay, h.cart]
  · have := tellGrants_spin (s := t.setLedger l) (b := b) gs (by rw [State.setLedger_bay, h.spin]; exact hw)
    rw [State.setLedger_bay] at this
    exact h.spin.trans this

theorem lower (h : UnloadingUnder b s t) (c : Consumer) (n : Nat) : UnloadingUnder b s (lowerHolding c n t) := h.grants hw _ _

theorem withdraw (h : UnloadingUnder b s t) (c : Consumer) : UnloadingUnder b s (withdrawRequest c t) := h.grants hw _ _

theorem judgeLatch (h : UnloadingUnder b s t) : UnloadingUnder b s (judgeLatch b t) := by
  unfold Machine.judgeLatch
  rw [not_atRest_of_pos (by rw [h.pos]; simp)]
  split
  · exact h.withdraw hw _
  · exact h

theorem posChanged (h : UnloadingUnder b s t) (hc : PulseOff b s) : UnloadingUnder b s (posChanged b t) := by
  have hoff : (t.bay b).pos.state.loaded = false := by rw [h.pos]; rfl
  have h1 : UnloadingUnder b s (headsOff b t) :=
    ⟨by rw [headsOff_pos, h.pos], by rw [headsOff_cart, h.cart], h.spin.trans (by rw [headsOff_spin]; rfl)⟩
  rw [posChanged_eq, speedLostUpdate_reported hoff, brakesDue_deferred (by rw [headsOff_pos, h.pos]; rfl),
    cutPulse_of_not (hc.congr (by rw [h1.cart]; exact sameButLamp_refl _))]
  exact h1.judgeLatch hw

/-- R103, R104: the unloading begins. -/
theorem begun (hc : PulseOff b s) : UnloadingUnder b s (unloadBegun b s) := by
  have h0 : UnloadingUnder b s (s.modPos b fun q => { Positioner.unloading q with pending := .none }) :=
    ⟨by simp [Positioner.unloading], by simp, by simp [Spindle.SameButSpeedLost]⟩
  exact ((h0.withdraw hw _).lower hw _ _).posChanged hw hc

end UnloadingUnder

/-- R12: loaded heads over a regulated spindle are unloaded, whoever waits for power. -/
theorem orderToRest_unloads (hl : (s.bay b).pos.state.loaded = true) (hk : (s.bay b).pins.park = false)
    (hr : (s.bay b).spin.state.regulated = true) (hc : (s.bay b).cart.state = .releasePending) :
    let t := orderToRest b s
    (t.bay b).cart.state = .releasePending ∧ (t.bay b).pos = (s.bay b).pos.unloading ∧ (t.bay b).spin.state = (s.bay b).spin.state := by
  have hw : (s.bay b).spin.state ≠ .waitPower := fun e => by simp [e, SpinState.regulated] at hr
  have hu := UnloadingUnder.begun hw (pulseOff_of_state (b := b) (by simp [hc]))
  obtain ⟨hpos, hact⟩ := unloadBegun_heads b s
  have hcalm := (Calm.refl (b := b) (.inl hact)).judgeLatch
  obtain ⟨hexact, -⟩ := hcalm.exact hact (loadWaiting_of_pos (by rw [hu.pos]; simp))
  have he : orderToRest b s = judgeLatch b (unloadBegun b s) := by
    simp only [orderToRest, hl, if_true, unloadOrder, enterUnloading_unparked hk]
    rw [if_neg (by simp [hu.pos, PosState.defersBrake])]
  have hj := hu.judgeLatch hw
  dsimp only
  rw [he]
  exact ⟨by rw [hj.cart]; exact hc, hexact.trans hpos, by rw [hj.spin]⟩

end Sys2Proof.Machine
end

section
namespace Sys2Proof.Machine

variable {b : Bay} {m : Bool} {s t u v w : State} {c : Consumer} {k : OpKind} {op : Op} {p : OpKind → Bool}

/-! ### The button with nothing in flight (R8 to R15, R18) -/

/-- R11: with nothing in flight nothing is stopped. -/
theorem ReleaseBegun.released_idle (h : ReleaseBegun b s v) (hi : (s.bay b).sched.inflight = none) : released b v = orderToRest b v := by
  have hv : (v.bay b).sched.inflight = none := by rw [h.sched, hi]
  rw [released, stopForRelease_idle (inflightIs_none hv) (inflightIs_none hv) (inflightIs_none hv)]

/-- R13 to R15: a release at rest whose 120 fits begins its pulse. -/
theorem ReleaseBegun.pulses (h : ReleaseBegun b s v) (hr : atRest b s = true) (hc : 120 ≤ s.ledger.capacity) (hw : s.ledger.wait = [])
    (hf : s.ledger.sum - s.ledger.hold (.latch b) + 120 ≤ s.ledger.effective) :
    let t := orderToRest b v
    t.ledger = s.ledger.setHold (.latch b) 120 ∧ (t.bay b).cart.state = .ejecting ∧ (t.bay b).cart.phase = some .pulse ∧
      (t.bay b).cart.latch = true ∧ (t.bay b).cart.pulseCount = 1 ∧ (t.bay b).spin = (s.bay b).spin ∧
      (t.bay b).pos = (s.bay b).pos ∧ t.bay b.other = s.bay b.other := by
  have hvr : atRest b v = true := (atRest_congr (by rw [h.pos]) (by rw [h.spin])).trans hr
  have hvw : v.ledger.waits (.latch b) = false := by rw [h.ledger]; exact Ledger.waits_of_nil hw _
  obtain ⟨hask, hspin, hpos, hother, -⟩ := judgeLatch_asks h.state hvr hvw
  rw [h.ledger, h.pulseCount, LatchAsked, if_neg (by omega), if_pos ⟨hw, hf⟩] at hask
  obtain ⟨a1, a2, a3, a4, a5, -⟩ := hask
  dsimp only
  rw [orderToRest_rest hvr]
  exact ⟨a1, a2, a3, a4, a5, hspin.trans h.spin, hpos.trans h.pos, hother.trans h.other⟩

/-- WGATE at rest, no write fault comes of an event (R120). -/
theorem judgeGate_events (hg : (u.bay b).pins.wgate = false) : (judgeGate b u).events = u.events := by
  rw [judgeGate_of_no_fault (.inr (.inr hg)), State.modGate_events]

/-- R9 to R15: a long press with nothing in flight. -/
theorem longPress_idle (hset : Settled s) (hc : (s.bay b).cart.state = .seated ∨ (s.bay b).cart.state = .jammed)
    (hi : (s.bay b).sched.inflight = none) (hg : (s.bay b).pins.wgate = false) (ht : (s.bay b).cart.pressTimer.isSome = true) :
    After (exec (.longPress b) s) fun t =>
      (t.bay b).cart.prevent = ((s.bay b).cart.prevent && decide ((s.bay b).cart.state = .jammed)) ∧
      (t.bay b).cart.media = (s.bay b).cart.media ∧ (t.bay b).sched.queue = [] ∧
      (t.bay b).gate.window = false ∧ (t.bay b).pos.state.loaded = false ∧ (t.bay b).sched.inflight = none ∧
      t.completions = recordedAll s.completions (cancelRecords b (s.bay b)) ∧
      (s.ledger.wait = [] →
        t.events.latched =
          (if (s.bay b).cart.prevent = true ∧ (s.bay b).cart.state = .seated then
            s.events.latched ||| (if b = .A then 0x0020 else 0x0040)
          else s.events.latched)) ∧
      ((s.bay b).pos.state.loaded = true → (s.bay b).pins.park = false → (s.bay b).spin.state.regulated = true →
        (t.bay b).cart.state = .releasePending ∧ (t.bay b).pos.state = .unloading ∧ (t.bay b).pos.act = -25 ∧
          (t.bay b).spin.state = (s.bay b).spin.state) ∧
      (atRest b s = true → 120 ≤ s.ledger.capacity → s.ledger.wait = [] →
        s.ledger.sum - s.hold (.latch b) + 120 ≤ s.ledger.effective →
        (t.bay b).cart.state = .ejecting ∧ (t.bay b).cart.latch = true ∧ (t.bay b).cart.pulseCount = 1) := by
  obtain ⟨hasked, hprevent, hevents⟩ := overridden_spec b s
  have h := hasked.begun
  have hkept := (releasing_kept b (overridden b s)).trans (acts_released b (releasing b (overridden b s))).kept
  have hacts := acts_released b (releasing b (overridden b s))
  refine ⟨_, exec_longPress ht hc, ?_⟩
  generalize releasing b (overridden b s) = v at h hkept hacts ⊢
  obtain ⟨hsettle, hq, hwin, hmedia⟩ := h.ends hset hacts
  have hidle := h.released_idle hi
  obtain ⟨hcomp, hin, -⟩ := hacts.idle (by rw [h.sched, hi]) (by rw [h.sched])
  rw [hsettle]
  simp only [judgeGates_cart, judgeGates_sched, judgeGates_pos, judgeGates_spin, judgeGates_completions]
  refine ⟨?_, hmedia, hq, judgeGates_window b _ hwin, ?_, hin, hcomp.trans h.completions, fun hw => ?_, fun hl hk hr => ?_, fun hr hb hw hf => ?_⟩
  · rw [(hkept.bay b).prevent, hprevent]
    rcases hc with e | e <;> simp [e]
  · rw [hidle]; exact orderToRest_unloaded b v
  · have ho := (hacts.other_bay (Ledger.waitsOf_nil (by rw [h.ledger]; exact hw) b)).1.trans h.other
    rw [judgeGates_own hset.2.2.1 ho (by rw [hacts.kept.supply, h.supply]),
      judgeGate_events (by rw [(hacts.kept.bay b).pins, h.pins]; exact hg), hkept.events, hevents]
  · obtain ⟨e1, e2, e3⟩ := orderToRest_unloads (b := b) (s := v) (by rw [h.pos]; exact hl) (by rw [h.pins]; exact hk)
      (by rw [h.spin]; exact hr) h.state
    rw [hidle, e1, e2, e3, h.spin]
    exact ⟨rfl, rfl, rfl, rfl⟩
  · obtain ⟨-, e1, -, e2, e3, -⟩ := h.pulses hr hb hw hf
    rw [hidle]
    exact ⟨e1, e2, e3⟩

/-- R8, R13 to R15: a short press at rest with nothing in flight. -/
theorem shortPress_idle (hset : Settled s) (hc : (s.bay b).cart.state = .seated ∨ (s.bay b).cart.state = .jammed)
    (hi : (s.bay b).sched.inflight = none) (hv : (s.bay b).cart.prevent = false ∨ (s.bay b).cart.state = .jammed)
    (ht : (s.bay b).cart.levelTimer.isSome = true) (hp : (s.bay b).cart.pressed = true) (hx : (s.bay b).cart.pressTimer.isSome = true)
    (hr : atRest b s = true) (hb : 120 ≤ s.ledger.capacity) (hw : s.ledger.wait = [])
    (hf : s.ledger.sum - s.ledger.hold (.latch b) + 120 ≤ s.ledger.effective) :
    After (exec (.buttonLevelExpiry b) s) fun t =>
      (t.bay b).cart.state = .ejecting ∧ (t.bay b).cart.phase = some .pulse ∧ (t.bay b).cart.latch = true ∧
      (t.bay b).cart.pulseCount = 1 ∧ t.ledger = s.ledger.setHold (.latch b) 120 ∧ (t.bay b).sched.queue = [] ∧
      (t.bay b).spin = (s.bay b).spin ∧ (t.bay b).pos = (s.bay b).pos ∧ t.bay b.other = s.bay b.other := by
  have hasked : ReleaseAsked b s (s.modCart b fun c => { c with levelTimer := none, pressed := false, pressTimer := none }) :=
    releaseAsked_modCart rfl rfl
  have hfree : ¬(((s.bay b).cart.state = .seated && (s.bay b).cart.prevent) = true) := by
    rcases hv with e | e <;> simp [e]
  refine ⟨_, exec_buttonLevelExpiry_short ht hp hx, ?_⟩
  rw [shortPress, if_neg (by simpa using hfree), requestRelease_released (by rw [hasked.state]; exact hc)]
  have h := hasked.begun
  generalize releasing b _ = v at h ⊢
  obtain ⟨hsettle, hq, -⟩ := h.ends hset (acts_released b v)
  rw [hsettle]
  simp only [judgeGates_cart, judgeGates_sched, judgeGates_pos, judgeGates_spin, judgeGates_ledger]
  obtain ⟨e1, e2, e3, e4, e5, e6, e7, e8⟩ := h.pulses hr hb hw hf
  rw [← h.released_idle hi] at e1 e2 e3 e4 e5 e6 e7 e8
  refine ⟨e2, e3, e4, e5, e1, hq, e6, e7, ?_⟩
  rw [judgeGates_own hset.2.2.1 e8 (by rw [(acts_released b v).kept.supply, h.supply]), judgeGate_bay_other, e8]

end Sys2Proof.Machine
end

section
namespace Sys2Proof.Machine

variable {b : Bay} {m : Bool} {s t u v w : State} {c : Consumer} {k : OpKind} {op : Op} {p : OpKind → Bool}

/-! ### The button with an operation in flight (R11, R43, R109) -/

theorem longPress_begun (hc : (s.bay b).cart.state = .seated ∨ (s.bay b).cart.state = .jammed) (ht : (s.bay b).cart.pressTimer.isSome = true) :
    ∃ v, ReleaseBegun b s v ∧ exec (.longPress b) s = .next (settle (released b v)) :=
  ⟨_, (overridden_spec b s).1.begun, exec_longPress ht hc⟩

/-- R103, R109: loaded heads under an operation of theirs are unloaded in its place. -/
theorem released_loaded (hi : (v.bay b).sched.inflight = some op) (ho : op.kind = .loadHeads ∨ op.kind.isSeek = true ∨ op.kind = .unloadHeads)
    (hl : (v.bay b).pos.state.loaded = true) (hw : v.ledger.wait = []) (hk : (v.bay b).pins.park = false) (hp : PulseOff b v) :
    released b v = headsOff b ((v.modPos b Positioner.unloading).setLedger
      (if 60 < v.ledger.hold (.actuator b) then v.ledger.setHold (.actuator b) 60 else v.ledger)) := by
  generalize he : headsOff b ((v.modPos b Positioner.unloading).setLedger
    (if 60 < v.ledger.hold (.actuator b) then v.ledger.setHold (.actuator b) 60 else v.ledger)) = e
  have hunload : unloadOrder b v = e := by rw [unloadOrder, if_pos hl, enterUnloading_eq hw hk hp, he]
  have hrest : orderToRest b v = e := by rw [orderToRest_loaded hl hw hk hp, he]
  have hepos : (e.bay b).pos.state = .unloading := by rw [← he]; simp [Positioner.unloading]
  have hewait : e.ledger.wait = [] := by
    rw [← he, headsOff_ledger, State.setLedger_ledger]
    split <;> simp [hw]
  have hagain : orderToRest b e = e :=
    orderToRest_deferred (by rw [hepos]; rfl) (by rw [hepos]; rfl) (Ledger.waits_of_nil hewait _)
  have hparked : (v.bay b).pos.state ≠ .parked := fun e => by simp [e, PosState.loaded] at hl
  have hstop : stopByUnload b v = v ∨ stopByUnload b v = e := by
    unfold stopByUnload stopLoad
    rw [loadWaiting_of_pos hparked]
    split
    · split
      · next h => cases h
      · split
        · exact .inr hunload
        · exact .inl rfl
    · split
      · exact .inr hunload
      · exact .inl rfl
  have hnot : inflightIs b OpKind.isSpinUp v = false := by
    rw [inflightIs_of hi]
    rcases ho with h | h | h
    · rw [h]; rfl
    · cases hk : op.kind <;> simp [hk, OpKind.isSeek, OpKind.isSpinUp] at h ⊢
    · rw [h]; rfl
  rw [released, stopForRelease, cancelSpinUp_of_not hnot]
  rcases hstop with h | h
  · rw [h, hrest]
  · rw [h, hagain]

/-- R94, R103: the end of a load wait, where nobody waits. -/
theorem endLoadWait_eq (hl : loadWaiting b s = true) (hw : s.ledger.wait = []) :
    endLoadWait b s =
      (s.modPos b fun q => { q with pending := .none, loadWait := none }).setLedger (s.ledger.setHold (.actuator b) 0) := by
  rw [endLoadWait, if_pos hl, withdrawRequest_of_not_waits (Ledger.waits_of_nil (by simpa using hw) _),
    lowerHolding_zero_of_nil (by simpa using hw), State.modPos_ledger]

/-- R109: a load wait in flight ends CANCELLED, and the platter is braked. -/
theorem released_loadWait (hi : (v.bay b).sched.inflight = some op) (ho : op.kind = .loadHeads) (hl : loadWaiting b v = true)
    (hr : (v.bay b).spin.state.regulated = true) (hw : v.ledger.wait = []) (hc : (v.bay b).cart.state = .releasePending) :
    let t := released b v
    (t.bay b).cart.state = .releasePending ∧ (t.bay b).pos.pending = .none ∧ (t.bay b).pos.loadWait = none ∧
      t.hold (.actuator b) = 0 ∧ (t.bay b).spin.state = .braking ∧ (t.bay b).spin.purpose = some .stop ∧
      (t.bay b).sched.inflight = none ∧ t.completions = recorded v.completions ⟨op.tag, b, .loadHeads, .cancelled, none⟩ := by
  have hpark := (loadWaiting_iff.mp hl).1
  have hturn : (v.bay b).spin.state.turning = true := by cases hs : (v.bay b).spin.state <;> simp [hs, SpinState.regulated, SpinState.turning] at hr ⊢
  generalize hx : completeOp b .cancelled (endLoadWait b v) = x
  have hstop : stopForRelease b v = x := by
    rw [stopForRelease, cancelSpinUp_of_not (by rw [inflightIs_of hi, ho]; rfl), stopByUnload, if_pos (by rw [inflightIs_of hi, ho]; rfl),
      stopLoad, if_pos hl, completeIf_of_kind (by rw [endLoadWait_sched]; exact hi) (by rw [ho]; rfl), hx]
  have xpos : (x.bay b).pos = { (v.bay b).pos with pending := .none, loadWait := none } := by rw [← hx, endLoadWait_eq hl hw]; simp
  have xspin : (x.bay b).spin = (v.bay b).spin := by rw [← hx, endLoadWait_eq hl hw]; simp
  have xledger : x.ledger = v.ledger.setHold (.actuator b) 0 := by rw [← hx, endLoadWait_eq hl hw]; simp
  have xcart : (x.bay b).cart.state = .releasePending := by rw [← hx, endLoadWait_eq hl hw]; simpa using hc
  have xin : (x.bay b).sched.inflight = none := by rw [← hx, completeOp_sched, Sched.ended_inflight]
  have xcomp : x.completions = recorded v.completions ⟨op.tag, b, .loadHeads, .cancelled, none⟩ := by
    rw [← hx, completeOp_completions (op := op) (by rw [endLoadWait_sched]; exact hi), endLoadWait_completions, ho]
    rfl
  have he := orderToRest_turning (b := b) (s := x) (by rw [xpos]; simp [hpark, PosState.defersBrake, PosState.loaded]) (by rw [xspin]; exact hturn)
    (by rw [xledger]; simpa using hw) (loadWaiting_of_pending (by rw [xpos]; simp)) (pulseOff_of_state (by simp [xcart]))
  dsimp only
  rw [released, hstop, he]
  simp [xcart, xpos, xin, xcomp, xledger, Spindle.braking, State.hold, Ledger.setHold_hold_ne]

/-- The operation in flight in a bay where only its spindle has been stopped goes on. -/
theorem stopByUnload_of_spin (hi : (u.bay b).sched.inflight = some op) (ho : op.kind = .spinUp) : stopByUnload b u = u :=
  stopByUnload_of_not (by rw [inflightIs_of hi, ho]; rfl) (by rw [inflightIs_of hi, ho]; rfl)

/-- R43: a SPIN UP that is being driven is braked under purpose STOP, and stays in flight. -/
theorem released_driven (hi : (v.bay b).sched.inflight = some op) (ho : op.kind = .spinUp) (hp : (v.bay b).pos.pending ≠ .load)
    (hd : (v.bay b).pos.state.defersBrake = false) (hw : v.ledger.wait = []) (hc : PulseOff b v)
    (hs : (v.bay b).spin.state = .aligning ∨ (v.bay b).spin.state = .ramping ∨ (v.bay b).spin.state = .locking) :
    released b v = (v.modSpin b (Spindle.braking .stop)).setLedger (v.ledger.setHold (.spindle b) 0) := by
  have hcancel : cancelSpinUp b v = enterBraking b .stop v := by
    rw [cancelSpinUp, if_pos (by rw [inflightIs_of hi, ho]; rfl)]
    unfold cancelOnSpindle
    rcases hs with e | e | e <;> rw [e] <;> rfl
  rw [released, stopForRelease, hcancel, enterBraking_eq hw (loadWaiting_of_pending hp) hc]
  generalize he : (v.modSpin b (Spindle.braking .stop)).setLedger (v.ledger.setHold (.spindle b) 0) = e
  have espin : (e.bay b).spin.state = .braking := by rw [← he]; simp [Spindle.braking]
  have epos : (e.bay b).pos = (v.bay b).pos := by rw [← he]; simp
  rw [stopByUnload_of_spin (op := op) (by rw [← he]; simpa using hi) ho]
  exact orderToRest_still (by rw [epos]; exact hd) (by rw [espin]; rfl) (by simp [espin]) (not_atRest_of_spin (by simp [espin]))
    (Ledger.waits_of_nil (by rw [← he]; simpa using hw) _)

/-- R38, R43: a SPIN UP in BRAKING brakes on under purpose STOP or OVERCURRENT, and stays in flight. -/
theorem released_braking (hi : (v.bay b).sched.inflight = some op) (ho : op.kind = .spinUp)
    (hd : (v.bay b).pos.state.defersBrake = false) (hw : v.ledger.wait = []) (hs : (v.bay b).spin.state = .braking) :
    released b v = mergeStop b v := by
  have hcancel : cancelSpinUp b v = mergeStop b v := by
    rw [cancelSpinUp, if_pos (by rw [inflightIs_of hi, ho]; rfl)]
    unfold cancelOnSpindle
    rw [hs]
    rfl
  rw [released, stopForRelease, hcancel, stopByUnload_of_spin (op := op) (by simpa [mergeStop] using hi) ho]
  exact orderToRest_still (by simpa [mergeStop] using hd) (by simp [mergeStop, hs, SpinState.turning]) (by simp [mergeStop, hs])
    (not_atRest_of_spin (by simp [mergeStop, hs])) (Ledger.waits_of_nil (by simpa [mergeStop] using hw) _)

/-- R11: a SPIN DOWN runs on. -/
theorem released_spinDown (hi : (v.bay b).sched.inflight = some op) (ho : op.kind = .spinDown) (hl : (v.bay b).pos.state.loaded = false)
    (hw : v.ledger.wait = []) (hs : (v.bay b).spin.state = .braking) : released b v = v := by
  have hnil := Ledger.waits_of_nil hw (.latch b)
  rw [released, stopForRelease_idle (by rw [inflightIs_of hi, ho]; rfl) (by rw [inflightIs_of hi, ho]; rfl) (by rw [inflightIs_of hi, ho]; rfl)]
  cases hd : (v.bay b).pos.state.defersBrake
  · exact orderToRest_still hd (by rw [hs]; rfl) (by simp [hs]) (not_atRest_of_spin (by simp [hs])) hnil
  · exact orderToRest_deferred hl hd hnil

end Sys2Proof.Machine
end

section
namespace Sys2Proof.Machine

variable {b : Bay} {m : Bool} {s t u v w : State} {c : Consumer} {k : OpKind} {op : Op} {p : OpKind → Bool}

/-! ### The button over a SPIN UP that waits for power (R14, R31, R43) -/

/-- A cartridge whose latch is granted nothing stays. -/
theorem tellGrants_cart_of_ne (gs : List Grant) (h : ∀ g ∈ gs, g.1 ≠ .latch b) : ((tellGrants gs s).bay b).cart = (s.bay b).cart := by
  unfold tellGrants
  induction gs generalizing s with
  | nil => rfl
  | cons g gs ih =>
    simp only [List.forall_mem_cons] at h
    refine (ih h.2).trans ?_
    rcases g with ⟨d | d | d, n⟩
    · simp [tellGrant]
    · simp [tellGrant]
    · rcases Bay.cases_eq d b with rfl | rfl
      · exact absurd rfl h.1
      · simp [tellGrant]

/-- The only request of the wait list, withdrawn. -/
theorem Ledger.withdraw_only {l : Ledger} {r : Req} (h : l.wait = [⟨c, r⟩]) : (l.withdraw c).1 = { l with wait := [] } := by
  simp [Ledger.withdraw, Ledger.waits, h, Ledger.reexamine, Ledger.grantHeads]

/-- R31: a spindle gives up its wait for power over PARKED heads, the latch of its bay not waiting. -/
theorem withdrawSpindle_parked (hpark : (s.bay b).pos.state = .parked) (hp : (s.bay b).pos.pending ≠ .load)
    (hl : s.ledger.waits (.latch b) = false) :
    let y := withdrawRequest (.spindle b) s
    (y.bay b).pos.state = .parked ∧ (y.bay b).pos.pending ≠ .load ∧ (y.bay b).cart = (s.bay b).cart ∧
      y.ledger = (s.ledger.withdraw (.spindle b)).1 ∧ y.ledger.waits (.spindle b) = false ∧ y.ledger.waits (.latch b) = false ∧
      y.ledger.capacity = s.ledger.capacity := by
  obtain ⟨hown, -, hspin⟩ := s.ledger.withdraw_own (.spindle b)
  have hevent := Ledger.event_withdraw (.spindle b) (.spindle b) s.ledger
  have hlatch : ∀ g ∈ (s.ledger.withdraw (.spindle b)).2, g.1 ≠ .latch b := fun g hg e => by
    rcases hevent.told g hg with h | h
    · exact hown g hg h
    · rw [e, hl] at h; cases h
  have hoff : HeadsOff b (s.setLedger (s.ledger.withdraw (.spindle b)).1) :=
    ⟨by rw [State.setLedger_bay, hpark]; rfl, fun h => absurd (loadWaiting_iff.mp h).2 (by rw [State.setLedger_bay]; exact hp)⟩
  have hpos := (tellGrants_heads (s.ledger.withdraw (.spindle b)).2 fun _ _ _ => hoff).1
  dsimp only
  unfold withdrawRequest
  rw [tellGrants_ledger, State.setLedger_ledger]
  refine ⟨?_, ?_, ?_, rfl, hspin, (hevent.kept _ (by simp) hl).2, hevent.capacity⟩
  · rw [hpos, State.setLedger_bay]; exact hpark
  · rw [hpos, State.setLedger_bay]; exact hp
  · rw [tellGrants_cart_of_ne _ hlatch, State.setLedger_bay]

/-- A latch at rest that has been judged is judged again without an effect. -/
theorem judgeLatch_again {l : Ledger} {n : Nat} (h : LatchAsked b l n t) (hr : atRest b t = true) : judgeLatch b t = t := by
  unfold LatchAsked at h
  split at h
  · exact judgeLatch_of_not (by simp [h.2.1])
  · split at h
    · exact judgeLatch_of_not (by simp [h.2.1])
    · have hwaits : t.ledger.waits (.latch b) = true := by simp [h.1, Ledger.waits]
      simp [judgeLatch, h.2.1, hr, hwaits]

/-- The latch has asked: who else waits and what is held is as before. -/
theorem LatchAsked.waits_spindle {l : Ledger} {n : Nat} (h : LatchAsked b l n t) (hs : l.waits (.spindle b) = false) :
    t.ledger.waits (.spindle b) = false := by
  unfold LatchAsked at h
  split at h
  · rw [h.1]; exact hs
  · split at h
    · rw [h.1]
      simpa [Ledger.waits] using hs
    · rw [h.1]
      simpa [Ledger.waits] using hs

/-- The latch has asked a ledger that can give it its 120. -/
theorem LatchAsked.outcome {l : Ledger} {n : Nat} (h : LatchAsked b l n t) (hc : ¬l.capacity < 120) :
    (t.bay b).cart.state = .ejecting ∧ (t.bay b).cart.latch = true ∧ t.hold (.latch b) = 120 ∨
      (t.bay b).cart.state = .releasePending ∧ t.ledger.waits (.latch b) = true := by
  rw [LatchAsked, if_neg hc] at h
  split at h
  · obtain ⟨hl, hs, -, he, -⟩ := h
    exact .inl ⟨hs, he, by rw [State.hold, hl, Ledger.setHold_hold]⟩
  · obtain ⟨hl, hs, -⟩ := h
    exact .inr ⟨hs, by simp [hl, Ledger.waits]⟩

/-- R14, R31, R43: a SPIN UP that waits for power ends CANCELLED, its request goes, and the latch asks for its 120. -/
theorem released_waitPower (hi : (v.bay b).sched.inflight = some op) (ho : op.kind = .spinUp) (hq : (v.bay b).sched.queue = [])
    (hs : (v.bay b).spin.state = .waitPower) (hpark : (v.bay b).pos.state = .parked) (hp : (v.bay b).pos.pending ≠ .load)
    (hl : v.ledger.waits (.latch b) = false) (hc : (v.bay b).cart.state = .releasePending) :
    let t := released b v
    (t.bay b).spin.state = .stopped ∧ (t.bay b).spin.drive = 0 ∧ (t.bay b).sched.inflight = none ∧
      t.completions = recorded v.completions ⟨op.tag, b, .spinUp, .cancelled, some (v.bay b).spin.attempt⟩ ∧
      LatchAsked b (v.ledger.withdraw (.spindle b)).1 (v.bay b).cart.pulseCount t := by
  generalize hw : completeOp b .cancelled v = w
  have wcart := completeOp_sameButLamp v b .cancelled
  rw [hw] at wcart
  have wledger : w.ledger = v.ledger := by rw [← hw]; simp
  have wsched : (w.bay b).sched.inflight = none ∧ (w.bay b).sched.queue = [] := by
    rw [← hw, completeOp_sched]
    exact ⟨Sched.ended_inflight _, by rw [← completeOp_sched .cancelled]; simpa using hq⟩
  have wcomp : w.completions = recorded v.completions ⟨op.tag, b, .spinUp, .cancelled, some (v.bay b).spin.attempt⟩ := by
    rw [← hw, completeOp_completions hi, ho]
    rfl
  obtain ⟨ypark, ypending, ycart, yledger, yspindle, ylatch, -⟩ := withdrawSpindle_parked (b := b) (s := w)
    (by rw [← hw]; simpa using hpark) (by rw [← hw]; simpa using hp) (by rw [wledger]; exact hl)
  have hacts : Acts b false w (abandonPower b w) := (Acts.refl false w).abandonPower
  obtain ⟨hcomp, hin, -⟩ := hacts.idle wsched.1 wsched.2
  generalize hy : withdrawRequest (.spindle b) w = y at ypark ypending ycart yledger yspindle ylatch
  have ystate : (y.bay b).cart.state = .releasePending := by rw [ycart, wcart.eqs.1, hc]
  have alone : SpindleAlone b y := ⟨loadWaiting_of_pending ypending, pulseOff_of_state (by simp [ystate]), fun _ => ylatch⟩
  have hstopped : abandonPower b w = judgeLatch b (y.modSpin b Spindle.stopped) := by rw [abandonPower, hy, alone.enterStopped_eq]
  obtain ⟨hask, hspin, hpos, -⟩ := judgeLatch_asks (b := b) (s := y.modSpin b Spindle.stopped) (by simpa using ystate)
    ((atRest_iff _ b).mpr (by simp [ypark, Spindle.stopped])) (by simpa using ylatch)
  rw [← hstopped] at hask hspin hpos
  generalize hu : abandonPower b w = u at hacts hcomp hin hstopped hask hspin hpos
  have ustate : (u.bay b).spin.state = .stopped := by rw [hspin]; simp [Spindle.stopped]
  have urest : atRest b u = true := (atRest_iff u b).mpr ⟨by rw [hpos]; simpa using ypark, ustate⟩
  have hcancel : cancelSpinUp b v = u := by
    rw [cancelSpinUp, if_pos (by rw [inflightIs_of hi, ho]; rfl), if_pos hs, hw, ← hu]
    unfold cancelOnSpindle
    rw [show (w.bay b).spin.state = .waitPower by rw [← hw]; simpa using hs]
  have hreleased : released b v = u := by
    rw [released, stopForRelease, hcancel, stopByUnload_of_not (inflightIs_none hin) (inflightIs_none hin), orderToRest_rest urest,
      judgeLatch_again hask urest]
  dsimp only
  rw [hreleased]
  refine ⟨ustate, by rw [hspin]; simp [Spindle.stopped], hin, hcomp.trans wcomp, ?_⟩
  rw [State.modSpin_ledger, State.modSpin_cart, yledger, wledger, ycart, wcart.eqs.2.2.2.2.2.1] at hask
  exact hask

end Sys2Proof.Machine
end

section
namespace Sys2Proof.Machine

variable {b : Bay} {m : Bool} {s t u v w : State} {c : Consumer} {k : OpKind} {op : Op} {p : OpKind → Bool}

/-- R11, R12, R43, R109: a long press with an operation in flight, where nobody waits for power. -/
theorem longPress_busy (hset : Settled s) (hc : (s.bay b).cart.state = .seated) (ht : (s.bay b).cart.pressTimer.isSome = true)
    (hi : (s.bay b).sched.inflight = some op) (hw : s.ledger.wait = []) :
    After (exec (.longPress b) s) fun t =>
      (t.bay b).sched.queue = [] ∧ (t.bay b).gate.window = false ∧
      (op.kind = .loadHeads ∨ op.kind.isSeek = true ∨ op.kind = .unloadHeads → (s.bay b).pos.state.loaded = true →
        (s.bay b).pins.park = false → (s.bay b).spin.state.regulated = true → (s.bay b).spin.brakeMark = false →
        (t.bay b).cart.state = .releasePending ∧ (t.bay b).pos.state = .unloading ∧ (t.bay b).pos.act = -25 ∧
        (t.bay b).pos.pending = .none ∧ (t.bay b).pos.owner = .none ∧ (t.bay b).spin.state = (s.bay b).spin.state ∧
        (t.bay b).sched.inflight = some op ∧ t.completions = recordedAll s.completions (cancelRecords b (s.bay b))) ∧
      (op.kind = .loadHeads → (s.bay b).pos.state = .parked → (s.bay b).pos.pending = .load →
        (s.bay b).spin.state.regulated = true →
        (t.bay b).cart.state = .releasePending ∧ (t.bay b).pos.pending = .none ∧ (t.bay b).pos.loadWait = none ∧
        t.hold (.actuator b) = 0 ∧ (t.bay b).spin.state = .braking ∧ (t.bay b).spin.purpose = some .stop ∧
        (t.bay b).sched.inflight = none ∧
        t.completions =
          recordedAll s.completions (cancelRecords b (s.bay b) ++ [⟨op.tag, b, .loadHeads, .cancelled, none⟩])) ∧
      (op.kind = .spinUp → (s.bay b).pos.pending ≠ .load → (s.bay b).pos.state.defersBrake = false →
        ((s.bay b).spin.state = .aligning ∨ (s.bay b).spin.state = .ramping ∨ (s.bay b).spin.state = .locking →
          (t.bay b).cart.state = .releasePending ∧ (t.bay b).spin.state = .braking ∧ (t.bay b).spin.purpose = some .stop ∧
          (t.bay b).spin.sbrk = true ∧ t.ledger = s.ledger.setHold (.spindle b) 0 ∧ (t.bay b).sched.inflight = some op ∧
          t.completions = recordedAll s.completions (cancelRecords b (s.bay b))) ∧
        ((s.bay b).spin.state = .braking →
          (t.bay b).cart.state = .releasePending ∧
          (t.bay b).spin =
            { (s.bay b).spin with
              purpose := if (s.bay b).spin.purpose = some .overcurrent then some .overcurrent else some .stop, startMark := false } ∧
          t.ledger = s.ledger ∧ (t.bay b).sched.inflight = some op ∧
          t.completions = recordedAll s.completions (cancelRecords b (s.bay b)))) ∧
      (op.kind = .spinDown → (s.bay b).spin.state = .braking → (s.bay b).pos.state.loaded = false →
        (t.bay b).cart.state = .releasePending ∧ (t.bay b).spin = (s.bay b).spin ∧ (t.bay b).pos = (s.bay b).pos ∧
        (t.bay b).sched.inflight = some op ∧ t.completions = recordedAll s.completions (cancelRecords b (s.bay b))) := by
  obtain ⟨v, h, hexec⟩ := longPress_begun (.inl hc) ht
  obtain ⟨hsettle, hq, hwin, -⟩ := h.ends hset (acts_released b v)
  have hvi : (v.bay b).sched.inflight = some op := by rw [h.sched, hi]
  have hvw : v.ledger.wait = [] := by rw [h.ledger]; exact hw
  have hpulse : PulseOff b v := pulseOff_of_state (by simp [h.state])
  refine ⟨_, hexec, ?_⟩
  rw [hsettle]
  simp only [judgeGates_cart, judgeGates_sched, judgeGates_pos, judgeGates_spin, judgeGates_ledger, judgeGates_completions, State.hold,
    recordedAll_append]
  refine ⟨hq, judgeGates_window b _ hwin, fun ho hl hk _ _ => ?_, fun ho hpark hp hr => ?_, fun ho hp hd => ⟨fun hs => ?_, fun hs => ?_⟩,
    fun ho hs hl => ?_⟩
  · rw [released_loaded hvi ho (by rw [h.pos]; exact hl) hvw (by rw [h.pins]; exact hk) hpulse]
    simp [h.state, h.spin, hvi, h.completions, Positioner.unloading]
  · have hload : loadWaiting b v = true := loadWaiting_iff.mpr ⟨by rw [h.pos]; exact hpark, by rw [h.pos]; exact hp⟩
    obtain ⟨e1, e2, e3, e4, e5, e6, e7, e8⟩ := released_loadWait hvi ho hload (by rw [h.spin]; exact hr) hvw h.state
    exact ⟨e1, e2, e3, e4, e5, e6, e7, by rw [e8, h.completions]; rfl⟩
  · rw [released_driven hvi ho (by rw [h.pos]; exact hp) (by rw [h.pos]; exact hd) hvw hpulse (by rw [h.spin]; exact hs)]
    simp [h.state, h.ledger, hvi, h.completions, Spindle.braking]
  · rw [released_braking hvi ho (by rw [h.pos]; exact hd) hvw (by rw [h.spin]; exact hs)]
    simp only [mergeStop, State.modSpin_cart, State.modSpin_spin, State.modSpin_sched, State.modSpin_ledger, State.modSpin_completions]
    refine ⟨h.state, ?_, h.ledger, hvi, h.completions⟩
    rw [h.spin]
    split
    · next e => simp [e]
    · rfl
  · rw [released_spinDown hvi ho (by rw [h.pos]; exact hl) hvw (by rw [h.spin]; exact hs)]
    exact ⟨h.state, h.spin, h.pos, hvi, h.completions⟩

/-- R14, R31, R43: a long press over a SPIN UP that waits for power. -/
theorem longPress_waitPower (hset : Settled s) (hc : (s.bay b).cart.state = .seated) (ht : (s.bay b).cart.pressTimer.isSome = true)
    (hi : (s.bay b).sched.inflight = some op) (ho : op.kind = .spinUp) (hs : (s.bay b).spin.state = .waitPower)
    (hpark : (s.bay b).pos.state = .parked) (hp : (s.bay b).pos.pending ≠ .load) (hl : s.ledger.waits (.latch b) = false) :
    After (exec (.longPress b) s) fun t =>
      (t.bay b).sched.queue = [] ∧ (t.bay b).gate.window = false ∧ (t.bay b).spin.state = .stopped ∧
      (t.bay b).spin.drive = 0 ∧ t.ledger.waits (.spindle b) = false ∧ (t.bay b).sched.inflight = none ∧
      t.completions =
        recordedAll s.completions
          (cancelRecords b (s.bay b) ++ [⟨op.tag, b, .spinUp, .cancelled, some (s.bay b).spin.attempt⟩]) ∧
      (if s.ledger.capacity < 120 then (t.bay b).cart.state = .seated
      else
        (t.bay b).cart.state = .ejecting ∧ (t.bay b).cart.latch = true ∧ t.hold (.latch b) = 120 ∨
          (t.bay b).cart.state = .releasePending ∧ t.ledger.waits (.latch b) = true) ∧
      (s.ledger.wait = [⟨.spindle b, .fixed 180⟩] →
        LatchAsked b { s.ledger with wait := [] } 0 t ∧ t.bay b.other = s.bay b.other) := by
  obtain ⟨v, h, hexec⟩ := longPress_begun (.inl hc) ht
  have hacts := acts_released b v
  obtain ⟨hsettle, hq, hwin, -⟩ := h.ends hset hacts
  obtain ⟨e1, e2, e3, e4, hask⟩ := released_waitPower (v := v) (by rw [h.sched, hi]) ho (by rw [h.sched]) (by rw [h.spin]; exact hs)
    (by rw [h.pos]; exact hpark) (by rw [h.pos]; exact hp) (by rw [h.ledger]; exact hl) h.state
  rw [h.ledger, h.pulseCount] at hask
  rw [h.spin, h.completions] at e4
  have hcap : (s.ledger.withdraw (.spindle b)).1.capacity = s.ledger.capacity := (Ledger.event_withdraw _ (.spindle b) _).capacity
  generalize released b v = u at hacts hsettle hq hwin e1 e2 e3 e4 hask hexec
  have hasked : LatchAsked b (s.ledger.withdraw (.spindle b)).1 0 (judgeGates u) := by
    simpa only [LatchAsked, judgeGates_cart, judgeGates_ledger] using hask
  refine ⟨_, hexec, ?_⟩
  rw [hsettle]
  refine ⟨by rw [judgeGates_sched, hq], judgeGates_window b u hwin, by rw [judgeGates_spin, e1], by rw [judgeGates_spin, e2],
    hasked.waits_spindle (s.ledger.withdraw_own (.spindle b)).2.2, by rw [judgeGates_sched, e3], ?_, ?_, fun hw => ?_⟩
  · rw [judgeGates_completions, e4, recordedAll_append]
    rfl
  · split
    · next hn =>
      rw [LatchAsked, if_pos (by rw [hcap]; exact hn)] at hasked
      exact hasked.2.1
    · next hn => exact hasked.outcome (by rw [hcap]; exact hn)
  · have hothers : v.ledger.WaitsOf b := fun d hd => by
      rw [h.ledger, Ledger.waits, hw]
      simp only [List.any_cons, List.any_nil, Bool.or_false, decide_eq_false_iff_not]
      exact fun e => hd (by rw [← e]; rfl)
    have hother : u.bay b.other = s.bay b.other := (hacts.other_bay hothers).1.trans h.other
    refine ⟨by rw [← Ledger.withdraw_only hw]; exact hasked, ?_⟩
    rw [judgeGates_own hset.2.2.1 hother (by rw [hacts.kept.supply, h.supply]), judgeGate_bay_other, hother]

/-- Settles O46: the release of the button, by what the bay's scheduler has in flight. -/
theorem buttonReleasesTheCartridge : Obligations.ButtonReleasesTheCartridge := by
  refine ⟨fun b s hset _ _ hc hi hg => ⟨longPress_idle hset hc hi hg, fun hv hx hp ht hr hb hw hf => ?_⟩,
    fun b s op hset _ hc ht _ hi hw => longPress_busy hset hc ht hi hw,
    fun b s op hset _ hc ht _ hi ho hs hpark hp _ hl => longPress_waitPower hset hc ht hi ho hs hpark hp ?_⟩
  · exact shortPress_idle hset hc hi hv hx hp ht hr hb hw hf
  · simpa [Ledger.waits] using hl

end Sys2Proof.Machine
end

section
namespace Sys2Proof.Machine

variable {b : Bay} {m : Bool} {s t u : State} {c : Consumer}

/-! ### What every operation keeps of the mechanisms (R25, R37, R41, R52, R90)

`Keeps m s t` tells of each law of the mechanisms that it holds of `t` if it holds of `s`, and under `m` that the measurements of the
revolutions go on as they were, which all leave but TACH, its timer, a wedge window and a reset. It is proved once for each operation, in
the order of the model, and read off for every command. -/

/-- Heads under rail power are over a regulated platter (R37, R90). -/
def BayState.HeadsOver (x : BayState) : Prop := x.pos.state.defersBrake = true → x.spin.state.regulated = true

/-- SBRK, the phase drives and the drive code are those of the spindle's state (R25). -/
def Spindle.OutputsFollow (x : Spindle) : Prop :=
  x.sbrk = x.state.brakes ∧ x.phases = x.state.phasesAt x.drive ∧ (x.state.phases = .off → x.drive = 0)

/-- Under overcurrent the spindle is off (R41). -/
def BayState.OffUnder (x : BayState) : Prop := x.mon.overcurrent = true → offUnderOvercurrent x.spin = true

/-- No entry of the wait list exceeds the capacity (R52, R58). -/
def Ledger.Within (l : Ledger) : Prop := ∀ e ∈ l.wait, e.req.need ≤ l.capacity

/-- The reference and the period of the revolutions, the tach timer once it runs in full, and the windows go on (R26, R64). -/
structure BayState.TachKept (x y : BayState) : Prop where
  ref : y.spin.tachRef = x.spin.tachRef
  period : y.spin.lastPeriod = x.spin.lastPeriod
  timer : x.spin.tachTimer = some 500000 → y.spin.tachTimer = some 500000
  demod : y.demod = x.demod

theorem BayState.TachKept.refl (x : BayState) : x.TachKept x := ⟨rfl, rfl, id, rfl⟩

theorem BayState.TachKept.trans {x y z : BayState} (h : x.TachKept y) (k : y.TachKept z) : x.TachKept z :=
  ⟨k.ref.trans h.ref, k.period.trans h.period, k.timer ∘ h.timer, k.demod.trans h.demod⟩

/-- The laws of a bay's mechanisms that hold of `x` hold of `y`. -/
structure BayState.Keeps (m : Bool) (x y : BayState) : Prop where
  heads : x.HeadsOver → y.HeadsOver
  outputs : x.spin.OutputsFollow → y.spin.OutputsFollow
  off : x.OffUnder → y.OffUnder
  tach : m = true → x.TachKept y

/-- The laws of the mechanisms that hold of `s` hold of `t`. -/
structure Keeps (m : Bool) (s t : State) : Prop where
  bay : ∀ c, (s.bay c).Keeps m (t.bay c)
  within : s.ledger.Within → t.ledger.Within

theorem headsRegulated_iff : HeadsRegulated s ↔ ∀ b, (s.bay b).HeadsOver := Iff.rfl

theorem spindleOutputs_iff : SpindleOutputs s ↔ ∀ b, (s.bay b).spin.OutputsFollow := Iff.rfl

/-- A spindle that is off has no drive code. -/
theorem Spindle.OutputsFollow.drive_of_off {x : Spindle} (h : x.OutputsFollow) (ho : offUnderOvercurrent x = true) : x.drive = 0 := by
  obtain ⟨-, -, hd⟩ := h
  apply hd
  cases hs : x.state <;> simp [offUnderOvercurrent, hs] at ho <;> rfl

/-- Under outputs that follow the state, a spindle that is off drives nothing. -/
theorem overcurrentOff_iff (ho : SpindleOutputs s) : OvercurrentOff s ↔ ∀ b, (s.bay b).OffUnder :=
  ⟨fun h b hm => (h b hm).2, fun h b hm => ⟨Spindle.OutputsFollow.drive_of_off (ho b) (h b hm), h b hm⟩⟩

namespace BayState.Keeps

variable {x y z : BayState}

theorem refl (x : BayState) : x.Keeps m x := ⟨id, id, id, fun _ => .refl x⟩

theorem trans (h : x.Keeps m y) (k : y.Keeps m z) : x.Keeps m z :=
  ⟨k.heads ∘ h.heads, k.outputs ∘ h.outputs, k.off ∘ h.off, fun hm => (h.tach hm).trans (k.tach hm)⟩

/-- The laws read the spindle, the state of the positioner and the overcurrent mark. -/
theorem same (hs : y.spin = x.spin) (hp : y.pos.state = x.pos.state) (hm : y.mon.overcurrent = x.mon.overcurrent)
    (hd : m = true → y.demod = x.demod) : x.Keeps m y := by
  refine ⟨?_, ?_, ?_, fun h => ⟨by rw [hs], by rw [hs], by rw [hs]; exact id, hd h⟩⟩
  · simp [HeadsOver, hs, hp]
  · simp [hs]
  · simp [OffUnder, hs, hm]

/-- A change of the spindle. -/
theorem spin {f : Spindle} (hr : x.spin.state.regulated = true → f.state.regulated = true ∨ x.pos.state.defersBrake = false)
    (ho : x.spin.OutputsFollow → f.OutputsFollow)
    (hf : x.mon.overcurrent = true → offUnderOvercurrent x.spin = true → offUnderOvercurrent f = true)
    (ht : m = true → x.TachKept { x with spin := f }) : x.Keeps m { x with spin := f } where
  heads h hd := (hr (h hd)).resolve_right (by simpa using hd)
  outputs := ho
  off h hm := hf hm (h hm)
  tach := ht

/-- A change of the positioner. -/
theorem pos {p : Positioner} (h : p.state.defersBrake = true → x.pos.state.defersBrake = true ∨ x.spin.state.regulated = true) :
    x.Keeps m { x with pos := p } :=
  ⟨fun hx hd => (h hd).elim hx id, id, id, fun _ => ⟨rfl, rfl, id, rfl⟩⟩

end BayState.Keeps

namespace Keeps

theorem refl (s : State) : Keeps m s s := ⟨fun _ => .refl _, id⟩

theorem trans (h : Keeps m s t) (k : Keeps m t u) : Keeps m s u := ⟨fun c => (h.bay c).trans (k.bay c), k.within ∘ h.within⟩

theorem weaken (h : Keeps m s t) : Keeps false s t :=
  ⟨fun c => ⟨(h.bay c).heads, (h.bay c).outputs, (h.bay c).off, nofun⟩, h.within⟩

/-- A change that the mechanisms and the ledger do not see. -/
theorem same (h : Keeps m s t) (hs : ∀ c, (u.bay c).spin = (t.bay c).spin) (hp : ∀ c, (u.bay c).pos.state = (t.bay c).pos.state)
    (hm : ∀ c, (u.bay c).mon.overcurrent = (t.bay c).mon.overcurrent) (hd : ∀ c, (u.bay c).demod = (t.bay c).demod)
    (hl : u.ledger = t.ledger) : Keeps m s u :=
  h.trans ⟨fun c => .same (hs c) (hp c) (hm c) fun _ => hd c, by rw [hl]; exact id⟩

/-- A change of neither bay. -/
theorem ofBay (h : Keeps m s t) (hb : ∀ c, u.bay c = t.bay c) (hl : u.ledger = t.ledger) : Keeps m s u :=
  h.same (by simp [hb]) (by simp [hb]) (by simp [hb]) (by simp [hb]) hl

theorem setBay (h : Keeps m s t) {x : BayState} (hx : (t.bay b).Keeps m x) : Keeps m s (t.setBay b x) := by
  refine h.trans ⟨fun c => ?_, by simp⟩
  rcases Bay.cases_eq b c with rfl | rfl
  · simpa using hx
  · simpa using BayState.Keeps.refl _

/-- A change of one bay that its mechanisms do not see. -/
theorem setAside (h : Keeps m s t) {x : BayState} (hs : x.spin = (t.bay b).spin) (hp : x.pos.state = (t.bay b).pos.state)
    (hm : x.mon.overcurrent = (t.bay b).mon.overcurrent) (hd : m = true → x.demod = (t.bay b).demod := by exact fun _ => rfl) :
    Keeps m s (t.setBay b x) := h.setBay (.same hs hp hm hd)

/-! #### Changes of the spindle and of the positioner -/

/-- A change of the spindle that leaves its state, its outputs and its purpose. -/
theorem spinKeep (h : Keeps m s t) (f : Spindle → Spindle) (hs : (f (t.bay b).spin).state = (t.bay b).spin.state)
    (hb : (f (t.bay b).spin).sbrk = (t.bay b).spin.sbrk) (hp : (f (t.bay b).spin).phases = (t.bay b).spin.phases)
    (hd : (f (t.bay b).spin).drive = (t.bay b).spin.drive) (hx : (f (t.bay b).spin).purpose = (t.bay b).spin.purpose)
    (ht : m = true → (t.bay b).TachKept { t.bay b with spin := f (t.bay b).spin } := by exact fun _ => ⟨rfl, rfl, id, rfl⟩) :
    Keeps m s (t.modSpin b f) :=
  h.setBay (.spin (fun hr => .inl (by rw [hs]; exact hr)) (by simp only [Spindle.OutputsFollow, hs, hb, hp, hd]; exact id)
    (by simp only [offUnderOvercurrent, hs, hx]; exact fun _ => id) ht)

/-- The spindle comes to STOPPED, BRAKING or FAULT, from no regulation or with the heads off (R37, R38). -/
theorem spinOff (h : Keeps m s t) (f : Spindle → Spindle)
    (hd : (t.bay b).spin.state.regulated = false ∨ (t.bay b).pos.state.defersBrake = false)
    (ho : (t.bay b).spin.OutputsFollow → (f (t.bay b).spin).OutputsFollow) (hf : offUnderOvercurrent (f (t.bay b).spin) = true)
    (ht : m = true → (t.bay b).TachKept { t.bay b with spin := f (t.bay b).spin } := by exact fun _ => ⟨rfl, rfl, id, rfl⟩) :
    Keeps m s (t.modSpin b f) :=
  h.setBay (.spin (fun hr => .inr (hd.resolve_left (by simp [hr]))) ho (fun _ _ => hf) ht)

/-- A spindle that may not be on under overcurrent goes on to another state, regulated if it was. -/
theorem spinOn (h : Keeps m s t) (f : Spindle → Spindle)
    (hr : (t.bay b).spin.state.regulated = true → (f (t.bay b).spin).state.regulated = true)
    (ho : (t.bay b).spin.OutputsFollow → (f (t.bay b).spin).OutputsFollow)
    (hf : (t.bay b).mon.overcurrent = false ∨ offUnderOvercurrent (t.bay b).spin = false)
    (ht : m = true → (t.bay b).TachKept { t.bay b with spin := f (t.bay b).spin } := by exact fun _ => ⟨rfl, rfl, id, rfl⟩) :
    Keeps m s (t.modSpin b f) :=
  h.setBay (.spin (fun h => .inl (hr h)) ho (fun hm hx => by rcases hf with e | e <;> simp [e] at hm hx) ht)

/-- A drive code taken in the state the spindle is in, by a spindle that may not be on under overcurrent. -/
theorem driven (h : Keeps m s t) (code : Nat) (hs : (t.bay b).spin.state.turning = true) : Keeps m s (t.modSpin b (Spindle.driven code)) :=
  h.spinOn _ id (fun ho => ⟨ho.1, rfl, fun hp => by cases hx : (t.bay b).spin.state <;> simp [hx, SpinState.turning, SpinState.phases] at hs hp⟩)
    (.inr (by cases hx : (t.bay b).spin.state <;> simp [hx, SpinState.turning, offUnderOvercurrent] at hs ⊢))

/-- A change of the positioner: under rail power only from rail power or over a regulated platter. -/
theorem posMove (h : Keeps m s t) (f : Positioner → Positioner) (hf : (f (t.bay b).pos).state.defersBrake = true →
    (t.bay b).pos.state.defersBrake = true ∨ (t.bay b).spin.state.regulated = true) : Keeps m s (t.modPos b f) := h.setBay (.pos hf)

theorem posKeep (h : Keeps m s t) (f : Positioner → Positioner) (hf : (f (t.bay b).pos).state = (t.bay b).pos.state) :
    Keeps m s (t.modPos b f) := h.posMove f fun hd => .inl (hf ▸ hd)

end Keeps

end Sys2Proof.Machine
end

section
namespace Sys2Proof.Machine

variable {b : Bay} {m : Bool} {s t u : State} {c : Consumer}

/-! ### Grants, requests and reductions keep the laws of the mechanisms -/

theorem switchHead_pos_state (n : Nat) (b : Bay) (s : State) : ((switchHead b n s).bay b).pos.state = (s.bay b).pos.state := by
  unfold switchHead
  split
  · rfl
  · rw [(historyReset_spec _ b).2.2.2.1, State.modPos_pos]

/-! #### The scheduler, the lamp and the records leave the demodulator -/

theorem changeCart_demod (f : Cartridge → Cartridge) (b c : Bay) (s : State) : ((changeCart b f s).bay c).demod = (s.bay c).demod := by
  cases b <;> cases c <;> rfl

theorem changeSched_demod (f : Sched → Sched) (b c : Bay) (s : State) : ((changeSched b f s).bay c).demod = (s.bay c).demod := by
  cases b <;> cases c <;> rfl

theorem completeOp_demod (o : OpOutcome) (b c : Bay) (s : State) : ((completeOp b o s).bay c).demod = (s.bay c).demod := by
  unfold completeOp
  split
  · rfl
  · rw [changeSched_demod, writeRecord, appendRecord_bay]

theorem cancelQueue_demod (b c : Bay) (s : State) : ((cancelQueue b s).bay c).demod = (s.bay c).demod := by
  rcases Bay.cases_eq b c with rfl | rfl
  · rw [cancelQueue_bay]
  · simp

namespace Keeps

theorem count (h : Keeps m s t) (f : BayCounters → BayCounters) : Keeps m s (t.modCnt b f) := h.setAside rfl rfl rfl

theorem modGate (h : Keeps m s t) (f : Gate → Gate) : Keeps m s (t.modGate b f) := h.setAside rfl rfl rfl

theorem modServo (h : Keeps m s t) (f : Servo → Servo) : Keeps m s (t.modServo b f) := h.setAside rfl rfl rfl

theorem modCart (h : Keeps m s t) (f : Cartridge → Cartridge) : Keeps m s (t.modCart b f) := h.setAside rfl rfl rfl

theorem unqualify (h : Keeps m s t) : Keeps m s (clearQualified b t) := h.modGate _

theorem close (h : Keeps m s t) : Keeps m s (closeWindow b t) := h.modGate _

theorem dropSau (h : Keeps m s t) : Keeps m s (dropSauWork b t) :=
  (h.setAside (b := b) (x := { t.bay b with slot := none }) rfl rfl rfl).ofBay (fun _ => State.setSau_bay ..) rfl

theorem historyReset (h : Keeps m s t) : Keeps m s (historyReset b t) := (h.modServo _).dropSau.unqualify

theorem setTarget (h : Keeps m s t) (n : Nat) : Keeps m s (setTarget b n t) := by
  unfold Machine.setTarget
  dsimp only
  split
  · exact h.posKeep _ rfl
  · exact (h.posKeep _ rfl).unqualify

theorem speedLostUpdate (h : Keeps m s t) : Keeps m s (speedLostUpdate b t) := by
  unfold Machine.speedLostUpdate
  exact h.spinKeep _ rfl rfl rfl rfl rfl

/-- R32: from WAIT_POWER, so not under overcurrent. -/
theorem enterAligning (h : Keeps m s t) : Keeps m s (enterAligning b t) := by
  unfold Machine.enterAligning
  split
  · next hw =>
    exact h.spinOn _ (by simp [hw, SpinState.regulated]) (fun _ => ⟨rfl, rfl, fun hp => by cases hp⟩)
      (.inr (by simp [offUnderOvercurrent, hw]))
  · exact h

/-- R94: LOADING is entered over a LOCKED spindle. -/
theorem tryLoading (h : Keeps m s t) : Keeps m s (tryLoading b t) := by
  unfold Machine.tryLoading
  split
  · next hc =>
    simp only [Bool.and_eq_true, decide_eq_true_eq] at hc
    obtain ⟨-, hl⟩ := hc
    refine speedLostUpdate (h.historyReset.posMove _ fun _ => .inr ?_)
    rw [historyReset_spin, hl]
    rfl
  · exact h

theorem switchHead (h : Keeps m s t) (n : Nat) : Keeps m s (switchHead b n t) := by
  unfold Machine.switchHead
  split
  · exact h
  · exact (h.posKeep _ rfl).historyReset

/-- R98: SEEKING is entered from FOLLOWING or SETTLING. -/
theorem enterSeeking (h : Keeps m s t) (o : SeekOwner) (hd : (t.bay b).pos.state.defersBrake = true) : Keeps m s (enterSeeking b o t) :=
  h.posMove _ fun _ => .inl hd

theorem actuatorGranted (h : Keeps m s t) (n : Nat) : Keeps m s (actuatorGranted b n t) := by
  have hc : Keeps m s (clampAct b n t) := h.posKeep _ rfl
  unfold Machine.actuatorGranted
  dsimp only
  split
  · next hs =>
    simp only [Bool.or_eq_true, decide_eq_true_eq] at hs
    have hd : ((clampAct b n t).bay b).pos.state.defersBrake = true := by rcases hs with e | e <;> rw [e] <;> rfl
    split
    · refine ((hc.setTarget _).switchHead _).enterSeeking _ ?_
      rw [switchHead_pos_state, setTarget_pos_state]
      exact hd
    · exact hc.enterSeeking _ hd
    · exact hc
  · exact hc.tryLoading

theorem changeCart (h : Keeps m s t) (f : Cartridge → Cartridge) : Keeps m s (changeCart b f t) :=
  h.same (by simp) (by simp) (fun _ => by simp [Machine.changeCart, Machine.lampUpdate])
    (fun _ => changeCart_demod ..) (by simp)

theorem startPulse (h : Keeps m s t) (n : Nat) : Keeps m s (startPulse b n t) := by
  unfold Machine.startPulse
  dsimp only
  split
  · split
    · exact (h.count _).changeCart _
    · exact h.changeCart _
  · exact h

theorem tellGrant (h : Keeps m s t) (g : Grant) : Keeps m s (tellGrant t g) := by
  rcases g with ⟨d | d | d, n⟩
  · exact h.enterAligning
  · exact h.actuatorGranted n
  · exact h.startPulse n

theorem tellGrants (gs : List Grant) (h : Keeps m s t) : Keeps m s (tellGrants gs t) := by
  unfold Machine.tellGrants
  induction gs generalizing t with
  | nil => exact h
  | cons g gs ih => exact ih (h.tellGrant g)

/-- An event of the ledger that lets in no entry above the capacity, told to the consumers. -/
theorem ledger (h : Keeps m s t) {l : Ledger} (hl : t.ledger.Within → l.Within) (gs : List Grant) :
    Keeps m s (Machine.tellGrants gs (t.setLedger l)) :=
  Keeps.tellGrants gs (h.trans ⟨fun d => by simpa using .refl _, by simpa using hl⟩)

end Keeps

/-! #### The entries of the wait list stay within the capacity (R52, R58) -/

theorem Ledger.Within.of_subset {l m : Ledger} (h : l.Within) (hw : ∀ e ∈ m.wait, e ∈ l.wait) (hc : m.capacity = l.capacity) : m.Within :=
  fun e he => hc ▸ h e (hw e he)

theorem Ledger.Within.reexamine {l : Ledger} (h : l.Within) : l.reexamine.1.Within :=
  h.of_subset (fun _ he => (Ledger.grantHeads_spec l.wait l).2.2.1.subset he) (Ledger.grantHeads_spec l.wait l).1

theorem Ledger.Within.lower {l : Ledger} (h : l.Within) (c : Consumer) (n : Nat) : (l.lower c n).1.Within := by
  unfold Ledger.lower
  split
  · exact (h.of_subset (m := l.setHold c n) (by simp) (by simp)).reexamine
  · exact h

theorem Ledger.Within.withdraw {l : Ledger} (h : l.Within) (c : Consumer) : (l.withdraw c).1.Within := by
  unfold Ledger.withdraw
  split
  · exact (h.of_subset (m := { l with wait := _ }) (fun _ he => List.mem_of_mem_filter he) rfl).reexamine
  · exact h

/-- R52: a request above the capacity is told so, and does not wait. -/
theorem Ledger.Within.request {l : Ledger} (h : l.Within) (c : Consumer) (r : Req) : (l.request c r).ledger.Within := by
  unfold Ledger.request
  split
  · split
    · exact h.withdraw c
    · next hr =>
      refine Ledger.Within.reexamine fun e he => ?_
      obtain ⟨x, hx, rfl⟩ := List.mem_map.mp he
      split
      · exact Nat.le_of_not_lt hr
      · exact h x hx
  · split
    · exact h
    · next hr =>
      split
      · exact h.of_subset (by simp) (by simp)
      · intro e he
        rcases List.mem_append.mp he with he | he
        · exact h e he
        · rw [List.mem_singleton.mp he]
          exact Nat.le_of_not_lt hr

namespace Keeps

theorem lower (h : Keeps m s t) (c : Consumer) (n : Nat) : Keeps m s (lowerHolding c n t) := h.ledger (fun hl => hl.lower c n) _

theorem withdraw (h : Keeps m s t) (c : Consumer) : Keeps m s (withdrawRequest c t) := h.ledger (fun hl => hl.withdraw c) _

theorem complete (h : Keeps m s t) (o : OpOutcome) : Keeps m s (completeOp b o t) :=
  h.same (by simp) (by simp) (fun c => by rw [((kept_completeOp b o t).bay c).mon])
    (fun _ => completeOp_demod ..) (by simp)

theorem completeIf (h : Keeps m s t) (p : OpKind → Bool) (o : OpOutcome) : Keeps m s (completeIf b p o t) := by
  unfold Machine.completeIf
  split
  · exact h.complete o
  · exact h

theorem changeSched (h : Keeps m s t) (f : Sched → Sched) : Keeps m s (changeSched b f t) :=
  h.same (by simp) (by simp) (fun c => by rw [((kept_changeSched b f t).bay c).mon])
    (fun _ => changeSched_demod ..) (by simp)

theorem fault (h : Keeps m s t) (x : Cause) : Keeps m s (faultHalt b x t) := (h.complete _).changeSched _

theorem cancel (h : Keeps m s t) : Keeps m s (cancelQueue b t) :=
  h.same (by simp) (by simp) (fun c => by rw [((kept_cancelQueue b t).bay c).mon])
    (fun _ => cancelQueue_demod ..) (by simp)

/-- R31, R58: a spindle told NO_BUDGET stops from WAIT_POWER. -/
theorem tellNoBudget (h : Keeps m s t) (c : Consumer) : Keeps m s (tellNoBudget c t) := by
  rcases c with d | d | d
  · simp only [Machine.tellNoBudget]
    split
    · next hw =>
      refine (h.spinOff _ (.inl (by rw [hw]; rfl)) (fun ho => ?_) rfl).completeIf _ _
      obtain ⟨hb, hp, hd⟩ := ho
      exact ⟨by simpa [hw, SpinState.brakes] using hb, by simpa [hw, SpinState.phasesAt, SpinState.phases] using hp,
        fun _ => hd (by rw [hw]; rfl)⟩
    · exact h
  · exact h
  · simp only [Machine.tellNoBudget]
    split
    · exact (h.changeCart _).completeIf _ _
    · exact h

theorem ask (h : Keeps m s t) (c : Consumer) (r : Req) : Keeps m s (ask c r t) := by
  have hg := h.ledger (fun hl => hl.request c r) (t.ledger.request c r).grants
  unfold Machine.ask
  dsimp only
  split
  · exact hg.tellNoBudget c
  · exact hg

/-! #### The load wait and the latch -/

theorem endLoadWait (h : Keeps m s t) : Keeps m s (endLoadWait b t) := by
  unfold Machine.endLoadWait
  split
  · exact ((h.posKeep _ rfl).withdraw _).lower _ _
  · exact h

theorem failLoadWait (h : Keeps m s t) (x : Cause) : Keeps m s (failLoadWait b x t) := by
  unfold Machine.failLoadWait
  split
  · exact h.endLoadWait.completeIf _ _
  · exact h

theorem endPulse (h : Keeps m s t) : Keeps m s (endPulse b t) := (h.modCart _).lower _ _

theorem cutPulse (h : Keeps m s t) : Keeps m s (cutPulse b t) := by
  unfold Machine.cutPulse
  split
  · exact h.endPulse
  · exact h

theorem judgeLatch (h : Keeps m s t) : Keeps m s (judgeLatch b t) := by
  unfold Machine.judgeLatch
  split
  · split
    · split
      · exact h
      · exact h.ask _ _
    · exact h.withdraw _
  · exact h

end Keeps

end Sys2Proof.Machine
end

section
namespace Sys2Proof.Machine

variable {b : Bay} {m : Bool} {s t u : State} {c : Consumer}

/-! ### The Spindle Controller keeps the laws of the mechanisms (R25 to R47) -/

theorem SpinState.turning_of_regulated {x : SpinState} (h : x.regulated = true) : x.turning = true := by
  cases x <;> simp [SpinState.regulated, SpinState.turning] at h ⊢

/-- R25: a turning spindle is not braked, its phases carry current. -/
theorem SpinState.turning_outputs {x : SpinState} (h : x.turning = true) : x.brakes = false ∧ x.phases ≠ .off := by
  cases x <;> simp [SpinState.turning, SpinState.brakes, SpinState.phases] at h ⊢

theorem SpinState.regulated_outputs {x : SpinState} (h : x.regulated = true) : x.brakes = false ∧ x.phases = .commutated := by
  cases x <;> simp [SpinState.regulated, SpinState.brakes, SpinState.phases] at h ⊢

/-- A spindle whose outputs are off for a state without drive and brake. -/
theorem Spindle.outputsFollow_of_off {x : Spindle} (hb : x.sbrk = x.state.brakes) (hd : x.drive = 0) (hp : x.phases = .off) : x.OutputsFollow :=
  ⟨hb, by simp [hd, hp, SpinState.phasesAt], fun _ => hd⟩

/-- A spindle driven in a state whose phases carry current. -/
theorem Spindle.OutputsFollow.driven {x : Spindle} (code : Nat) (hb : x.sbrk = x.state.brakes) (hp : x.state.phases ≠ .off) :
    (x.driven code).OutputsFollow := ⟨hb, rfl, fun h => absurd h hp⟩

/-- A grant takes no spindle into regulation. -/
theorem tellGrant_unregulated (g : Grant) (h : (s.bay b).spin.state.regulated = false) : ((tellGrant s g).bay b).spin.state.regulated = false := by
  rcases g with ⟨d | d | d, n⟩
  all_goals
    simp only [tellGrant]
    rcases Bay.cases_eq d b with rfl | rfl
    case inr => simpa using h
  · unfold enterAligning
    split
    · simp [SpinState.regulated]
    · exact h
  · rw [actuatorGranted_spin n b s]
    exact h
  · rw [startPulse_spin]
    exact h

theorem tellGrants_unregulated (gs : List Grant) (h : (s.bay b).spin.state.regulated = false) :
    ((tellGrants gs s).bay b).spin.state.regulated = false := by
  unfold tellGrants
  induction gs generalizing s with
  | nil => exact h
  | cons g gs ih => exact ih (tellGrant_unregulated g h)

theorem withdrawRequest_unregulated (c : Consumer) (h : (s.bay b).spin.state.regulated = false) :
    ((withdrawRequest c s).bay b).spin.state.regulated = false := tellGrants_unregulated _ (by simpa using h)

namespace Keeps

theorem spindleChanged (h : Keeps m s t) : Keeps m s (spindleChanged b t) := by
  unfold Machine.spindleChanged
  dsimp only
  refine judgeLatch (cutPulse ?_)
  split
  · exact h.speedLostUpdate.tryLoading
  · exact h.speedLostUpdate.failLoadWait _

/-- R38: BRAKING, towards a retry only from a spindle that may not be on under overcurrent. -/
theorem enterBraking (h : Keeps m s t) (p : BrakePurpose)
    (hd : (t.bay b).spin.state.regulated = false ∨ (t.bay b).pos.state.defersBrake = false)
    (hp : p ≠ .retry ∨ (t.bay b).spin.state.turning = true) : Keeps m s (enterBraking b p t) := by
  refine spindleChanged (Keeps.lower ?_ _ _)
  by_cases hr : p = .retry
  · have ht := hp.resolve_left (by simp [hr])
    refine h.setBay (.spin (fun hx => .inr (hd.resolve_left (by simp [hx]))) (fun _ => Spindle.outputsFollow_of_off rfl rfl rfl) (fun _ hx => ?_)
      fun _ => ⟨rfl, rfl, fun _ => rfl, rfl⟩)
    cases hs : (t.bay b).spin.state <;> simp [hs, SpinState.turning, offUnderOvercurrent] at ht hx
  · exact h.spinOff _ hd (fun _ => Spindle.outputsFollow_of_off rfl rfl rfl) (by simpa [offUnderOvercurrent] using hr)
      fun _ => ⟨rfl, rfl, fun _ => rfl, rfl⟩

theorem enterStopped (h : Keeps m s t) (hr : (t.bay b).spin.state.regulated = false) : Keeps m s (enterStopped b t) :=
  (h.spinOff _ (.inl hr) (fun _ => Spindle.outputsFollow_of_off rfl rfl rfl) rfl).spindleChanged

theorem enterSpinFault (h : Keeps m s t) (hr : (t.bay b).spin.state.regulated = false) : Keeps m s (enterSpinFault b t) :=
  (h.spinOff _ (.inl hr) (fun _ => Spindle.outputsFollow_of_off rfl rfl rfl) rfl).spindleChanged

theorem abandonPower (h : Keeps m s t) (hw : (t.bay b).spin.state = .waitPower) : Keeps m s (abandonPower b t) :=
  (h.withdraw _).enterStopped (withdrawRequest_unregulated _ (by rw [hw]; rfl))

/-- R37: heads that would lose a regulated platter defer the order. -/
theorem brakeOrder (h : Keeps m s t) : Keeps m s (brakeOrder b t) := by
  unfold Machine.brakeOrder
  split
  case h_4 hs => exact h.abandonPower hs
  case h_5 | h_6 | h_7 | h_8 | h_9 =>
    split
    · exact h.spinKeep _ rfl rfl rfl rfl rfl
    · next hd => exact h.enterBraking _ (.inr (by simpa using hd)) (.inl (by simp))
  all_goals exact h

/-- R38: the purpose becomes STOP or stays OVERCURRENT. -/
theorem mergeStop (h : Keeps m s t) : Keeps m s (mergeStop b t) := by
  refine h.setBay (.spin .inl id (fun _ hx => ?_) fun _ => ⟨rfl, rfl, id, rfl⟩)
  cases hs : (t.bay b).spin.state <;> simp [offUnderOvercurrent, hs] at hx ⊢
  split <;> simp_all

theorem cancelOnSpindle (h : Keeps m s t) : Keeps m s (cancelOnSpindle b t) := by
  unfold Machine.cancelOnSpindle
  split
  case h_1 hs => exact h.abandonPower hs
  case h_2 hs | h_3 hs | h_4 hs => exact h.enterBraking _ (.inl (by rw [hs]; rfl)) (.inl (by simp))
  case h_5 => exact h.mergeStop
  all_goals exact h

theorem cancelSpinUp (h : Keeps m s t) : Keeps m s (cancelSpinUp b t) := by
  unfold Machine.cancelSpinUp
  split
  · split
    · exact (h.complete _).cancelOnSpindle
    · exact h.cancelOnSpindle
  · exact h

theorem raiseOutcome (h : Keeps m s t) (x : Cause) : Keeps m s (raiseOutcome b x t) := h.close.fault x

theorem raiseFatal (h : Keeps m s t) (x : Cause) : Keeps m s (raiseFatal b x t) := by
  unfold Machine.raiseFatal
  dsimp only
  split
  · exact (h.raiseOutcome x).cancelOnSpindle
  · exact h.raiseOutcome x

/-- R30, R31: power is asked for without overcurrent, or on the way to a retry. -/
theorem askPower (h : Keeps m s t) (n : Nat) (hr : (t.bay b).spin.state.regulated = false)
    (hf : (t.bay b).mon.overcurrent = false ∨ offUnderOvercurrent (t.bay b).spin = false) : Keeps m s (askPower b n t) :=
  ((h.spinOn _ (by simp [hr]) (fun _ => Spindle.outputsFollow_of_off rfl rfl rfl) hf).spindleChanged).ask _ _

theorem beginAttempt (h : Keeps m s t) (hr : (t.bay b).spin.state.regulated = false) : Keeps m s (beginAttempt b t) := by
  unfold Machine.beginAttempt
  split
  · exact (h.enterSpinFault hr).raiseFatal _
  · next hm => exact h.askPower 1 hr (.inl (by simpa using hm))

/-- R38: the stop of a braking platter. -/
theorem platterStop (h : Keeps m s t) (hs : (t.bay b).spin.state = .braking) : Keeps m s (platterStop b t) := by
  have hr : (t.bay b).spin.state.regulated = false := by rw [hs]; rfl
  unfold Machine.platterStop
  dsimp only
  split
  · next hp => exact (h.count _).askPower _ (by simpa using hr) (.inr (by simp [offUnderOvercurrent, hs, hp]))
  · exact (h.enterSpinFault hr).raiseFatal _
  · split
    · exact (h.enterSpinFault hr).raiseFatal _
    · exact ((h.enterSpinFault hr).completeIf _ _).completeIf _ _
  all_goals
    split
    · refine (h.spinOff _ (.inl hr) (fun ho => ?_) rfl).beginAttempt (by simp [SpinState.regulated])
      exact Spindle.outputsFollow_of_off rfl (ho.2.2 (by rw [hs]; rfl))
        (by simpa [hs, SpinState.phasesAt, SpinState.phases] using ho.2.1)
    · exact ((h.completeIf _ _).completeIf _ _).enterStopped (by simpa using hr)

/-! #### Revolutions (R28, R33, R34, R35) -/

/-- A spindle driven on in a turning state (R25). -/
theorem drivenOn (h : Keeps m s t) (f : Spindle → Spindle) {y : Spindle} {code : Nat} (hf : f (t.bay b).spin = y.driven code)
    (ht : (t.bay b).spin.state.turning = true) (hy : y.state.turning = true) (hb : y.sbrk = (t.bay b).spin.sbrk)
    (hr : (t.bay b).spin.state.regulated = true → y.state.regulated = true)
    (hk : m = true → (t.bay b).TachKept { t.bay b with spin := f (t.bay b).spin } := by exact fun _ => ⟨rfl, rfl, id, rfl⟩) :
    Keeps m s (t.modSpin b f) := by
  refine h.spinOn _ (by rw [hf]; exact hr) (fun ho => ?_) (.inr ?_) hk
  · rw [hf]
    obtain ⟨hty, hpy⟩ := SpinState.turning_outputs hy
    exact Spindle.OutputsFollow.driven code (by rw [hb, ho.1, (SpinState.turning_outputs ht).1, hty]) hpy
  · cases h1 : (t.bay b).spin.state <;> simp [h1, SpinState.turning, offUnderOvercurrent] at ht ⊢

theorem failAttempt (h : Keeps m s t) (hs : (t.bay b).spin.state = .ramping ∨ (t.bay b).spin.state = .locking) : Keeps m s (failAttempt b t) :=
  h.enterBraking _ (.inl (by rcases hs with e | e <;> rw [e] <;> rfl)) (.inr (by rcases hs with e | e <;> rw [e] <;> rfl))

theorem enterLocking (h : Keeps m s t) (n : Nat) (hs : (t.bay b).spin.state = .ramping) : Keeps m s (enterLocking b n t) :=
  spindleChanged (h.drivenOn _ rfl (by rw [hs]; rfl) rfl rfl (by simp [hs, SpinState.regulated]))

theorem lockEntry (h : Keeps m s t) (hs : (t.bay b).spin.state = .locking) : Keeps m s (lockEntry b t) := by
  have hm : Keeps m s (t.modSpin b fun x =>
      Spindle.driven (min x.drive Const.runUnits) { x with state := .locked, inside := 0, outside := 0, stageTimer := none }) :=
    h.drivenOn _ rfl (by rw [hs]; rfl) rfl rfl fun _ => rfl
  exact ((hm.lower _ _).completeIf _ _).spindleChanged

/-- R35: LOCKED and UNLOCKED, at the drive code that is. -/
theorem moveLock (h : Keeps m s t) (hs : (t.bay b).spin.state.regulated = true) {goal : SpinState} (hg : goal.regulated = true) :
    Keeps m s (moveLock b goal t) := by
  obtain ⟨bx, px⟩ := SpinState.regulated_outputs hs
  obtain ⟨bg, pg⟩ := SpinState.regulated_outputs hg
  refine spindleChanged (h.spinOn _ (fun _ => hg) (fun ho => ⟨?_, ?_, ?_⟩) (.inr ?_))
  · exact ho.1.trans (bx.trans bg.symm)
  · exact ho.2.1.trans (by simp [SpinState.phasesAt, px, pg])
  · simp [pg]
  · cases h1 : (t.bay b).spin.state <;> simp [h1, SpinState.regulated, offUnderOvercurrent] at hs ⊢

theorem countRevolution (h : Keeps m s t) (i : Bool) : Keeps m s (countRevolution b i t) := by
  unfold Machine.countRevolution
  dsimp only
  split
  case h_1 hs =>
    split
    · exact h.lockEntry hs
    · exact h.spinKeep _ rfl rfl rfl rfl rfl
  case h_2 hs | h_6 hs =>
    split
    · exact h.moveLock (by rw [hs]; rfl) rfl
    · exact h.spinKeep _ rfl rfl rfl rfl rfl
  case h_7 => exact h
  all_goals exact h.spinKeep _ rfl rfl rfl rfl rfl

theorem judgeRevolution (h : Keeps m s t) (n : Nat) : Keeps m s (judgeRevolution b n t) := by
  unfold Machine.judgeRevolution
  dsimp only
  split
  case h_1 hs =>
    split
    · exact h.enterLocking n hs
    · exact h
  case h_2 hs | h_3 hs | h_4 hs => exact countRevolution (h.drivenOn _ rfl (by rw [hs]; rfl) (by rw [hs]; rfl) rfl id) _
  case h_5 => exact h

theorem missedRevolution (h : Keeps m s t) (hs : (t.bay b).spin.state.turning = true) : Keeps m s (missedRevolution b t) := by
  have hm : Keeps m s (t.modSpin b fun y => Spindle.driven (t.hold (.spindle b)) { y with tachTimer := some Const.tach }) :=
    h.drivenOn _ rfl hs hs rfl id fun _ => ⟨rfl, rfl, fun _ => rfl, rfl⟩
  exact hm.countRevolution _

/-- R33: RAMPING from ALIGNING. -/
theorem enterRamping (h : Keeps m s t) (hs : (t.bay b).spin.state = .aligning) : Keeps m s (enterRamping b t) :=
  spindleChanged (h.drivenOn _ rfl (by rw [hs]; rfl) rfl rfl (by simp [hs, SpinState.regulated]))

theorem stageOver (h : Keeps m s t) : Keeps m s (stageOver b t) := by
  unfold Machine.stageOver
  split
  case h_1 hs => exact h.enterRamping hs
  case h_2 hs => exact h.failAttempt (.inl hs)
  case h_3 hs => exact h.failAttempt (.inr hs)
  all_goals exact h

theorem pulse (h : Keeps m s t) (n : Nat) : Keeps false s (pulse b n t) := by
  have hw : Keeps false s t := h.weaken
  unfold Machine.pulse
  dsimp only
  split
  · exact (hw.spinKeep _ rfl rfl rfl rfl rfl nofun).judgeRevolution _
  · exact hw.spinKeep _ rfl rfl rfl rfl rfl nofun

theorem tachExpired (h : Keeps m s t) : Keeps false s (tachExpired b t) := by
  have hf : Keeps false s (t.modSpin b fun x => { x with tachRef := false, lastPeriod := none, tachTimer := none }) :=
    h.weaken.spinKeep _ rfl rfl rfl rfl rfl nofun
  unfold Machine.tachExpired
  dsimp only
  split
  case h_1 hs => exact hf.platterStop hs
  case h_2 hs | h_3 hs | h_4 hs => exact hf.missedRevolution (by rw [hs]; rfl)
  all_goals exact hf

end Keeps

end Sys2Proof.Machine
end

section
namespace Sys2Proof.Machine

variable {b : Bay} {m : Bool} {s t u : State} {c : Consumer}

/-! ### The Positioner Controller keeps the laws of the mechanisms (R88 to R113) -/

theorem PosState.defersBrake_of_loaded {x : PosState} (h : x.loaded = true) : x.defersBrake = true := by
  cases x <;> simp [PosState.loaded, PosState.defersBrake] at h ⊢

namespace Keeps

theorem posChanged (h : Keeps m s t) : Keeps m s (posChanged b t) := by
  have reporting : ∀ u, Keeps m s u → Keeps m s (if (u.bay b).pos.state.loaded then u else clearQualified b (dropSauWork b u)) := by
    intro u hu
    split
    · exact hu
    · exact hu.dropSau.unqualify
  have ordered : ∀ (p : Bool) u, Keeps m s u → Keeps m s (if p then Machine.brakeOrder b u else u) := by
    intro p u hu
    split
    · exact hu.brakeOrder
    · exact hu
  exact (ordered _ _ (ordered _ _ (reporting t h).speedLostUpdate)).cutPulse.judgeLatch

theorem dropPending (h : Keeps m s t) : Keeps m s (dropPending b t) := (h.posKeep _ rfl).withdraw _

theorem enterParked (h : Keeps m s t) : Keeps m s (enterParked b t) :=
  ((((h.posMove _ fun hd => by cases hd).lower _ _).completeIf _ _).completeIf _ _).posChanged

theorem enterPosFault (h : Keeps m s t) : Keeps m s (enterPosFault b t) := ((h.posMove _ fun hd => by cases hd).lower _ _).posChanged

theorem headsDropped (h : Keeps m s t) (n : Nat) (f : Positioner → Positioner) (hf : (f (t.bay b).pos).state.defersBrake = true →
    (t.bay b).pos.state.defersBrake = true ∨ (t.bay b).spin.state.regulated = true) : Keeps m s (headsDropped b n f t) :=
  ((h.posMove f hf).withdraw _).lower _ _

/-- R103: UNLOADING, under the rail power the heads had. -/
theorem enterUnloading (h : Keeps m s t) (hl : (t.bay b).pos.state.loaded = true) : Keeps m s (enterUnloading b t) := by
  have hu : Keeps m s (unloadBegun b t) := (h.headsDropped 60 _ fun _ => .inl (PosState.defersBrake_of_loaded hl)).posChanged
  rw [enterUnloading_begun]
  split
  · exact hu.enterParked
  · exact hu

theorem unloadOrder (h : Keeps m s t) : Keeps m s (unloadOrder b t) := by
  unfold Machine.unloadOrder
  split
  · next hl => exact h.enterUnloading hl
  · split
    · exact h.endLoadWait
    · exact h

theorem enterRetracting (h : Keeps m s t) : Keeps m s (enterRetracting b t) := by
  have hu : Keeps m s (retractBegun b t) := (h.headsDropped 0 _ fun hd => by cases hd).posChanged
  rw [enterRetracting_begun]
  split
  · exact hu.enterParked
  · exact hu

theorem retractOrder (h : Keeps m s t) : Keeps m s (retractOrder b t) := by
  unfold Machine.retractOrder
  split
  · exact h.endLoadWait
  · exact h
  · exact h.enterRetracting

theorem stopLoad (h : Keeps m s t) : Keeps m s (stopLoad b t) := by
  unfold Machine.stopLoad
  split
  · exact h.endLoadWait.completeIf _ _
  · split
    · exact h.unloadOrder
    · exact h

/-- R109: an aborted seek settles, from SEEKING or SETTLING. -/
theorem abortSeek (h : Keeps m s t) : Keeps m s (abortSeek b t) := by
  unfold Machine.abortSeek
  split
  · exact h.dropPending.completeIf _ _
  · split
    · next hs =>
      simp only [Bool.or_eq_true, decide_eq_true_eq] at hs
      unfold Machine.settleAborted
      refine (h.setTarget _).posMove _ fun _ => .inl ?_
      rw [setTarget_pos_state]
      rcases hs with e | e <;> rw [e] <;> rfl
    · exact h

theorem abortPositioner (h : Keeps m s t) : Keeps m s (abortPositioner b t) := by
  unfold Machine.abortPositioner
  split
  · exact h.stopLoad
  · split
    · exact h.abortSeek
    · exact h

theorem stopByUnload (h : Keeps m s t) : Keeps m s (stopByUnload b t) := by
  unfold Machine.stopByUnload
  split
  · exact h.stopLoad
  · split
    · exact h.unloadOrder
    · exact h

theorem faultAndUnload (h : Keeps m s t) (x : Cause) : Keeps m s (faultAndUnload b x t) := (h.raiseFatal x).unloadOrder

theorem offTrackMark (h : Keeps m s t) : Keeps m s (offTrackMark b t) := by
  unfold Machine.offTrackMark
  split
  · exact ((h.close.count _).posKeep _ rfl).ask _ _
  · exact h.faultAndUnload _

theorem reserveDisqualified (h : Keeps m s t) : Keeps m s (reserveDisqualified b t) := by
  unfold Machine.reserveDisqualified
  split
  · exact h.faultAndUnload _
  · split
    · exact h.failLoadWait _
    · exact h

/-! #### Wedges (R91) -/

theorem invalidWedge (h : Keeps m s t) : Keeps m s (invalidWedge b t) := by
  unfold Machine.invalidWedge
  split
  · split
    · exact ((h.posKeep _ rfl).count _).faultAndUnload _
    · refine h.posKeep _ ?_
      dsimp only
      split <;> rfl
  · exact h

theorem impliedWedges (n : Nat) (h : Keeps m s t) : Keeps m s (impliedWedges b n t) := by
  induction n generalizing t with
  | zero => exact h
  | succ n ih => exact ih h.invalidWedge

theorem acquisitionComplete (h : Keeps m s t) (hp : (t.bay b).pos.state = .acquiring) : Keeps m s (acquisitionComplete b t) := by
  refine completeIf ((h.setTarget _).unqualify.posMove _ fun _ => .inl ?_) _ _
  rw [clearQualified, State.modGate_pos, setTarget_pos_state, hp]
  rfl

theorem settled (h : Keeps m s t) (hp : (t.bay b).pos.state = .settling) : Keeps m s (settled b t) := by
  have hs : Keeps m s (clampAct b Const.followUnits t) := h.posKeep _ rfl
  have hf := hs.posMove (b := b) (fun p =>
    { p with state := .following, seekTimer := none, settle := 3, offTrack := 0, clean := 0, servoLost := 0, owner := .none })
    fun _ => .inl (by simp [clampAct, hp, PosState.defersBrake, PosState.loaded])
  refine lower ?_ _ _
  split
  · exact hf.completeIf _ _
  · exact hf.completeIf _ _
  all_goals exact hf

theorem followWedge (h : Keeps m s t) (e : Int) : Keeps m s (followWedge b e t) := by
  unfold Machine.followWedge
  dsimp only
  split
  · exact h.posKeep _ rfl
  · split
    · split
      · exact (h.posKeep _ rfl).offTrackMark
      · exact h.posKeep _ rfl
    · split <;> exact h.posKeep _ rfl

theorem validWedge (h : Keeps m s t) (e : Int) (a : Bool) : Keeps m s (validWedge b e a t) := by
  unfold Machine.validWedge
  split
  case h_1 hp => exact h.posMove _ fun _ => .inl (by rw [hp]; rfl)
  case h_2 hp =>
    dsimp only
    split
    · exact (h.posKeep _ rfl).acquisitionComplete (by simp [hp])
    · exact (h.posKeep _ rfl).posKeep _ rfl
  case h_3 => exact (h.posKeep _ rfl).followWedge e
  case h_4 hp => exact h.posMove _ fun _ => .inl (by rw [hp]; rfl)
  case h_5 hp =>
    dsimp only
    split
    · split
      · exact (h.posKeep _ rfl).settled (by simp [hp])
      · exact (h.posKeep _ rfl).posKeep _ rfl
    · exact (h.posKeep _ rfl).posKeep _ rfl
  all_goals exact h

theorem countWedges (h : Keeps m s t) (r : WedgeResult) : Keeps m s (countWedges b r t) := by
  unfold Machine.countWedges
  dsimp only
  split
  · split
    · exact (h.impliedWedges _).validWedge _ _
    · exact (h.impliedWedges _).invalidWedge
  · exact h.impliedWedges _

/-! #### Timers and the PARK switch -/

theorem loadWaitOver (h : Keeps m s t) : Keeps m s (loadWaitOver b t) := by
  unfold Machine.loadWaitOver
  dsimp only
  split
  · exact h.posKeep _ rfl
  · exact (h.posKeep _ rfl).failLoadWait _

/-- R100: SETTLING, from SEEKING or SETTLING. -/
theorem seekTimedOut (h : Keeps m s t) (hr : seekRunning b t = true) : Keeps m s (seekTimedOut b t) := by
  have hd : (t.bay b).pos.state.defersBrake = true := by
    simp only [seekRunning, Bool.or_eq_true, decide_eq_true_eq] at hr
    rcases hr with e | e <;> rw [e] <;> rfl
  have hs := ((h.count (b := b) fun c => { c with seekTimeouts := Machine.count c.seekTimeouts }).setTarget (b := b)
    (nearestTrack b (countBay b (fun c => { c with seekTimeouts := Machine.count c.seekTimeouts }) t))).posMove (b := b)
      (fun p => { p with state := .settling, settle := 0, seekTimer := none, owner := .none })
      fun _ => .inl (by rw [setTarget_pos_state, State.modCnt_pos]; exact hd)
  unfold Machine.seekTimedOut
  dsimp only
  split
  · exact hs.completeIf _ _
  · exact hs

theorem parkReached (h : Keeps m s t) : Keeps m s (parkReached b t) := by
  unfold Machine.parkReached
  split
  · exact h.enterParked
  · exact h.enterParked
  all_goals exact h

theorem parkLost (h : Keeps m s t) : Keeps m s (parkLost b t) := by
  unfold Machine.parkLost
  split
  · exact (h.failLoadWait _).enterRetracting
  · exact h

end Keeps

end Sys2Proof.Machine
end

section
namespace Sys2Proof.Machine

variable {b : Bay} {m : Bool} {s t u : State} {c : Consumer}

/-! ### Releases, resets, takings and the end of an event keep the laws of the mechanisms -/

theorem afterReset_laws (p : BayPins) :
    (BayState.afterReset p).HeadsOver ∧ (BayState.afterReset p).spin.OutputsFollow ∧ (BayState.afterReset p).OffUnder := by
  refine ⟨fun hd => ?_, ⟨rfl, rfl, fun _ => rfl⟩, fun hm => by cases hm⟩
  rcases p with ⟨pres, btn, _ | _, wgate⟩ <;> cases hd

namespace Keeps

theorem orderToRest (h : Keeps m s t) : Keeps m s (orderToRest b t) := by
  have headsFirst : Keeps m s (if (t.bay b).pos.state.loaded then Machine.unloadOrder b t else t) := by
    split
    · exact h.unloadOrder
    · exact h
  have platterSecond : ∀ (p : Bool) u, Keeps m s u → Keeps m s (if p then Machine.brakeOrder b u else u) := by
    intro p u hu
    split
    · exact hu.brakeOrder
    · exact hu
  exact (platterSecond _ _ headsFirst).judgeLatch

theorem requestRelease (h : Keeps m s t) : Keeps m s (requestRelease b t) := by
  have accepted : Keeps m s (acceptRelease b t) := (((h.changeCart _).close.cancel).cancelSpinUp.stopByUnload).orderToRest
  unfold Machine.requestRelease
  split
  · exact accepted
  · exact accepted
  all_goals exact h

theorem dropLatch (h : Keeps m s t) : Keeps m s (dropLatch b t) := (h.lower _ _).withdraw _

theorem abortBay (h : Keeps m s t) : Keeps m s (abortBay b t) := h.cancel.cancelSpinUp.abortPositioner

theorem stopForReset (h : Keeps m s t) : Keeps m s (stopForReset b t) := h.close.cancel.cancelSpinUp.stopByUnload

theorem resetSpindle (h : Keeps m s t) : Keeps m s (resetSpindle b t) := by
  unfold Machine.resetSpindle
  split
  · next hs => exact h.spinOff _ (.inl (by rw [hs]; rfl)) id (by simp [offUnderOvercurrent, hs])
  · next hs => exact h.enterBraking _ (.inl (by rw [hs]; rfl)) (.inl (by simp))
  all_goals exact h.brakeOrder

theorem resetPositioner (h : Keeps m s t) : Keeps m s (resetPositioner b t) := by
  unfold Machine.resetPositioner
  dsimp only
  refine posKeep ?_ _ rfl
  split
  · exact h.enterRetracting
  · exact h.unloadOrder

theorem resetBlocks (h : Keeps m s t) : Keeps m s (resetBlocks b t) :=
  ((h.changeSched _).changeCart _).resetPositioner.resetSpindle

/-! #### Takings -/

theorem gate (h : Keeps m s t) (b : Bay) : Keeps m s (judgeGate b t) := by
  have hside : ∀ c, ((judgeGate b t).bay c).mon = (t.bay c).mon ∧ ((judgeGate b t).bay c).demod = (t.bay c).demod := by
    intro c
    rcases Bay.cases_eq b c with rfl | rfl
    · rw [judgeGate_bay]
      exact ⟨rfl, rfl⟩
    · simp
  exact h.same (by simp) (by simp) (fun c => by rw [(hside c).1]) (fun c => (hside c).2) (by simp)

theorem beginSeek (h : Keeps m s t) (track head : Nat) : Keeps m s (beginSeek b track head t) := (h.posKeep _ rfl).ask _ _

/-- R150: what an operation does at its taking. -/
theorem startOp (h : Keeps m s t) (k : OpKind) : Keeps m s (startOp b k t) := by
  cases k with
  | spinUp =>
    simp only [Machine.startOp, takeSpinUp]
    split
    · exact h.complete _
    · split
      · next hs => exact h.beginAttempt (by rw [hs]; rfl)
      · exact h.complete _
      · exact h.complete _
      · exact h.spinKeep _ rfl rfl rfl rfl rfl
      · exact h.raiseFatal _
      all_goals exact h
  | spinDown =>
    have hu : Keeps m s (if ((closeWindow b t).bay b).pos.state.loaded then Machine.unloadOrder b (closeWindow b t) else closeWindow b t) := by
      split
      · exact h.close.unloadOrder
      · exact h.close
    simp only [Machine.startOp, takeSpinDown]
    split
    · exact h.close.complete _
    · exact h.close.complete _
    · exact h.close
    all_goals exact hu.brakeOrder
  | loadHeads =>
    simp only [Machine.startOp, takeLoadHeads]
    split
    case h_9 =>
      split
      · exact (h.posKeep _ rfl).ask _ _
      · exact h.complete _
    all_goals exact h.complete _
  | unloadHeads =>
    simp only [Machine.startOp, takeUnloadHeads]
    split
    · exact h.close.complete _
    · exact h.close.complete _
    · exact h.close
    · exact h.close
    all_goals exact h.close.unloadOrder
  | seek track head =>
    simp only [Machine.startOp, takeSeek]
    split
    · split
      · exact h.close.complete _
      · exact h.close.beginSeek _ _
    · split
      · exact h.close.posKeep _ rfl
      · exact h.close.beginSeek _ _
    all_goals exact h.close.complete _
  | openWrite =>
    simp only [Machine.startOp, takeOpenWrite]
    split
    · exact h.complete _
    · split
      · exact (h.modGate _).complete _
      · exact h.complete _
  | closeWrite => exact h.close.complete _
  | eject => exact h.requestRelease

theorem takeRun (n : Nat) (h : Keeps m s t) : Keeps m s (takeRun b n t) := by
  induction n generalizing t with
  | zero => exact h
  | succ n ih =>
    unfold Machine.takeRun
    split
    · split
      · exact h
      · exact ih ((((h.changeSched _).startOp _).gate .A).gate .B)
    · exact h

theorem settle (h : Keeps m s t) : Keeps m s (settle t) := (((h.gate .A).gate .B).takeRun _).takeRun _

theorem reset (h : Keeps m s t) : Keeps false s (partReset t) := by
  have hw : Keeps false s t := h.weaken
  refine hw.trans ⟨fun c => ?_, fun _ e he => absurd he List.not_mem_nil⟩
  rw [partReset_bay]
  obtain ⟨h1, h2, h3⟩ := afterReset_laws (t.bay c).pins
  exact ⟨fun _ => h1, fun _ => h2, fun _ => h3, nofun⟩

/-! #### The supply and the spindle current (R41, R44, R59, R60) -/

theorem spindleOnFail (h : Keeps m s t) : Keeps m s (spindleOnFail b t) := by
  unfold Machine.spindleOnFail
  split
  case h_1 hs => exact h.abandonPower hs
  case h_5 | h_6 => exact h.brakeOrder
  case h_7 => exact h.mergeStop
  case h_8 | h_9 => exact h
  case h_2 hs | h_3 hs | h_4 hs => exact h.enterBraking _ (.inl (by rw [hs]; rfl)) (.inl (by simp))

theorem supplyFailBay (h : Keeps m s t) (b : Bay) : Keeps m s (supplyFailBay b t) := by
  have abandoned : Keeps m s (abandonCycle b t) := by
    unfold abandonCycle
    split
    · exact (h.changeCart _).dropLatch
    · exact h
  exact ((abandoned.raiseFatal _).retractOrder).spindleOnFail

theorem setLedger (h : Keeps m s t) {l : Ledger} (hl : t.ledger.Within → l.Within) : Keeps m s (t.setLedger l) := h.ledger hl []

theorem changeSupply (h : Keeps m s t) (x : SupplyState) : Keeps m s (changeSupply x t) := by
  have hx : Keeps m s (latchEvent .supply (t.setSupply { t.supply with state := x })) := h.ofBay (by simp) (by simp)
  have judged : ∀ {v : State} (y : SupplyState), Keeps m s v →
      Keeps m s (Machine.tellGrants (v.ledger.supply y).2 (v.setLedger (v.ledger.supply y).1)) :=
    fun {v} y hv => hv.ledger (fun hl =>
      (hl.of_subset (m := { v.ledger with effective := effectiveOf v.ledger.capacity y }) (fun _ => id) rfl).reexamine) _
  unfold Machine.changeSupply
  dsimp only
  split
  · refine supplyFailBay (supplyFailBay (setLedger (hx.ofBay ?_ ?_) fun _ e he => absurd he List.not_mem_nil) .A) .B
    · simp [countPart]
    · rfl
  · refine judged _ (hx.ofBay ?_ rfl)
    simp [countPart]
  · exact judged _ hx

/-- R41: the heads are off the rail before the spindle brakes. -/
theorem brakeOvercurrent (h : Keeps m s t) (hs : (t.bay b).spin.state.turning = true) : Keeps m s (brakeOvercurrent b t) := by
  obtain ⟨⟨home, hne⟩, -⟩ := retractOrder_homeward b (t.modSpin b (Spindle.driven 0))
  have hd : ((Machine.retractOrder b (t.modSpin b (Spindle.driven 0))).bay b).pos.state.defersBrake = false := by
    rcases home.state with e | e | e
    · rw [e]; rfl
    · exact absurd e hne
    · rw [e]; rfl
  have hr : Keeps m s (Machine.retractOrder b (t.modSpin b (Spindle.driven 0))) := (h.driven 0 hs).retractOrder
  unfold Machine.brakeOvercurrent
  dsimp only
  split
  · next hb => exact hr.spinOff _ (.inr hd) id (by simp [offUnderOvercurrent, hb])
  · exact hr.enterBraking _ (.inr hd) (.inl (by simp))

theorem spindleOvercurrent (h : Keeps m s t) : Keeps m s (spindleOvercurrent b t) := by
  unfold Machine.spindleOvercurrent
  split
  case h_6 hs =>
    refine enterSpinFault ((h.raiseOutcome _).withdraw _) (withdrawRequest_unregulated _ ?_)
    simp [Machine.raiseOutcome, hs, SpinState.regulated]
  case h_7 hs =>
    exact (h.spinOff _ (.inl (by rw [hs]; rfl)) id (by simp [offUnderOvercurrent, hs])).raiseFatal _
  case h_8 | h_9 => exact h
  all_goals
    next hs => exact (h.raiseOutcome _).brakeOvercurrent (by simp [Machine.raiseOutcome, hs, SpinState.turning])

end Keeps

/-- What keeps the laws of the mechanisms leaves a spindle off that is off. -/
theorem Keeps.offUnder (h : Keeps false s t) (ho : offUnderOvercurrent (s.bay b).spin = true) : (t.bay b).OffUnder := (h.bay b).off fun _ => ho

/-- R41: what becomes active stops the spindle. -/
theorem spindleOvercurrent_off (b : Bay) (s : State) : ((spindleOvercurrent b s).bay b).OffUnder := by
  have braked : ∀ v : State, ((brakeOvercurrent b v).bay b).OffUnder := by
    intro v
    unfold brakeOvercurrent
    dsimp only
    split
    · next hb => exact fun _ => by simp [offUnderOvercurrent, hb]
    · exact Keeps.offUnder (((Keeps.refl (State.modSpin _ b _)).lower _ _).spindleChanged) (by simp [offUnderOvercurrent])
  unfold spindleOvercurrent
  split
  case h_6 => exact Keeps.offUnder (Keeps.refl (State.modSpin _ b _)).spindleChanged (by simp [offUnderOvercurrent])
  case h_7 hs => exact ((Keeps.refl _).raiseFatal _).offUnder (by simp [offUnderOvercurrent, hs])
  case h_8 hs | h_9 hs => exact fun _ => by simp [offUnderOvercurrent, hs]
  all_goals exact braked _

namespace Keeps

/-- R140: an overcurrent state that becomes active stops the spindle; one that ends asks nothing of it. -/
theorem judgeCurrent (h : Keeps m s t) (b : Bay) (v : Nat) : Keeps m s (judgeCurrent b v t) := by
  unfold Machine.judgeCurrent
  dsimp only
  split
  · exact h.setAside rfl rfl rfl
  · split
    · exact h.setAside rfl rfl rfl
    · split
      · next hv =>
        set w := latchEvent (.overcurrent b) (t.modMon b fun m =>
          { m with overcurrent := decide (t.supply.limits.overcurrent < v), overCount := 0 }) with hw
        have hk : Keeps m w (Machine.spindleOvercurrent b w) := (Keeps.refl w).spindleOvercurrent
        refine h.trans ⟨fun c => ?_, fun hl => hk.within (by simpa [hw] using hl)⟩
        rcases Bay.cases_eq b c with rfl | rfl
        · refine ⟨fun hx => (hk.bay c).heads ?_, fun hx => (hk.bay c).outputs ?_, fun _ => spindleOvercurrent_off c w,
            fun hm => .trans ⟨by simp [hw], by simp [hw], by simp [hw], by simp [hw]⟩ ((hk.bay c).tach hm)⟩
          · simpa [hw, BayState.HeadsOver] using hx
          · simpa [hw] using hx
        · have e : w.bay b.other = t.bay b.other := by simp [hw]
          rw [← e]
          exact hk.bay b.other
      · next hv => exact h.setBay ⟨id, id, fun _ hm => absurd hm hv, fun _ => ⟨rfl, rfl, id, rfl⟩⟩

theorem judgeReserve (h : Keeps m s t) (b : Bay) (v : Nat) : Keeps m s (judgeReserve b v t) := by
  unfold Machine.judgeReserve
  dsimp only
  split
  · split
    · exact reserveDisqualified (h.setAside rfl rfl rfl)
    · exact h
  · split
    · split
      · exact tryLoading (h.setAside rfl rfl rfl)
      · exact h.setAside rfl rfl rfl
    · exact h.setAside rfl rfl rfl

theorem judgeSample (h : Keeps m s t) (position v : Nat) : Keeps m s (judgeSample position v t) := by
  have supplied : ∀ x, Keeps m s (t.setSupply x) := fun x => h.ofBay (by simp) (by simp)
  unfold Machine.judgeSample
  split
  · unfold judge12
    dsimp only
    split
    · exact supplied _
    · exact (supplied _).changeSupply _
  · unfold judge5
    dsimp only
    split
    · split
      · split
        · exact (supplied _).changeSupply _
        · exact supplied _
      · exact supplied _
    · split
      · exact h.changeSupply _
      · exact h
  · exact h.judgeReserve .A v
  · exact h.judgeReserve .B v
  · exact h.judgeCurrent .A v
  · exact h.judgeCurrent .B v
  · exact h

end Keeps

end Sys2Proof.Machine
end

section
namespace Sys2Proof.Machine

variable {b : Bay} {m : Bool} {s t u : State} {c : Consumer}

/-! ### Requests, the link and the events keep the laws of the mechanisms -/

/-- R58: behind a capacity taken no entry exceeds it, whatever there was. -/
theorem Ledger.take_within (l : Ledger) (n : Nat) (x : SupplyState) : (l.take n x).1.Within := by
  intro e he
  simp only [Ledger.take, List.mem_filter, decide_eq_true_eq] at he
  exact he.2

namespace Keeps

theorem modLink (h : Keeps m s t) (f : Link → Link) : Keeps m s (t.modLink f) := h.ofBay (by simp) (by simp)

theorem modSense (h : Keeps m s t) (f : Sense → Sense) : Keeps m s (t.modSense f) := h.ofBay (by simp) (by simp)

theorem modStore (h : Keeps m s t) (f : Store → Store) : Keeps m s (t.modStore f) := h.ofBay (by simp) (by simp)

theorem setSau (h : Keeps m s t) (x : Option Computation) : Keeps m s (t.setSau x) := h.ofBay (by simp) (by simp)

theorem setSupply (h : Keeps m s t) (x : Supply) : Keeps m s (t.setSupply x) := h.ofBay (by simp) (by simp)

theorem countPart (h : Keeps m s t) (f : PartCounters → PartCounters) : Keeps m s (countPart f t) := h.ofBay (by simp [Machine.countPart]) rfl

theorem latchEvent (h : Keeps m s t) (x : LatchedClass) : Keeps m s (latchEvent x t) := h.ofBay (by simp) (by simp)

theorem reply (h : Keeps m s t) (kind : Nat) (code bay : Byte) (payload : List Byte) : Keeps m s (reply kind code bay payload t) := h.modLink _

theorem done (h : Keeps m s t) (code bay : Byte) (payload : List Byte) : Keeps m s (done code bay payload t) := h.reply _ _ _ _

theorem modPins (h : Keeps m s t) (f : BayPins → BayPins) : Keeps m s (t.modPins b f) := h.setAside rfl rfl rfl

theorem modDemod (h : Keeps m s t) (f : Demod → Demod) : Keeps false s (t.modDemod b f) := h.weaken.setAside rfl rfl rfl nofun

theorem modSlot (h : Keeps m s t) (f : Option Report → Option Report) : Keeps m s (t.modSlot b f) := h.setAside rfl rfl rfl

theorem modGains (h : Keeps m s t) (f : Gains → Gains) : Keeps m s (t.modGains b f) := h.setAside rfl rfl rfl

theorem modSched (h : Keeps m s t) (f : Sched → Sched) : Keeps m s (t.modSched b f) := h.setAside rfl rfl rfl

theorem refuseRecording (h : Keeps m s t) (code bay : Byte) (r : RefusalRecord) : Keeps m s (refuseRecording code bay r t) :=
  h.ofBay (by simp [Machine.refuseRecording, Machine.reply, Machine.countPart]) rfl

theorem refuse (h : Keeps m s t) (code bay : Byte) (r : Reason) : Keeps m s (refuse code bay r t) := h.refuseRecording _ _ _

/-! #### Requests -/

theorem requestOp (h : Keeps m s t) (b : Bay) (k : OpKind) : Keeps m s (requestOp b k t) := by
  unfold Machine.requestOp
  split
  · exact h.refuse _ _ _
  · unfold acceptOp queued advanceTag
    have hq := h.modSched (b := b) fun x => { x with queue := x.queue ++ [⟨t.nextTag, k⟩] }
    exact ((hq.ofBay (by simp) (by simp)).reply _ _ _ _).settle

/-- R58: the consumers of the entries above the capacity are told so. -/
theorem tellAllNoBudget (cs : List Consumer) (h : Keeps m s t) : Keeps m s (tellAllNoBudget cs t) := by
  induction cs generalizing t with
  | nil => exact h
  | cons c cs ih => exact ih (h.tellNoBudget c)

theorem takeCapacity (h : Keeps m s t) (n : Nat) : Keeps m s (takeCapacity n t) :=
  ((h.setLedger fun _ => Ledger.take_within t.ledger n t.supply.state).tellAllNoBudget _).ledger (fun hl => hl.reexamine) _

theorem requestSetBudget (h : Keeps m s t) (n : BitVec 16) : Keeps m s (requestSetBudget n t) := by
  unfold Machine.requestSetBudget
  dsimp only
  split
  · exact h.refuse _ _ _
  · exact ((h.takeCapacity _).done _ _ _).settle

theorem installList (h : Keeps m s t) (l : List (Option SenseEntry)) : Keeps m s (installList l t) := by
  unfold Machine.installList
  exact (h.modStore _).modSense _

theorem requestWriteSenseList (h : Keeps m s t) (items : List SenseItem) : Keeps m s (requestWriteSenseList items t) := by
  unfold Machine.requestWriteSenseList writeList
  split
  · exact h.refuse _ _ _
  · split
    · exact h.refuse _ _ _
    · split
      · exact (h.modSense _).done _ _ _
      · exact (h.installList _).done _ _ _

theorem requestReadSamples (h : Keeps m s t) (selector first : Byte) : Keeps m s (requestReadSamples selector first t) := by
  unfold Machine.requestReadSamples
  dsimp only
  split
  · exact Keeps.done (h.ofBay (by simp) (by rfl)) _ _ _
  · split
    · exact (h.modStore _).done _ _ _
    · exact h.refuse _ _ _

/-- R166: a request handed to its owning block. -/
theorem takeRequest (h : Keeps m s t) (i : Instr) : Keeps m s (takeRequest i t) := by
  cases i with
  | spinUp b | spinDown b | loadHeads b | unloadHeads b | seek b _ _ | openWrite b | closeWrite b | eject b => exact h.requestOp b _
  | haltBay b => exact (h.changeSched _).done _ _ _
  | runBay b => exact ((h.changeSched _).done _ _ _).settle
  | setStepMode b on => exact (h.modSched _).done _ _ _
  | abortBay b => exact (h.abortBay.done _ _ _).settle
  | bayReset b => exact (h.stopForReset.resetBlocks.done _ _ _).settle
  | setPrevent b on =>
    simp only [Machine.takeRequest, requestSetPrevent]
    split
    · exact h.refuse _ _ _
    · exact h.refuse _ _ _
    all_goals exact (h.modCart _).done _ _ _
  | setTrim b trim => exact (h.spinKeep _ rfl rfl rfl rfl rfl).done _ _ _
  | setGains b kv kp kd limit => exact (((h.modGains _).modGate _).gate b).done _ _ _
  | setBudget c => exact h.requestSetBudget c
  | writeProfile ds =>
    simp only [Machine.takeRequest, requestWriteProfile]
    split
    · exact h.refuse _ _ _
    · split
      · exact h.refuse _ _ _
      · exact Keeps.done (h.ofBay (by simp) (by rfl)) _ _ _
  | writeSenseList es => exact h.requestWriteSenseList es
  | readSamples selector first => exact h.requestReadSamples selector first
  | setSampleMode mode interval =>
    simp only [Machine.takeRequest, requestSetSampleMode]
    split
    · exact h.refuse _ _ _
    · exact ((h.modSense _).modStore _).done _ _ _
  | setLimits f l sg rc rl ro oc =>
    simp only [Machine.takeRequest, requestSetLimits]
    split
    · exact (h.setSupply _).done _ _ _
    · exact h.refuse _ _ _
  | resumeSense => exact (h.modSense _).done _ _ _
  | sampleNow channel gain =>
    simp only [Machine.takeRequest, requestSampleNow]
    exact (h.modSense _).modLink _
  | clearEvents x =>
    simp only [Machine.takeRequest, requestClearEvents]
    exact Keeps.done (h.ofBay (by simp [clearClasses, refreshAttn]) (by rfl)) _ _ _
  | setEventMask x =>
    simp only [Machine.takeRequest, requestSetEventMask]
    exact Keeps.done (h.ofBay (by simp [refreshAttn]) (by rfl)) _ _ _
  | readCounters => exact (((h.count _).count _).countPart _).done _ _ _
  | readRefusals =>
    simp only [Machine.takeRequest, requestReadRefusals]
    exact Keeps.done (h.ofBay (by simp) (by rfl)) _ _ _
  | readCompletions =>
    simp only [Machine.takeRequest, requestReadCompletions]
    exact Keeps.done (h.ofBay (by simp [refreshAttn]) (by rfl)) _ _ _
  | resetPart =>
    simp only [Machine.takeRequest, requestResetPart]
    exact (h.done _ _ _).modLink _
  | readProfile _ | readSenseList | identify | readStatus _ | readEvents => exact h.done _ _ _
  | _ => exact h

/-! #### The link -/

theorem releaseFrame (h : Keeps m s t) : Keeps m s (releaseFrame t) := h.modLink _

theorem endFrame (h : Keeps m s t) : Keeps m s (endFrame t) := by
  unfold Machine.endFrame
  split
  · exact h.takeRequest _
  · exact h.refuseRecording _ _ _

theorem lfrmReleased (h : Keeps m s t) : Keeps m s (lfrmReleased t) := by
  unfold Machine.lfrmReleased
  split
  · exact h
  · split
    · exact h.releaseFrame.endFrame
    · exact h.releaseFrame

/-- A whole frame (log entry 3). -/
theorem deliver (h : Keeps false s t) (frame : List Byte) {f : State → State} (hf : ∀ u, Keeps false s u → Keeps false s (f u)) :
    Keeps false s (deliver frame f t) := by
  unfold Machine.deliver
  split
  · exact h
  · split
    · exact h.releaseFrame
    · split
      · exact h.reset.releaseFrame
      · split
        · exact hf _ (h.modLink _)
        · exact h.releaseFrame.endFrame

theorem readStrobe (h : Keeps false s t) : Keeps false s (readStrobe t) := by
  unfold Machine.readStrobe
  split
  · dsimp only
    split
    · split
      · exact (h.modLink _).reset
      · exact (h.modLink _).modLink _
    · exact h.modLink _
  · exact h

theorem writeStrobe (h : Keeps false s t) (x : Byte) : Keeps false s (writeStrobe x t) := by
  unfold Machine.writeStrobe
  split
  · exact h
  · split
    · exact h.modLink _
    · exact h.modLink _
    · split
      · exact h.reset
      · exact h.modLink _
    · exact h.modLink _

theorem strobe (h : Keeps false s t) (ldir lfrm : Bool) (x : Byte) : Keeps false s (strobe ldir lfrm x t) := by
  unfold Machine.strobe
  split
  · exact h
  · dsimp only
    split
    · exact (h.modLink _).readStrobe
    · split
      · exact (h.modLink _).writeStrobe x
      · exact h.modLink _

theorem judgeWithheld (h : Keeps false s t) : Keeps false s (judgeWithheld t) := by
  unfold Machine.judgeWithheld
  split
  · exact h
  · dsimp only
    split
    · exact (h.modLink _).writeStrobe _
    · exact h.modLink _

/-! #### Events -/

theorem presenceFall (h : Keeps m s t) : Keeps m s (presenceFall b t) := by
  have gone : Keeps m s (Machine.dropLatch b (enterEmpty b t)) := dropLatch (cancel (close ((h.modCart _).latchEvent _)))
  have leaves : Keeps m s (cartridgeLeaves b t) := (gone.completeIf _ _).modCart _
  have loss : Keeps m s (presenceLoss b t) := by
    unfold presenceLoss
    dsimp only
    split
    · exact (gone.complete _).modCart _
    · exact (gone.raiseFatal _).retractOrder.brakeOrder
  unfold Machine.presenceFall
  split
  · exact h
  · exact h.changeCart _
  · exact loss
  · exact loss
  · split
    · exact loss
    · exact leaves
  · exact leaves

theorem longPressAction (h : Keeps m s t) : Keeps m s (longPressAction b t) := by
  unfold Machine.longPressAction
  split
  · exact ((h.modCart _).latchEvent _).requestRelease
  · exact h.requestRelease

theorem buttonStable (h : Keeps m s t) : Keeps m s (buttonStable b t) := by
  have hr : Keeps m s (t.modCart b fun c => { c with levelTimer := none, pressed := false, pressTimer := none }) := h.modCart _
  unfold Machine.buttonStable shortPress
  split
  · dsimp only
    split
    · split
      · exact hr.latchEvent _
      · exact hr.requestRelease
    · exact hr
  · exact h.modCart _

theorem waitOver (h : Keeps m s t) : Keeps m s (waitOver b t) := by
  unfold Machine.waitOver
  split
  · exact (h.changeCart _).judgeLatch
  · exact (h.changeCart _).raiseFatal _

theorem openScan (h : Keeps m s t) : Keeps m s (openScan t) := by
  unfold Machine.openScan
  dsimp only
  refine modSense ?_ _
  split
  · exact (h.modSense _).installList _
  · exact h.modSense _

theorem goOn (h : Keeps m s t) (goal : Option Nat) : Keeps m s (goOn goal t) := by
  unfold Machine.goOn
  dsimp only
  refine modSense ?_ _
  split
  · exact h.modSense _
  · split
    · exact (h.modSense _).openScan
    · exact h.modSense _

theorem storeSample (h : Keeps m s t) (position channel v : Nat) : Keeps m s (storeSample position channel v t) := by
  unfold Machine.storeSample storeImage storeHistory
  split
  · exact h.modStore _
  · dsimp only
    split
    · exact h.modStore _
    · exact ((h.modStore _).countPart _).latchEvent _

theorem actOnMarks (h : Keeps m s t) (e : SenseEntry) : Keeps m s (actOnMarks e t) := by
  unfold Machine.actOnMarks
  dsimp only
  split <;> split
  · exact (h.latchEvent _).modSense _
  · exact h.modSense _
  · exact h.latchEvent _
  · exact h

theorem listCompletion (h : Keeps m s t) (position : Nat) (raw : BitVec 10) : Keeps m s (listCompletion position raw t) := by
  unfold Machine.listCompletion
  split
  · exact h
  · exact (((h.storeSample _ _ _).judgeSample _ _).actOnMarks _).goOn _

theorem scanDueNow (h : Keeps m s t) : Keeps m s (scanDueNow t) := by
  unfold Machine.scanDueNow beginScan
  dsimp only
  split
  · exact (h.modSense _).modSense _
  · exact (h.modSense _).openScan.modSense _

theorem windowEnds (h : Keeps false s t) (n : Nat) (track : Option Nat) (burstA burstB : Nat) :
    Keeps false s (windowEnds b n track burstA burstB t) := by
  unfold Machine.windowEnds reportArrives
  dsimp only
  split
  · split
    · exact (h.modDemod _).setSau _
    · split
      · exact ((h.modDemod _).count _).modSlot _
      · exact (h.modDemod _).modSlot _
  · exact h.modDemod _

theorem takeSlot (h : Keeps m s t) (c : Bay) (ht : takeSlot c t = some u) : Keeps m s u := by
  unfold Machine.takeSlot at ht
  rw [Option.map_eq_some_iff] at ht
  obtain ⟨r, -, rfl⟩ := ht
  exact (h.setSau _).modSlot _

theorem chooseNext (h : Keeps m s t) (c : Bay) : Keeps m s (chooseNext c t) := by
  unfold Machine.chooseNext
  split
  · next ht => exact h.takeSlot _ ht
  · split
    · next ht => exact h.takeSlot _ ht
    · exact h.setSau _

theorem applyCompletion (h : Keeps m s t) (c : Computation) : Keeps m s (applyCompletion c t) := by
  have hw : ∀ r, Keeps m s (writeResult c.bay r t) := by
    intro r
    have hp : Keeps m s ((t.modServo c.bay fun _ => r.servo).modPos c.bay fun p => { p with act := r.servo.I }) := (h.modServo _).posKeep _ rfl
    unfold Machine.writeResult
    dsimp only
    refine modGate ?_ _
    split
    · exact hp
    · exact hp.count _
  exact (hw _).countWedges _

theorem gateRises (h : Keeps m s t) : Keeps m s (gateRises b t) := by
  unfold Machine.gateRises
  split
  · exact h
  · exact (h.modGate _).count _

end Keeps

end Sys2Proof.Machine
end

section
namespace Sys2Proof.Machine

variable {s t u : State}

/-! ### Every step keeps the laws of the mechanisms -/

/-- Every command keeps them. -/
theorem exec_keeps (i : Instr) (h : exec i s = .next t) : Keeps false s t := by
  have start : Keeps false s s := .refl s
  have next : ∀ {u}, exec i s = .next u → Keeps false s u → Keeps false s t := fun hu hm => by
    rw [hu] at h
    cases h
    exact hm
  by_cases hr : i.isRequest = true
  · exact next (exec_request i hr s) (start.deliver _ fun u hu => hu.takeRequest i)
  cases i with
  | frameRefused bytes =>
    refine next rfl ?_
    split
    · exact start.lfrmReleased
    · exact start.deliver _ fun u hu => (hu.modLink _).endFrame
  | linkStrobe ldir lfrm x => exact next rfl (start.strobe _ _ _)
  | strobeNegated =>
    refine next rfl ?_
    unfold strobeEnd
    split
    · exact start
    · exact start.modLink _
  | resetNFall => exact next rfl (start.reset.modLink _)
  | powerOn => exact next rfl (start.reset.modLink _)
  | resetNRise lfrm =>
    refine next rfl ?_
    split
    · exact start
    · exact (start.modLink _).modLink _
  | presRise b =>
    refine next rfl ?_
    split
    · exact (start.modPins _).changeCart _
    · exact start.modPins _
  | presFall b => exact next rfl (start.modPins _).presenceFall.settle
  | debounceExpiry b med1 med0 wprot =>
    refine next rfl ?_
    split
    · exact ((start.changeCart _).latchEvent _).settle
    · exact start
  | btnChange b level => exact next rfl ((start.modPins _).modCart _)
  | buttonLevelExpiry b =>
    refine next rfl ?_
    split
    · exact start.buttonStable.settle
    · exact start
  | longPress b =>
    refine next rfl ?_
    split
    · exact (start.modCart _).longPressAction.settle
    · exact start
  | pulseTimerExpiry b =>
    refine next rfl ?_
    split
    · exact start.endPulse.settle
    · exact start
  | waitTimerExpiry b =>
    refine next rfl ?_
    split
    · exact start.waitOver.settle
    · exact start
  | lampFlashToggle b =>
    refine next rfl ?_
    split
    · exact start.modCart _
    · exact start
  | tachPulse b n => exact next rfl ((start.pulse n).modDemod _).settle
  | tachTimerExpiry b =>
    refine next rfl ?_
    split
    · exact start.tachExpired.settle
    · exact start
  | stageTimerExpiry b =>
    refine next rfl ?_
    split
    · exact start.stageOver.settle
    · exact start
  | brakeLimitExpiry b =>
    refine next rfl ?_
    split
    · next hc =>
      have hs : (s.bay b).spin.state = .braking := of_decide_eq_true (Bool.and_eq_true _ _ ▸ hc).2
      exact ((start.enterSpinFault (by simp [hs, SpinState.regulated])).raiseFatal _).settle
    · exact start
  | speedLostTimerExpiry b =>
    refine next rfl ?_
    split
    · exact ((start.spinKeep _ rfl rfl rfl rfl rfl).faultAndUnload _).settle
    · exact start
  | wedgeWindowEnd b code parityOk ampA ampB =>
    refine next rfl ?_
    split
    · exact start.windowEnds _ _ _ _
    · exact start
  | sauCompletion =>
    refine next rfl ?_
    split
    · split
      · exact ((start.applyCompletion _).chooseNext _).settle
      · exact (start.chooseNext _).settle
    · exact start
  | loadWaitTimerExpiry b =>
    refine next rfl ?_
    split
    · exact start.loadWaitOver.settle
    · exact start
  | loadTimerExpiry b =>
    refine next rfl ?_
    split
    · exact ((start.posKeep _ rfl).faultAndUnload _).settle
    · exact start
  | seekTimerExpiry b =>
    refine next rfl ?_
    split
    · next hc => exact (start.seekTimedOut (Bool.and_eq_true _ _ ▸ hc).2).settle
    · exact start
  | unloadTimerExpiry b =>
    refine next rfl ?_
    split
    · exact (start.raiseFatal _).enterPosFault.settle
    · exact start
  | retractTimerExpiry b =>
    refine next rfl ?_
    split
    · exact (start.raiseFatal _).enterPosFault.settle
    · exact start
  | parkRise b => exact next rfl (start.modPins _).parkReached.settle
  | parkFall b => exact next rfl (start.modPins _).parkLost.settle
  | wgateRise b => exact next rfl ((start.modPins _).gateRises.gate b)
  | wgateFall b => exact next rfl (((start.modPins _).modGate _).gate b)
  | scanTimerExpiry =>
    refine next rfl ?_
    split
    · exact start.scanDueNow
    · exact start
  | conversionCompletion raw =>
    refine next rfl ?_
    split
    · exact (start.listCompletion _ _).settle
    all_goals exact start
  | sampleNowCompletion raw =>
    refine next rfl ?_
    split
    · exact ((start.modSense _).done _ _ _).judgeWithheld
    all_goals exact start
  | lfrmRelease => exact next rfl start.lfrmReleased
  | _ => exact absurd rfl hr

theorem step_keeps (h : step s = .next t) : Keeps false s t := by
  unfold step at h
  split at h
  · cases h
    exact .refl s
  · next c rest _ =>
    have hq : Keeps false s (s.setPending rest) := (Keeps.refl s).ofBay (fun c => by cases c <;> rfl) rfl
    exact hq.trans (exec_keeps c h)

/-- Settles O9: a step keeps, bay by bay, that heads under rail power are over a regulated spindle. -/
theorem stepKeepsHeadsRegulated : Obligations.StepKeepsHeadsRegulated := fun _ _ hs h =>
  headsRegulated_iff.mpr fun b => ((step_keeps h).bay b).heads (headsRegulated_iff.mp hs b)

/-- Settles O10: a step keeps that the outputs follow the spindle state. Under them overcurrent drives nothing exactly
where the spindle is off, and a step keeps that too. -/
theorem stepKeepsSpindleOutputs : Obligations.StepKeepsSpindleOutputs := fun _ t hs ho h =>
  have hk := step_keeps h
  have ht : SpindleOutputs t := spindleOutputs_iff.mpr fun b => (hk.bay b).outputs (spindleOutputs_iff.mp hs b)
  ⟨ht, (overcurrentOff_iff ht).mpr fun b => (hk.bay b).off ((overcurrentOff_iff hs).mp ho b)⟩

end Sys2Proof.Machine
end

section
namespace Sys2Proof.Machine

variable {b : Bay} {s t u v : State} {k : OpKind} {op : Op} {o : OpOutcome} {bytes : List Byte}

/-! ### What an operation that works no mechanism but the spindle leaves (R150) -/

/-- Of bay `b` only the lamp, the gate, the spindle and the scheduler may have changed; of the part, what a record, a tag, a
reply and the ledger are. -/
structure Confined (b : Bay) (s t : State) : Prop where
  part : t = { s with bayA := t.bayA, bayB := t.bayB, ledger := t.ledger, completions := t.completions, nextTag := t.nextTag,
                      link := t.link, partCnt := t.partCnt }
  other : t.bay b.other = s.bay b.other
  own : t.bay b = { s.bay b with cart := (t.bay b).cart, gate := (t.bay b).gate, spin := (t.bay b).spin, sched := (t.bay b).sched }
  cart : (s.bay b).cart.sameButLamp (t.bay b).cart

namespace Confined

theorem trans (h : Confined b s t) (k : Confined b t u) : Confined b s u where
  part := by
    have ht := h.part
    have hu := k.part
    generalize u.bayA = x1, u.bayB = x2, u.ledger = x3, u.completions = x4, u.nextTag = x5, u.link = x6, u.partCnt = x7 at hu ⊢
    rw [hu, ht]
  other := k.other.trans h.other
  own := by
    have ht := h.own
    have hu := k.own
    generalize (u.bay b).cart = x1, (u.bay b).gate = x2, (u.bay b).spin = x3, (u.bay b).sched = x4 at hu ⊢
    rw [hu, ht]
  cart := h.cart.trans k.cart

theorem modSpin (h : Confined b s t) (f : Spindle → Spindle) : Confined b s (t.modSpin b f) :=
  h.trans ⟨by cases b <;> rfl, by simp, by cases b <;> rfl, by simp [sameButLamp_refl]⟩

theorem modGate (h : Confined b s t) (f : Gate → Gate) : Confined b s (t.modGate b f) :=
  h.trans ⟨by cases b <;> rfl, by simp, by cases b <;> rfl, by simp [sameButLamp_refl]⟩

theorem setLedger (h : Confined b s t) (l : Ledger) : Confined b s (t.setLedger l) :=
  h.trans ⟨by cases b <;> rfl, by simp, by cases b <;> rfl, by simp [sameButLamp_refl]⟩

theorem changeSched (h : Confined b s t) (f : Sched → Sched) : Confined b s (changeSched b f t) :=
  h.trans ⟨by cases b <;> rfl, by cases b <;> rfl, by cases b <;> rfl, changeSched_sameButLamp t b f⟩

theorem writeRecord (h : Confined b s t) (op : Op) (o : OpOutcome) : Confined b s (writeRecord b op o t) := by
  have hb : ∀ c, (Machine.writeRecord b op o t).bay c = t.bay c := fun c => by simp [Machine.writeRecord]
  refine h.trans ⟨?_, hb _, by rw [hb], by rw [hb]; exact sameButLamp_refl _⟩
  unfold Machine.writeRecord appendRecord
  split <;> rfl

theorem completeOp (h : Confined b s t) (o : OpOutcome) : Confined b s (completeOp b o t) := by
  unfold Machine.completeOp
  split
  · exact h
  · exact (h.writeRecord _ _).changeSched _

end Confined

theorem confined_begun (b : Bay) (k : OpKind) (s : State) : Confined b s (begun b k s) :=
  ⟨by cases b <;> rfl, begun_bay_other b k s, by cases b <;> rfl, begun_cart b k s⟩

/-- An operation has just been taken: nothing of the bay but the scheduler and the lamp has changed. -/
structure Taken (b : Bay) (op : Op) (s v : State) : Prop where
  confined : Confined b s v
  ledger : v.ledger = s.ledger
  completions : v.completions = s.completions
  spin : (v.bay b).spin = (s.bay b).spin
  gate : (v.bay b).gate = (s.bay b).gate
  inflight : (v.bay b).sched.inflight = some op

namespace Taken

theorem pos (h : Taken b op s v) : (v.bay b).pos = (s.bay b).pos := by rw [h.confined.own]

theorem mon (h : Taken b op s v) : (v.bay b).mon = (s.bay b).mon := by rw [h.confined.own]

theorem media (h : Taken b op s v) : (v.bay b).cart.media = (s.bay b).cart.media := h.confined.cart.eqs.2.2.2.1

end Taken

theorem begun_gate (b : Bay) (k : OpKind) (s : State) : ((begun b k s).bay b).gate = (s.bay b).gate := by cases b <;> rfl

theorem begun_inflight (b : Bay) (k : OpKind) (s : State) : ((begun b k s).bay b).sched.inflight = some ⟨s.nextTag, k⟩ := by
  rw [begun_sched, Sched.holding_inflight]

theorem taken_begun (b : Bay) (k : OpKind) (s : State) : Taken b ⟨s.nextTag, k⟩ s (begun b k s) :=
  ⟨confined_begun b k s, begun_ledger b k s, begun_completions b k s, begun_spin b k s, begun_gate b k s, begun_inflight b k s⟩

/-! ### The reply and ATTN at the end of a taking (R187) -/

/-- A reply of these bytes stands, ATTN as the state gives it. -/
def Answers (bytes : List Byte) (s : State) : Prop := s.link = .answered bytes (attnDue s)

theorem answers_refreshAttn {a : Bool} (h : s.link = .answered bytes a) : Answers bytes (refreshAttn s) := by
  have hr : (refreshAttn s).link = { s.link with attn := attnDue s } := rfl
  rw [Answers, hr, h]
  rfl

theorem answers_begun (h : s.link.resetN = true) : Answers [2, byteOf k.code, toBay b, 1, byteOf s.nextTag] (begun b k s) := by
  refine answers_refreshAttn (a := s.link.attn) ?_
  simp [acceptOp, queued, reply, advanceTag, Link.framed, Link.answered, h, replyFrame, u8, byteOf]

theorem Answers.modGate (h : Answers bytes s) (f : Gate → Gate) : Answers bytes (s.modGate b f) := by
  cases b <;> exact h

theorem Answers.appendRecord (h : Answers bytes s) (r : Completion) : Answers bytes (appendRecord r s) := by
  unfold Machine.appendRecord
  split <;> exact answers_refreshAttn (a := attnDue s) h

theorem Answers.completeOp (h : Answers bytes s) (o : OpOutcome) : Answers bytes (completeOp b o s) := by
  unfold Machine.completeOp
  split
  · exact h
  · next op _ =>
    have hr : Answers bytes (writeRecord b op o s) := h.appendRecord _
    refine answers_refreshAttn (a := attnDue (writeRecord b op o s)) ?_
    cases b <;> exact hr

/-! ### The permit over a spindle that is not LOCKED (R115) -/

theorem permitDue_of_spin {x : BayState} (h : x.spin.state ≠ .locked) (y : SupplyState) : permitDue x y = false := by simp [permitDue, h]

theorem judgeGates_exact (h : PermitExact s) : judgeGates s = s := by
  rw [judgeGates, judgeGate_exact s .A (h .A), judgeGate_exact s .B (h .B)]

/-- An event of one bay whose spindle is LOCKED neither before nor behind it changes no permit. -/
theorem PermitExact.unlocked (h : PermitExact s) (ho : t.bay b.other = s.bay b.other) (hx : t.supply = s.supply)
    (hg : (t.bay b).gate = (s.bay b).gate) (hs : (s.bay b).spin.state ≠ .locked) (ht : (t.bay b).spin.state ≠ .locked) : PermitExact t :=
  h.ofBay ho (by rw [hx]) (by rw [hg, h b, permitDue_of_spin hs, permitDue_of_spin ht])

/-! ### The operations that complete at their taking (R150, R151) -/

/-- The write window behind an operation that completes at its taking (R42, R97, R105, R118). -/
def windowBehind (k : OpKind) (o : OpOutcome) (w : Bool) : Bool :=
  match k with
  | .openWrite => w || o = .success
  | .closeWrite | .spinDown | .unloadHeads | .seek .. => false
  | .spinUp | .loadHeads | .eject => w

theorem modGate_windowBehind (h : ∀ w, windowBehind k o w = w) (b : Bay) (s : State) :
    (s.modGate b fun g => { g with window := windowBehind k o g.window }) = s := State.modGate_self s b _ (by rw [h])

/-- Such an operation is its window and its completion. -/
theorem startOp_completes (h : atTaking k (s.bay b) = some o) :
    startOp b k s = completeOp b o (s.modGate b fun g => { g with window := windowBehind k o g.window }) := by
  cases k with
  | spinUp =>
    rw [modGate_windowBehind fun _ => rfl]
    simp only [atTaking] at h
    split at h
    · next hm => cases h; simp [startOp, takeSpinUp, hm]
    · next hm =>
      split at h
      · next hs => cases h; rcases hs with hs | hs <;> simp [startOp, takeSpinUp, hm, hs]
      · cases h
  | spinDown =>
    simp only [atTaking] at h
    split at h
    · next hs => cases h; simp [startOp, takeSpinDown, hs, closeWindow, windowBehind]
    · split at h
      · next hs => cases h; simp [startOp, takeSpinDown, hs, closeWindow, windowBehind]
      · cases h
  | loadHeads =>
    rw [modGate_windowBehind fun _ => rfl]
    cases hp : (s.bay b).pos.state <;> simp [atTaking, hp] at h <;> simp [startOp, takeLoadHeads, hp, h]
  | unloadHeads =>
    cases hp : (s.bay b).pos.state <;> simp [atTaking, hp] at h <;>
      simp [startOp, takeUnloadHeads, hp, h, closeWindow, windowBehind]
  | seek track head =>
    cases hp : (s.bay b).pos.state <;> simp [atTaking, hp] at h <;>
      simp [startOp, takeSeek, hp, h, closeWindow, windowBehind]
  | openWrite =>
    simp only [atTaking] at h
    split at h
    · next hm =>
      cases h
      rw [modGate_windowBehind (by simp [windowBehind])]
      simp [startOp, takeOpenWrite, hm]
    · next hm =>
      split at h
      · next hs => cases h; simp [startOp, takeOpenWrite, hm, hs, windowBehind]
      · next hs =>
        cases h
        rw [modGate_windowBehind (by simp [windowBehind])]
        have hn : (decide ((s.bay b).pos.state = .following) && decide ((s.bay b).spin.state = .locked)) = false := by
          simpa using hs
        simp only [startOp, takeOpenWrite, hn]
        simp [hm]
  | closeWrite => cases h; rfl
  | eject => cases h

theorem Taken.atTaking (h : Taken b op s v) (k : OpKind) : atTaking k (v.bay b) = atTaking k (s.bay b) := by
  cases k <;> simp only [Machine.atTaking, h.media, h.spin, h.pos]

theorem Taken.detailOf (h : Taken b op s v) (k : OpKind) (o : OpOutcome) : detailOf (v.bay b) k o = detailOf (s.bay b) k o := by
  cases k <;> cases o <;> simp [Machine.detailOf, h.spin, h.pos]

/-- What becomes of an operation that completes at its taking, its permit not yet worked out. -/
theorem Taken.completed (h : Taken b op s v) (ha : Machine.atTaking op.kind (s.bay b) = some o) :
    let u := startOp b op.kind v
    Confined b s u ∧ u.ledger = s.ledger ∧ (u.bay b).spin = (s.bay b).spin ∧
      (u.bay b).gate = { (s.bay b).gate with window := windowBehind op.kind o (s.bay b).gate.window } ∧
      (u.bay b).sched = (v.bay b).sched.ended ∧ u.link.held = v.link.held ∧
      u.completions = recorded s.completions ⟨op.tag, b, op.kind, o, Machine.detailOf (s.bay b) op.kind o⟩ := by
  dsimp only
  rw [startOp_completes (by rw [h.atTaking]; exact ha)]
  refine ⟨(h.confined.modGate _).completeOp _, by simp [h.ledger], by simp [h.spin], by simp [h.gate], by simp [completeOp_sched],
    by rw [(kept_completeOp b o _).reply]; cases b <;> rfl, ?_⟩
  rw [completeOp_completions (op := op) (by simpa using h.inflight), State.modGate_completions, h.completions, ← h.detailOf]
  cases b <;> rfl

/-- Settles O25: each such operation is its window and its completion, and with WGATE inactive the permit worked out behind it is
the permit alone. -/
theorem operationsThatCompleteAtTheirTaking : Obligations.OperationsThatCompleteAtTheirTaking := by
  intro c b k o s hc hl hset ha hf hg ho
  have hexec : exec c s = .next (judgeGates (startOp b k (begun b k s))) := by
    cases c <;> cases hc <;> exact exec_taken rfl rfl hl hset ha hf
  obtain ⟨hconf, hledger, hspin, hgate, hsched, -, hrec⟩ := (taken_begun b k s).completed ho
  have hans : Answers [2, byteOf k.code, toBay b, 1, byteOf s.nextTag] (startOp b k (begun b k s)) := by
    rw [startOp_completes (by rw [(taken_begun b k s).atTaking]; exact ho)]
    exact ((answers_begun hl.1).modGate _).completeOp _
  have hpins : ((startOp b k (begun b k s)).bay b).pins.wgate = false := by rw [hconf.own]; exact hg
  have hsupply : (startOp b k (begun b k s)).supply = s.supply := by rw [hconf.part]
  rw [begun_sched, Sched.holding_ended hf.1] at hsched
  dsimp only at hconf hledger hspin hgate hsched hrec hans
  rw [hexec, judgeGates_own hset.2.2.1 hconf.other (by rw [hsupply]), judgeGate_of_no_fault (.inr (.inr hpins))]
  generalize startOp b k (begun b k s) = u at hconf hledger hspin hgate hsched hrec hans
  have ht := hconf.modGate fun g => { g with wperm := permitDue (u.bay b) u.supply.state }
  refine ⟨_, rfl, ?_, ht.other, ?_, ht.cart, ?_, by simp [hgate], by simp [hgate], ?_, hans.modGate _⟩
  · have hp := ht.part
    rw [State.modGate_ledger, hledger] at hp
    exact hp
  · have hp := ht.own
    rw [State.modGate_spin, hspin, State.modGate_sched, hsched] at hp
    exact hp
  · rw [State.modGate_gate, hgate]
    cases k <;> rfl
  · rw [State.modGate_completions, hrec]
    cases k <;> cases o <;> rfl

end Sys2Proof.Machine
end

section
namespace Sys2Proof.Machine

variable {b : Bay} {s t u v : State} {k : OpKind} {op : Op} {o : OpOutcome}

/-! ### SPIN UP (R30, R31, R52 to R54) -/

/-- An accepted operation other than EJECT found its cartridge seated. -/
theorem OpAccepted.seated (h : OpAccepted b k s) (hk : k ≠ .eject) : (s.bay b).cart.state = .seated :=
  h.2.1.resolve_right fun hj => hk hj.2

/-- With a seated cartridge and no load wait a change of the spindle meets no other block. -/
theorem Taken.spindleAlone (h : Taken b op s v) (hs : (s.bay b).cart.state = .seated) (hp : (s.bay b).pos.pending ≠ .load) :
    SpindleAlone b v := by
  have hc : (v.bay b).cart.state = .seated := h.confined.cart.eqs.1.trans hs
  exact ⟨loadWaiting_of_pending (by rw [h.pos]; exact hp), pulseOff_of_state (by simp [hc]), fun h => by simp [hc] at h⟩

/-- R30: what a SPIN UP over a recognised medium does in each state of the spindle. -/
theorem takeSpinUp_of_recognised (hm : ((s.bay b).cart.media.any fun m => m.kind = .unrecognised) = false) :
    ((s.bay b).spin.state = .stopped → takeSpinUp b s = beginAttempt b s) ∧
      ((s.bay b).spin.state.regulated = true → takeSpinUp b s = completeOp b .success s) ∧
      ((s.bay b).spin.state = .braking → takeSpinUp b s = s.modSpin b fun x => { x with startMark := true }) ∧
      ((s.bay b).spin.state = .fault → takeSpinUp b s = raiseFatal b .spinFail s) ∧
      ((s.bay b).spin.state = .waitPower ∨ (s.bay b).spin.state = .aligning ∨ (s.bay b).spin.state = .ramping ∨
        (s.bay b).spin.state = .locking → takeSpinUp b s = s) := by
  cases hs : (s.bay b).spin.state <;> simp [takeSpinUp, hm, hs, SpinState.regulated]

theorem Sched.holding_faulted {x : Sched} (hq : x.queue = []) (op : Op) (c : Cause) : (x.holding op).faulted c = x.faulted c := by
  unfold Sched.holding Sched.faulted
  split <;> simp [hq]

/-- R31: whatever the answer to a request for 180, the spindle, the scheduler and the ledger are all that change. -/
theorem SpindleAlone.askPower_confined (h : SpindleAlone b s) (hs : s.ledger.waits (.spindle b) = false) (n : Nat) :
    Confined b s (askPower b n s) ∧ ((askPower b n s).bay b).gate = (s.bay b).gate ∧ ((askPower b n s).bay b).spin.attempt = n ∧
      ((askPower b n s).bay b).spin.state ≠ .locked := by
  have start : Confined b s s := ⟨by cases s; rfl, rfl, rfl, sameButLamp_refl _⟩
  by_cases hc : s.ledger.capacity < 180
  · rw [h.askPower_noBudget hs hc, completeIf]
    split
    · exact ⟨(start.modSpin _).completeOp _, by simp, by simp [Spindle.askingPower], by simp⟩
    · exact ⟨start.modSpin _, by simp, by simp [Spindle.askingPower], by simp⟩
  · rw [Nat.not_lt] at hc
    by_cases hf : s.ledger.wait = [] ∧ s.ledger.sum - s.ledger.hold (.spindle b) + 180 ≤ s.ledger.effective
    · rw [h.askPower_granted hf.1 hc hf.2]
      exact ⟨(start.modSpin _).setLedger _, by simp, by simp [Spindle.askingPower, Spindle.aligning, Spindle.driven],
        by simp [Spindle.askingPower, Spindle.aligning, Spindle.driven]⟩
    · rw [h.askPower_waiting hs hc hf]
      exact ⟨(start.modSpin _).setLedger _, by simp, by simp [Spindle.askingPower], by simp [Spindle.askingPower]⟩

namespace Taken

theorem recognised (h : Taken b op s v) (hm : ((s.bay b).cart.media.any fun m => m.kind = .unrecognised) = false) :
    ((v.bay b).cart.media.any fun m => m.kind = .unrecognised) = false := by rw [h.media]; exact hm

/-- The three answers to a SPIN UP's first request (R31, R32, R52, R53). -/
theorem askPower_answers (h : Taken b op s v) (hk : op.kind = .spinUp) (ha : SpindleAlone b v) (hs : s.ledger.waits (.spindle b) = false) :
    let t := askPower b 1 v
    if s.ledger.capacity < 180 then
      (t.bay b).spin.state = .stopped ∧ t.ledger = s.ledger ∧ (t.bay b).sched = (v.bay b).sched.ended ∧
        t.completions = recorded s.completions ⟨op.tag, b, .spinUp, .failed .noBudget, some 1⟩
    else
      t.completions = s.completions ∧ (t.bay b).sched = (v.bay b).sched ∧
      (if s.ledger.wait = [] ∧ s.ledger.sum - s.hold (.spindle b) + 180 ≤ s.ledger.effective then
        t.ledger = s.ledger.setHold (.spindle b) 180 ∧ (t.bay b).spin.state = .aligning ∧ (t.bay b).spin.drive = 60 ∧
          (t.bay b).spin.phases = .fixed ∧ (t.bay b).spin.stageTimer = some 500000
      else
        t.ledger = { s.ledger with wait := s.ledger.wait ++ [⟨.spindle b, .fixed 180⟩] } ∧
          (t.bay b).spin.state = .waitPower ∧ (t.bay b).spin.drive = 0) := by
  have hl := h.ledger
  have hw : v.ledger.waits (.spindle b) = false := by rw [hl]; exact hs
  dsimp only
  split
  · next hc =>
    rw [ha.askPower_noBudget hw (by rwa [hl]), completeIf_of_kind (op := op) (by simpa using h.inflight) (by rw [hk]; rfl)]
    refine ⟨by simp, by simp [hl], by simp [completeOp_sched], ?_⟩
    rw [completeOp_completions (op := op) (by simpa using h.inflight), State.modSpin_completions, h.completions, hk]
    simp [Machine.detailOf, Spindle.askingPower]
  · next hc =>
    rw [Nat.not_lt] at hc
    split
    · next hf =>
      rw [ha.askPower_granted (by rw [hl]; exact hf.1) (by rwa [hl]) (by rw [hl]; exact hf.2)]
      refine ⟨by simp [h.completions], by simp, by simp [hl], ?_⟩
      simp [Spindle.aligning, Spindle.driven, SpinState.phasesAt, SpinState.phases]
    · next hf =>
      rw [ha.askPower_waiting hw (by rwa [hl]) (by rw [hl]; exact hf)]
      exact ⟨by simp [h.completions], by simp, by simp [hl], by simp [Spindle.askingPower], by simp [Spindle.askingPower]⟩

/-- R30: a SPIN UP in STOPPED, no overcurrent being active, is a request for 180 as attempt 1. -/
theorem spinUp_stopped (h : Taken b op s v) (hs : (s.bay b).spin.state = .stopped) (ho : (s.bay b).mon.overcurrent = false)
    (hm : ((s.bay b).cart.media.any fun m => m.kind = .unrecognised) = false) : startOp b .spinUp v = askPower b 1 v := by
  change takeSpinUp b _ = _
  rw [(takeSpinUp_of_recognised (h.recognised hm)).1 (by rw [h.spin, hs]), beginAttempt, h.mon, ho]
  rfl

/-- R30: a SPIN UP in BRAKING waits under the start mark. -/
theorem spinUp_braking (h : Taken b op s v) (hs : (s.bay b).spin.state = .braking)
    (hm : ((s.bay b).cart.media.any fun m => m.kind = .unrecognised) = false) :
    startOp b .spinUp v = v.modSpin b fun x => { x with startMark := true } :=
  (takeSpinUp_of_recognised (h.recognised hm)).2.2.1 (by rw [h.spin, hs])

/-- A SPIN UP changes nothing beyond the spindle, the gate, the scheduler and the ledger; what it raises in FAULT and under
overcurrent (R30). -/
theorem spinUp_confined (h : Taken b op s v) (ha : SpindleAlone b v) (hw : s.ledger.waits (.spindle b) = false)
    (hm : ((s.bay b).cart.media.any fun m => m.kind = .unrecognised) = false) :
    Confined b s (startOp b .spinUp v) ∧
      ((s.bay b).spin.state = .fault → startOp b .spinUp v = faultHalt b .spinFail (closeWindow b v)) ∧
      ((s.bay b).spin.state = .stopped → (s.bay b).mon.overcurrent = true →
        startOp b .spinUp v = spinFaultRaised b .overcurrent v) := by
  have hconf := h.confined
  obtain ⟨hst, hreg, hbr, hfa, hon⟩ := takeSpinUp_of_recognised (h.recognised hm)
  rw [h.spin] at hst hreg hbr hfa hon
  have hraise : (s.bay b).mon.overcurrent = true → beginAttempt b v = spinFaultRaised b .overcurrent v := fun ho => by
    rw [beginAttempt, h.mon, if_pos ho, ha.raised]
  have hf : (s.bay b).spin.state = .fault → takeSpinUp b v = faultHalt b .spinFail (closeWindow b v) :=
    fun hs => by rw [hfa hs, raiseFatal_fault (by rw [h.spin, hs])]
  refine ⟨?_, hf, fun hs ho => (hst hs).trans (hraise ho)⟩
  change Confined b s (takeSpinUp b _)
  cases hs : (s.bay b).spin.state with
  | stopped =>
    rw [hst hs]
    by_cases ho : (s.bay b).mon.overcurrent = true
    · rw [hraise ho]
      exact (((hconf.modSpin _).modGate _).completeOp _).changeSched _
    · rw [beginAttempt, h.mon, if_neg ho]
      exact hconf.trans (ha.askPower_confined (by rw [h.ledger]; exact hw) 1).1
  | locked | unlocked => rw [hreg (by rw [hs]; rfl)]; exact hconf.completeOp _
  | braking => rw [hbr hs]; exact hconf.modSpin _
  | fault => rw [hf hs]; exact ((hconf.modGate _).completeOp _).changeSched _
  | waitPower | aligning | ramping | locking => rw [hon (by simp [hs])]; exact hconf

/-- The record of an operation whose fault the spindle raises. -/
theorem faultRecords (h : Taken b op s v) (hk : op.kind = .spinUp) (c : Cause) :
    faultRecords b (v.bay b) c = [⟨op.tag, b, .spinUp, .failed c, some (s.bay b).spin.attempt⟩] := by
  simp [Machine.faultRecords, h.inflight, h.spin, hk]

end Taken

/-- The reply of an operation's acceptance stands behind its taking. -/
theorem startOp_held (hw : k ≠ .openWrite) (he : k ≠ .eject) :
    (startOp b k (begun b k s)).link.held = [2, byteOf k.code, toBay b, 1, byteOf s.nextTag] :=
  ((Acts.refl false (begun b k s)).startOp hw he).kept.reply.trans (begun_held b k s)

/-- Settles O26: the spindle alone answers, by its state and by the ledger's answer. -/
theorem spinUpByTheSpindleState : Obligations.SpinUpByTheSpindleState := by
  refine ⟨fun b s hl hset hacc hf hs ho hm hw hp => ?_, fun b s hl hset hacc hf hm hw hp => ?_⟩
  · have htaken := taken_begun b .spinUp s
    have ha := htaken.spindleAlone (hacc.seated (by simp)) hp
    have hheld := startOp_held (b := b) (s := s) (k := .spinUp) (by simp) (by simp)
    have hstart := htaken.spinUp_stopped hs ho hm
    obtain ⟨hconf, hgate, hattempt, hlock⟩ := ha.askPower_confined (by rw [htaken.ledger]; exact hw) 1
    have hans := htaken.askPower_answers rfl ha hw
    rw [begun_sched, Sched.holding_ended hf.1] at hans
    replace hconf := htaken.confined.trans hconf
    have hown := hconf.own
    rw [hgate, begun_gate] at hown
    have hexact : PermitExact (askPower b 1 (begun b .spinUp s)) :=
      hset.2.2.1.unlocked hconf.other (by rw [hconf.part]) (by rw [hgate, begun_gate]) (by simp [hs]) hlock
    rw [exec_taken rfl rfl hl hset hacc hf, hstart, judgeGates_exact hexact]
    exact ⟨_, rfl, hconf.part, hconf.other, hown, hconf.cart, hattempt, hstart ▸ hheld, hans⟩
  · have htaken := taken_begun b .spinUp s
    have ha := htaken.spindleAlone (hacc.seated (by simp)) hp
    have hheld := startOp_held (b := b) (s := s) (k := .spinUp) (by simp) (by simp)
    obtain ⟨hconf, hfault, hover⟩ := htaken.spinUp_confined ha hw hm
    have hsupply : (startOp b .spinUp (begun b .spinUp s)).supply = s.supply := by rw [hconf.part]
    rw [exec_taken rfl rfl hl hset hacc hf, judgeGates_own hset.2.2.1 hconf.other (by rw [hsupply])]
    refine ⟨_, rfl, fun hs => ?_, fun hs => ?_, fun hs ho => ?_, by rw [judgeGate_pos, hconf.own],
      by rw [judgeGate_bay_other, hconf.other], by rw [judgeGate_held]; exact hheld⟩
    · have hb := htaken.spinUp_braking hs hm
      have hexact : PermitExact (startOp b .spinUp (begun b .spinUp s)) :=
        hset.2.2.1.unlocked hconf.other hsupply (by simp [hb, begun_gate]) (by simp [hs]) (by simp [hb, begun_spin, hs])
      rw [judgeGate_exact _ b (hexact b), hb]
      simp [begun_spin, begun_completions, begun_ledger, begun_sched, begun_gate]
    · rw [hfault hs]
      refine ⟨by simp [begun_spin], by simp [begun_ledger], ?_, ?_, judgeGate_window b b _ ?_⟩
      · rw [judgeGate_sched, faultHalt_sched, closeWindow_sched, begun_sched, Sched.holding_faulted hf.2.2]
      · have hrec : faultRecords b ((closeWindow b (begun b .spinUp s)).bay b) .spinFail =
            faultRecords b ((begun b .spinUp s).bay b) .spinFail := by simp [faultRecords]
        rw [judgeGate_completions, faultHalt_completions, closeWindow_completions, begun_completions, hrec, htaken.faultRecords rfl]
        rfl
      · rw [faultHalt_gate, closeWindow, State.modGate_gate]
    · obtain ⟨-, -, hspin, hledger, hsched, hcomp⟩ := spinFaultRaised_spec b .overcurrent (begun b .spinUp s)
      rw [hover hs ho]
      refine ⟨by simp [hspin, Spindle.faulted], by simp [hspin, Spindle.faulted], by simp [hledger, begun_ledger], ?_, ?_,
        judgeGate_window b b _ ?_⟩
      · rw [judgeGate_sched, hsched, begun_sched, Sched.holding_faulted hf.2.2]
      · rw [judgeGate_completions, hcomp, begun_completions, htaken.faultRecords rfl]
        rfl
      · rw [spinFaultRaised, faultHalt_gate, closeWindow, State.modGate_gate]

end Sys2Proof.Machine
end

section
namespace Sys2Proof.Machine

variable {b : Bay} {s t u v : State} {k : OpKind} {op : Op} {o : OpOutcome}

/-! ### SPIN DOWN (R42, R37) -/

/-- R37: a brake order that the positioner defers leaves its mark. -/
theorem brakeOrder_deferred (ht : (s.bay b).spin.state.turning = true) (hd : (s.bay b).pos.state.defersBrake = true) :
    brakeOrder b s = s.modSpin b fun x => { x with brakeMark := true } := by
  unfold brakeOrder
  cases hs : (s.bay b).spin.state <;> simp [hs, SpinState.turning] at ht <;> simp [hd]

/-- R42: a SPIN DOWN over a regulated spindle closes the window, unloads loaded heads, and gives the brake order. -/
theorem takeSpinDown_regulated (h : (s.bay b).spin.state.regulated = true) :
    takeSpinDown b s = brakeOrder b (if (s.bay b).pos.state.loaded then unloadOrder b (closeWindow b s) else closeWindow b s) := by
  cases hs : (s.bay b).spin.state <;> simp [hs, SpinState.regulated] at h <;> simp [takeSpinDown, hs]

theorem unloadOrder_loaded (h : (s.bay b).pos.state.loaded = true) : unloadOrder b s = enterUnloading b s := by simp [unloadOrder, h]

/-- R42: what the brake order of a SPIN DOWN over a regulated spindle makes of the bay. -/
structure SpinDownBegun (b : Bay) (v u : State) : Prop where
  other : u.bay b.other = v.bay b.other
  supply : u.supply = v.supply
  sched : (u.bay b).sched = (v.bay b).sched
  completions : u.completions = v.completions
  window : (u.bay b).gate.window = false
  deferred : (v.bay b).pos.state.defersBrake = true →
    (u.bay b).spin = { (v.bay b).spin with brakeMark := true, speedLost := (u.bay b).spin.speedLost } ∧
      (u.bay b).pos.state = .unloading ∧ u.hold (.spindle b) = v.hold (.spindle b)
  braked : (v.bay b).pos.state.defersBrake = false →
    (u.bay b).spin = (v.bay b).spin.braking .stop ∧ u.ledger = v.ledger.setHold (.spindle b) 0 ∧ (u.bay b).pos = (v.bay b).pos

/-- With loaded heads, off the ramp, the order waits for their unloading. -/
theorem spinDownBegun_loaded (hr : (v.bay b).spin.state.regulated = true) (hl : (v.bay b).pos.state.loaded = true)
    (hk : (v.bay b).pins.park = false) (hw : v.ledger.wait = []) (hp : PulseOff b v) : SpinDownBegun b v (takeSpinDown b v) := by
  have hunload := enterUnloading_eq (s := closeWindow b v) (b := b) (by simpa using hw) (by simpa [closeWindow] using hk)
    (hp.congr (by simp [sameButLamp_refl]))
  rw [takeSpinDown_regulated hr, if_pos hl, unloadOrder_loaded (by simpa using hl), hunload,
    brakeOrder_deferred (by simpa using SpinState.turning_of_regulated hr) (by simp [PosState.defersBrake, Positioner.unloading])]
  refine ⟨by simp, by simp [headsOff, silenced, clearQualified, dropSauWork, closeWindow], by simp, by simp,
    by simp [headsOff, silenced, clearQualified, closeWindow], fun _ => ⟨by simp, by simp [Positioner.unloading], ?_⟩, fun hd => ?_⟩
  · simp only [State.hold, State.modSpin_ledger, headsOff_ledger, State.setLedger_ledger, closeWindow_ledger]
    split
    · exact Ledger.setHold_hold_ne _ _ _ _ (by simp)
    · rfl
  · rw [PosState.defersBrake_of_loaded hl] at hd
    cases hd

/-- With the heads on their way to the ramp the order waits too; with the heads off it brakes. -/
theorem spinDownBegun_unloaded (hr : (v.bay b).spin.state.regulated = true) (hl : (v.bay b).pos.state.loaded = false)
    (hw : v.ledger.wait = []) (hp : PulseOff b v) (hn : (v.bay b).pos.pending = .none) : SpinDownBegun b v (takeSpinDown b v) := by
  have ht := SpinState.turning_of_regulated hr
  rw [takeSpinDown_regulated hr, if_neg (by simp [hl])]
  cases hd : (v.bay b).pos.state.defersBrake with
  | true =>
    have hu : (v.bay b).pos.state = .unloading := by cases hs : (v.bay b).pos.state <;> simp [hs, PosState.defersBrake, PosState.loaded] at hd hl ⊢
    rw [brakeOrder_deferred (by simpa using ht) (by simpa using hd)]
    exact ⟨by simp, by simp [closeWindow], by simp, by simp, by simp [closeWindow],
      fun _ => ⟨by simp, by simpa using hu, by simp [State.hold]⟩, fun h => absurd h (by simp [hd])⟩
  | false =>
    rw [brakeOrder_turning (by simpa using ht) (by simpa using hd), enterBraking_eq (by simpa using hw)
      (loadWaiting_of_pending (by simp [hn])) (hp.congr (by simp [sameButLamp_refl]))]
    exact ⟨by simp, by simp [closeWindow], by simp, by simp, by simp [closeWindow], fun h => absurd h (by simp [hd]),
      fun _ => ⟨by simp, by simp, by simp⟩⟩

/-- Settles O27: loaded heads are unloaded first, and the order waits for heads on their way to the ramp. -/
theorem spinDownBrakes : Obligations.SpinDownBrakes := by
  intro b s hl hset hacc hf hr hpark hw hn
  have hseat : ((begun b .spinDown s).bay b).cart.state = .seated := (begun_cart b _ s).eqs.1.trans (hacc.seated (by simp))
  have hpulse : PulseOff b (begun b .spinDown s) := pulseOff_of_state (by simp [hseat])
  have hbegun : SpinDownBegun b (begun b .spinDown s) (startOp b .spinDown (begun b .spinDown s)) := by
    cases hload : (s.bay b).pos.state.loaded with
    | true =>
      have hk := hpark.resolve_right (by simp [hload])
      exact spinDownBegun_loaded (by rw [begun_spin]; exact hr) (by rw [begun_pos]; exact hload) (by rw [begun_pins]; exact hk)
        (by rw [begun_ledger]; exact hw) hpulse
    | false =>
      exact spinDownBegun_unloaded (by rw [begun_spin]; exact hr) (by rw [begun_pos]; exact hload)
        (by rw [begun_ledger]; exact hw) hpulse (by rw [begun_pos]; exact hn)
  have hheld := startOp_held (b := b) (s := s) (k := .spinDown) (by simp) (by simp)
  obtain ⟨hother, hsupply, hsched, hcomp, hwindow, hdef, hbrake⟩ := hbegun
  rw [begun_pos, begun_spin] at hdef hbrake
  rw [begun_ledger] at hbrake
  have hhold : (begun b .spinDown s).hold (.spindle b) = s.hold (.spindle b) := by simp [State.hold, begun_ledger]
  rw [hhold] at hdef
  rw [exec_taken rfl rfl hl hset hacc hf,
    judgeGates_own hset.2.2.1 (hother.trans (begun_bay_other b _ s)) (by rw [hsupply, begun_supply])]
  refine ⟨_, rfl, by rw [judgeGate_sched, hsched, begun_sched], judgeGate_window b b _ hwindow,
    by rw [judgeGate_completions, hcomp, begun_completions], by rw [judgeGate_bay_other, hother, begun_bay_other],
    by rw [judgeGate_held]; exact hheld, ?_⟩
  simp only [judgeGate_spin, judgeGate_pos, judgeGate_ledger, State.hold]
  split
  · next hd => exact hdef hd
  · next hd =>
    obtain ⟨hspin, hledger, hpos⟩ := hbrake (by simpa using hd)
    rw [hspin, hledger, hpos]
    exact ⟨rfl, rfl, rfl, rfl, rfl, rfl, rfl, rfl, rfl⟩

end Sys2Proof.Machine
end

section
namespace Sys2Proof.Machine

variable {b : Bay} {s t u v : State} {k : OpKind} {op : Op} {o : OpOutcome}

/-! ### HALT BAY, RUN BAY and SET STEP MODE (R156 to R158) -/

/-- A reply behind ATTN worked out is the answer that the state gives. -/
theorem reply_refreshed (kind : Nat) (code bay : Byte) (payload : List Byte) (h : s.link.resetN = true) :
    reply kind code bay payload (refreshAttn (s.modLink Link.framed)) = s.answer (replyFrame kind code bay payload) := by
  simp [reply, refreshAttn, State.modLink, State.setLink, Link.framed, State.answer, Link.answered, h, attnDue, pendingSet, conditions]

/-- A bay's scheduler changed by a request: the lamp follows, and the answer. -/
theorem done_changeSched (f : Sched → Sched) (code : Byte) (payload : List Byte) (h : s.link.resetN = true) :
    done code (toBay b) payload (changeSched b f (s.modLink Link.framed)) =
      (lampUpdate b (s.modSched b f)).answer (replyFrame 1 code (toBay b) payload) := by
  have hswap : changeSched b f (s.modLink Link.framed) = refreshAttn ((lampUpdate b (s.modSched b f)).modLink Link.framed) := by
    cases b <;> rfl
  rw [done, hswap, reply_refreshed _ _ _ _ (by cases b <;> exact h)]

/-- R21, R156: HALT BAY leaves the lamp its mode. -/
theorem lampModeOf_halt (c : Cartridge) (x : Sched) : lampModeOf c x.halt = lampModeOf c x := by
  unfold lampModeOf faultHalted Sched.halt
  cases hs : x.state with
  | running => cases hi : x.inflight <;> simp
  | halting | halted => simp [hs]

theorem exec_haltBay (hl : LinkTakes (frameOf (.haltBay b)) s) (hset : Settled s) :
    exec (.haltBay b) s = .next (State.answer [1, 16, toBay b, 0] (s.modSched b Sched.halt)) := by
  have hlamp : LampAt b (s.modSched b Sched.halt) := by
    have h := hset.2.1 b
    simp only [LampAt, State.modSched_cart, State.modSched_sched, lampModeOf_halt]
    exact h
  rw [exec_framed rfl hl]
  change Host.Outcome.next (done 16 (toBay b) [] _) = _
  rw [done_changeSched _ _ _ hl.1, lampUpdate_of_lampAt hlamp]
  rfl

theorem exec_setStepMode (on : Bool) (hl : LinkTakes (frameOf (.setStepMode b on)) s) (hset : Settled s) :
    exec (.setStepMode b on) s = .next (State.answer [1, 18, toBay b, 0] (s.modSched b fun x => { x with step := on })) := by
  have hattn : AttnExact (s.modSched b fun x => { x with step := on }) := by
    have h := hset.1
    cases b <;> exact h
  have hswap : (s.modLink Link.framed).modSched b (fun x => { x with step := on }) =
      (s.modSched b fun x => { x with step := on }).modLink Link.framed := by cases b <;> rfl
  rw [exec_framed rfl hl]
  change Host.Outcome.next (done 18 (toBay b) [] _) = _
  rw [hswap, done, reply_framed _ _ _ _ _ (by cases b <;> exact hl.1) hattn]
  rfl

/-- The state in which RUN BAY judges the next taking (R157). -/
def resumed (b : Bay) (s : State) : State := (lampUpdate b (s.modSched b Sched.run)).answer [1, 17, toBay b, 0]

theorem exec_runBay (hl : LinkTakes (frameOf (.runBay b)) s) : exec (.runBay b) s = .next (settle (resumed b s)) := by
  rw [exec_framed rfl hl]
  change Host.Outcome.next (settle (done 17 (toBay b) [] _)) = _
  rw [done_changeSched _ _ _ hl.1]
  rfl

theorem resumed_cart (b : Bay) (s : State) : (s.bay b).cart.sameButLamp ((resumed b s).bay b).cart := by
  have h := changeSched_sameButLamp s b Sched.run
  cases b <;> exact h

theorem confined_resumed (b : Bay) (s : State) : Confined b s (resumed b s) :=
  ⟨by cases b <;> rfl, by cases b <;> rfl, by cases b <;> rfl, resumed_cart b s⟩

theorem resumed_bay (b : Bay) (s : State) :
    (resumed b s).bay b = { s.bay b with cart := ((resumed b s).bay b).cart, sched := (s.bay b).sched.run } := by cases b <;> rfl

theorem permitDue_lamp {x : BayState} {c : Cartridge} (h : x.cart.sameButLamp c) (y : Sched) (z : SupplyState) :
    permitDue { x with cart := c, sched := y } z = permitDue x z := by
  obtain ⟨hs, -, -, hm, -⟩ := h.eqs
  simp [permitDue, hs, hm]

/-- RUN BAY changes no condition of the permit. -/
theorem permitExact_resumed (h : PermitExact s) (b : Bay) : PermitExact (resumed b s) := by
  have hsupply : (resumed b s).supply = s.supply := by cases b <;> rfl
  refine h.ofBay (confined_resumed b s).other (by rw [hsupply]) ?_
  rw [hsupply, resumed_bay, permitDue_lamp (resumed_cart b s)]
  exact h b

theorem Sched.run_eq (x : Sched) :
    x.run = { x with state := .running, cause := if x.state = .running then x.cause else none } := by
  unfold Sched.run
  cases hs : x.state <;> simp
  rw [← hs]

/-- R157: with nothing to take RUN BAY is the scheduler's state and its lamp. -/
theorem runBay_idle (hl : LinkTakes (frameOf (.runBay b)) s) (hset : Settled s)
    (hq : (s.bay b).sched.queue = [] ∨ (s.bay b).sched.inflight.isSome = true) :
    exec (.runBay b) s = .next (resumed b s) := by
  have hdone : TakingsDone (resumed b s) := by
    refine hset.2.2.2.ofOther (by rw [(confined_resumed b s).other]) fun hm => ?_
    rw [resumed_bay] at hm ⊢
    rw [Sched.run_eq] at hm ⊢
    refine hq.resolve_right fun hi => ?_
    simp only [mayTake, Bool.and_eq_true, Option.isNone_iff_eq_none] at hm
    simp [hm.2] at hi
  rw [exec_runBay hl, settle_exact _ (permitExact_resumed hset.2.2.1 b) hdone]

theorem resumed_eq (b : Bay) (s : State) :
    resumed b s = State.answer [1, 17, toBay b, 0] (s.setBay b
      { s.bay b with
        cart := ((resumed b s).bay b).cart
        sched := { (s.bay b).sched with
          state := .running, cause := if (s.bay b).sched.state = .running then (s.bay b).sched.cause else none } }) := by
  rw [← Sched.run_eq]
  cases b <;> rfl

/-- A taking behind which its bay takes no more, the other bay taking nothing, is the whole settling (R149, R150). -/
theorem settle_of_head {rest : List Op} (hp : PermitExact v) (hm : mayTake (v.bay b).sched = true) (hq : (v.bay b).sched.queue = op :: rest)
    (ho : mayTake (v.bay b.other).sched = true → (v.bay b.other).sched.queue = [])
    (hstop : mayTake ((takeHead b op rest v).bay b).sched = true → ((takeHead b op rest v).bay b).sched.queue = []) :
    settle v = judgeGates (takeHead b op rest v) := by
  have hown : judgeTaking b v = judgeGates (takeHead b op rest v) := by
    rw [judgeTaking, hq, List.length_cons, takeRun, if_pos hm, hq]
    exact takeRun_idle _ b _ (by rw [judgeGates_sched]; exact hstop)
  have hother : mayTake ((judgeGates (takeHead b op rest v)).bay b.other).sched = true →
      ((judgeGates (takeHead b op rest v)).bay b.other).sched.queue = [] := by
    rw [judgeGates_sched, (takeHead_queue b op rest v).1]
    exact ho
  rw [settle, judgeGates_exact hp]
  cases b with
  | A =>
    rw [hown]
    exact takeRun_idle _ .B _ hother
  | B =>
    have hA : judgeTaking .A v = v := takeRun_idle v .A _ ho
    rw [hA, hown]

/-- The state in which RUN BAY from HALTED starts the head of the queue. -/
def retaken (b : Bay) (op : Op) (rest : List Op) (s : State) : State := changeSched b (Sched.taken op rest) (resumed b s)

theorem retaken_sched (rest : List Op) (b : Bay) (op : Op) (s : State) :
    ((retaken b op rest s).bay b).sched = (s.bay b).sched.run.taken op rest := by
  rw [retaken, (changeSched_spec _ b _).1, resumed_bay]

theorem taken_retaken (b : Bay) (op : Op) (rest : List Op) (s : State) : Taken b op s (retaken b op rest s) := by
  refine ⟨(confined_resumed b s).changeSched _, by cases b <;> rfl, by cases b <;> rfl, by cases b <;> rfl, by cases b <;> rfl, ?_⟩
  rw [retaken_sched, Sched.taken]
  split <;> rfl

/-- R157: RUN BAY from HALTED starts the head of the queue; where the bay takes no more behind it, that is all. -/
theorem exec_runBay_head {rest : List Op} (hl : LinkTakes (frameOf (.runBay b)) s) (hset : Settled s)
    (hi : (s.bay b).sched.inflight = none) (hq : (s.bay b).sched.queue = op :: rest)
    (hstop : mayTake ((startOp b op.kind (retaken b op rest s)).bay b).sched = true →
      ((startOp b op.kind (retaken b op rest s)).bay b).sched.queue = []) :
    exec (.runBay b) s = .next (judgeGates (startOp b op.kind (retaken b op rest s))) := by
  rw [exec_runBay hl, settle_of_head (b := b) (op := op) (rest := rest) (permitExact_resumed hset.2.2.1 b) ?_ ?_ ?_ hstop]
  · rfl
  · rw [resumed_bay, Sched.run_eq]; simp [mayTake, hi]
  · rw [resumed_bay, Sched.run_eq]; exact hq
  · rw [(confined_resumed b s).other]; exact hset.2.2.2 b.other

/-- The scheduler behind a resumed operation that completed at its taking, and behind one that stays in flight (R151, R158). -/
theorem retaken_halted {rest : List Op} (hs : (s.bay b).sched.state = .halted) :
    ((retaken b op rest s).bay b).sched =
        { (s.bay b).sched with
          queue := rest, inflight := some op, state := if (s.bay b).sched.step then .halting else .running
          cause := if (s.bay b).sched.step then some .step else none } ∧
      ((retaken b op rest s).bay b).sched.ended =
        { (s.bay b).sched with
          queue := rest, inflight := none, state := if (s.bay b).sched.step then .halted else .running
          cause := if (s.bay b).sched.step then some .step else none } := by
  rw [retaken_sched, Sched.run_eq, Sched.taken, Sched.ended]
  by_cases hstep : (s.bay b).sched.step = true <;> simp [hs, hstep]

/-- R151: a resumed operation that completes at its taking. -/
theorem runBay_completes {rest : List Op} (hl : LinkTakes (frameOf (.runBay b)) s) (hset : Settled s)
    (hs : (s.bay b).sched.state = .halted) (hi : (s.bay b).sched.inflight = none) (hq : (s.bay b).sched.queue = op :: rest)
    (ha : atTaking op.kind (s.bay b) = some o) (hlast : (s.bay b).sched.step = true ∨ rest = []) (hg : (s.bay b).pins.wgate = false) :
    After (exec (.runBay b) s) fun t =>
      t.bay b.other = s.bay b.other ∧ t.ledger = s.ledger ∧ t.link.held = [1, 17, toBay b, 0] ∧
      t.bay b =
        { s.bay b with
          cart := (t.bay b).cart, gate := (t.bay b).gate
          sched :=
            { (s.bay b).sched with
              queue := rest, state := if (s.bay b).sched.step then .halted else .running
              cause := if (s.bay b).sched.step then some .step else none } } ∧
      (s.bay b).cart.sameButLamp (t.bay b).cart ∧
      (t.bay b).gate.window = windowBehind op.kind o (s.bay b).gate.window ∧
      t.completions = recorded s.completions ⟨op.tag, b, op.kind, o, detailOf (s.bay b) op.kind o⟩ := by
  obtain ⟨hconf, hledger, hspin, hgate, hsched, hheld, hrec⟩ := (taken_retaken b op rest s).completed ha
  rw [(retaken_halted hs).2] at hsched
  have hstop : mayTake ((startOp b op.kind (retaken b op rest s)).bay b).sched = true →
      ((startOp b op.kind (retaken b op rest s)).bay b).sched.queue = [] := by
    rw [hsched]
    rcases hlast with hstep | hrest
    · simp [mayTake, hstep]
    · exact fun _ => hrest
  rw [exec_runBay_head hl hset hi hq hstop]
  have hpins : ((startOp b op.kind (retaken b op rest s)).bay b).pins.wgate = false := by rw [hconf.own]; exact hg
  have hsupply : (startOp b op.kind (retaken b op rest s)).supply = s.supply := by rw [hconf.part]
  rw [judgeGates_own hset.2.2.1 hconf.other (by rw [hsupply]), judgeGate_of_no_fault (.inr (.inr hpins))]
  generalize startOp b op.kind (retaken b op rest s) = u at hconf hledger hspin hgate hsched hheld hrec
  have ht := hconf.modGate fun g => { g with wperm := permitDue (u.bay b) u.supply.state }
  refine ⟨_, rfl, ht.other, by simpa using hledger, ?_, ?_, ht.cart, by simp [hgate], by simpa using hrec⟩
  · have hreply : (retaken b op rest s).link.held = [1, 17, toBay b, 0] := by cases b <;> rfl
    rw [← hreply, ← hheld]
    cases b <;> rfl
  · have hp := ht.own
    rw [State.modGate_spin, hspin, State.modGate_sched, hsched] at hp
    rw [← hi] at hp
    exact hp

/-- R30, R31: a resumed SPIN UP over a braking platter or a spindle at rest stays in flight. -/
theorem runBay_spinUp {rest : List Op} (hl : LinkTakes (frameOf (.runBay b)) s) (hset : Settled s)
    (hs : (s.bay b).sched.state = .halted) (hi : (s.bay b).sched.inflight = none) (hq : (s.bay b).sched.queue = op :: rest)
    (hk : op.kind = .spinUp) (hm : ((s.bay b).cart.media.any fun m => m.kind = .unrecognised) = false)
    (hw : s.ledger.waits (.spindle b) = false) (hp : (s.bay b).pos.pending ≠ .load) (hc : (s.bay b).cart.state = .seated)
    (hspin : (s.bay b).spin.state = .braking ∨
      (s.bay b).spin.state = .stopped ∧ (s.bay b).mon.overcurrent = false ∧ 180 ≤ s.ledger.capacity) :
    After (exec (.runBay b) s) fun t =>
      t.bay b.other = s.bay b.other ∧ t.completions = s.completions ∧ t.link.held = [1, 17, toBay b, 0] ∧
      (t.bay b).sched =
        { (s.bay b).sched with
          queue := rest, inflight := some op, state := if (s.bay b).sched.step then .halting else .running
          cause := if (s.bay b).sched.step then some .step else none } ∧
      (if (s.bay b).spin.state = .braking then
        (t.bay b).spin = { (s.bay b).spin with startMark := true } ∧ t.ledger = s.ledger
      else if s.ledger.wait = [] ∧ s.ledger.sum - s.hold (.spindle b) + 180 ≤ s.ledger.effective then
        (t.bay b).spin.state = .aligning ∧ (t.bay b).spin.attempt = 1 ∧ t.ledger = s.ledger.setHold (.spindle b) 180
      else
        (t.bay b).spin.state = .waitPower ∧ (t.bay b).spin.attempt = 1 ∧
          t.ledger = { s.ledger with wait := s.ledger.wait ++ [⟨.spindle b, .fixed 180⟩] }) := by
  have htaken := taken_retaken b op rest s
  have ha := htaken.spindleAlone hc hp
  obtain ⟨hconf, -, -⟩ := htaken.spinUp_confined ha hw hm
  have hreply : (retaken b op rest s).link.held = [1, 17, toBay b, 0] := by cases b <;> rfl
  have hheld : (startOp b .spinUp (retaken b op rest s)).link.held = [1, 17, toBay b, 0] :=
    ((Acts.refl false (retaken b op rest s)).startOp (k := .spinUp) (by simp) (by simp)).kept.reply.trans hreply
  have hhalted := (retaken_halted (op := op) (rest := rest) hs).1
  have hexec : ((startOp b .spinUp (retaken b op rest s)).bay b).sched = ((retaken b op rest s).bay b).sched →
      ((startOp b .spinUp (retaken b op rest s)).bay b).gate = (s.bay b).gate →
      ((startOp b .spinUp (retaken b op rest s)).bay b).spin.state ≠ .locked →
      exec (.runBay b) s = .next (startOp b .spinUp (retaken b op rest s)) := fun hsched hgate hlock => by
    rw [exec_runBay_head hl hset hi hq (by rw [hk, hsched, hhalted]; simp [mayTake]), hk]
    rw [judgeGates_exact (hset.2.2.1.unlocked hconf.other (by rw [hconf.part]) hgate (by rcases hspin with h | h <;> simp [h]) hlock)]
  rcases hspin with hb | ⟨hst, ho, hcap⟩
  · have hstart := htaken.spinUp_braking hb hm
    rw [hstart] at hexec hheld hconf
    rw [hexec (by simp) (by simp [htaken.gate]) (by simp [htaken.spin, hb])]
    exact ⟨_, rfl, hconf.other, by simp [htaken.completions], hheld, by simpa using hhalted, by simp [hb, htaken.spin, htaken.ledger]⟩
  · have hstart := htaken.spinUp_stopped hst ho hm
    obtain ⟨-, hgate, hattempt, hlock⟩ := ha.askPower_confined (by rw [htaken.ledger]; exact hw) 1
    have hans := htaken.askPower_answers hk ha hw
    dsimp only at hans
    rw [if_neg (by omega)] at hans
    obtain ⟨hcomp, hsched, hled⟩ := hans
    rw [hstart] at hexec hheld hconf
    rw [hexec hsched (by rw [hgate, htaken.gate]) hlock]
    refine ⟨_, rfl, hconf.other, hcomp, hheld, by rw [hsched, hhalted], ?_⟩
    rw [if_neg (by simp [hst])]
    split at hled
    · next hf =>
      obtain ⟨hl1, hl2, -⟩ := hled
      rw [if_pos hf]
      exact ⟨hl2, hattempt, hl1⟩
    · next hf =>
      obtain ⟨hl1, hl2, -⟩ := hled
      rw [if_neg hf]
      exact ⟨hl2, hattempt, hl1⟩

/-- Settles O32: HALT BAY, SET STEP MODE and an idle RUN BAY are changes of the scheduler and the lamp; RUN BAY from HALTED is
the taking of the queue's head. -/
theorem haltRunAndStepMode : Obligations.HaltRunAndStepMode := by
  refine ⟨fun b on s hset => ⟨fun hl => ?_, fun hl hq => ?_, fun hl => exec_setStepMode on hl hset⟩,
    fun b op rest s hl hset hs hi hq => ⟨fun o ha hlast hg => ?_, fun hk hm hw hp hc hspin =>
      runBay_spinUp hl hset hs hi hq hk hm hw hp hc hspin⟩⟩
  · rw [exec_haltBay hl hset]
    refine congrArg (fun f => Host.Outcome.next (State.answer [1, 16, toBay b, 0] (s.modSched b f))) (funext fun x => ?_)
    unfold Sched.halt
    cases x.state with
    | running => cases x.inflight <;> rfl
    | halting | halted => rfl
  · exact ⟨_, runBay_idle hl hset hq, resumed_eq b s, resumed_cart b s⟩
  · obtain ⟨t, ht, hother, hledger, hheld, hown, hcart, hwin, hrec⟩ := runBay_completes hl hset hs hi hq ha hlast hg
    refine ⟨t, ht, hother, hledger, hheld, hown, hcart, hwin.trans ?_, hrec.trans ?_⟩
    · cases op.kind <;> rfl
    · cases op.kind <;> cases o <;> rfl

end Sys2Proof.Machine
end

section
namespace Sys2Proof.Machine

variable {b : Bay} {s t u v : State} {c : Consumer} {k : OpKind} {op : Op} {o : OpOutcome}

/-! ### What the settling of an event leaves of the ledger and the reply -/

/-- The capacities of the ledger and the reply are as they were. -/
structure Steady (s t : State) : Prop where
  capacity : t.ledger.capacity = s.ledger.capacity
  effective : t.ledger.effective = s.ledger.effective
  held : t.link.held = s.link.held

theorem Kept.steady (h : Kept s t) : Steady s t := ⟨h.capacity, h.effective, h.reply⟩

namespace Steady

theorem refl (s : State) : Steady s s := ⟨rfl, rfl, rfl⟩

theorem trans (h : Steady s t) (k : Steady t u) : Steady s u :=
  ⟨k.capacity.trans h.capacity, k.effective.trans h.effective, k.held.trans h.held⟩

theorem gate (h : Steady s t) (b : Bay) : Steady s (judgeGate b t) := h.trans ⟨by simp, by simp, by simp⟩

theorem gates (h : Steady s t) : Steady s (judgeGates t) := (h.gate .A).gate .B

theorem complete (h : Steady s t) (o : OpOutcome) : Steady s (completeOp b o t) := h.trans (kept_completeOp b o t).steady

theorem modGate (h : Steady s t) (f : Gate → Gate) : Steady s (t.modGate b f) := h.trans ⟨by simp, by simp, by cases b <;> rfl⟩

/-- A release is taken by acts of its bay behind the cartridge's entry to RELEASE_PENDING. -/
theorem requestRelease (h : Steady s t) : Steady s (requestRelease b t) := by
  by_cases hc : (t.bay b).cart.state = .seated ∨ (t.bay b).cart.state = .jammed
  · rw [requestRelease_released hc]
    exact (h.trans (releasing_kept b t).steady).trans (acts_released b _).kept.steady
  · have hsame : Machine.requestRelease b t = t := by
      unfold Machine.requestRelease
      cases hs : (t.bay b).cart.state <;> simp [hs] at hc ⊢
    rw [hsame]
    exact h

theorem startOp (h : Steady s t) (k : OpKind) : Steady s (startOp b k t) := by
  by_cases hw : k = .openWrite
  · subst hw
    change Steady s (takeOpenWrite b t)
    unfold takeOpenWrite
    split
    · exact h.complete _
    · split
      · exact (h.modGate _).complete _
      · exact h.complete _
  · by_cases he : k = .eject
    · subst he
      exact h.requestRelease
    · exact h.trans ((Acts.refl false t).startOp hw he).kept.steady

theorem takeRun (n : Nat) (h : Steady s t) : Steady s (takeRun b n t) := by
  induction n generalizing t with
  | zero => exact h
  | succ n ih =>
    unfold Machine.takeRun
    split
    · split
      · exact h
      · exact ih ((h.trans (kept_changeSched b _ t).steady).startOp _).gates
    · exact h

theorem settle (h : Steady s t) : Steady s (settle t) := (h.gates.takeRun _).takeRun _

end Steady

@[simp] theorem done_bay (code bay : Byte) (payload : List Byte) (s : State) (c : Bay) : (done code bay payload s).bay c = s.bay c := by
  simp [done, reply]

@[simp] theorem done_ledger (code bay : Byte) (payload : List Byte) (s : State) : (done code bay payload s).ledger = s.ledger := by
  simp [done, reply]

@[simp] theorem done_completions (code bay : Byte) (payload : List Byte) (s : State) :
    (done code bay payload s).completions = s.completions := by simp [done, reply]

@[simp] theorem done_supply (code bay : Byte) (payload : List Byte) (s : State) : (done code bay payload s).supply = s.supply := by
  simp [done, reply]

namespace Confined

theorem refl (b : Bay) (s : State) : Confined b s s := ⟨by cases s; rfl, rfl, rfl, sameButLamp_refl _⟩

theorem modLink (h : Confined b s t) (f : Link → Link) : Confined b s (t.modLink f) :=
  h.trans ⟨by cases b <;> rfl, by simp, by cases b <;> rfl, by simp [sameButLamp_refl]⟩

theorem done (h : Confined b s t) (code bay : Byte) (payload : List Byte) : Confined b s (Machine.done code bay payload t) := by
  unfold Machine.done reply
  exact h.modLink _

end Confined

/-! ### SET BUDGET (R58) -/

theorem exec_setBudget (x : BitVec 16) (hl : LinkTakes (frameOf (.setBudget x)) s) (ha : AttnExact s) :
    exec (.setBudget x) s = if max 100 (min 400 x.toNat) < s.ledger.sum then .next (s.refusedAs 32 0 .inUse)
      else .next (settle (done 32 0 (u16 (max 100 (min 400 x.toNat))) (takeCapacity (max 100 (min 400 x.toNat)) (s.modLink Link.framed)))) := by
  rw [exec_framed rfl hl]
  simp only [takeRequest, requestSetBudget, clampNat_eq (show 100 ≤ 400 by decide), State.modLink_ledger]
  split
  · exact congrArg _ (refuse_framed s 32 0 .inUse hl.1 ha)
  · rfl

theorem tellAllNoBudget_ledger (cs : List Consumer) (s : State) : (tellAllNoBudget cs s).ledger = s.ledger := by
  induction cs generalizing s with
  | nil => rfl
  | cons c cs ih => exact (ih _).trans (by simp)

/-- R58: a capacity taken gives the ledger's C and E, and leaves no entry above C. -/
theorem takeCapacity_ledger (n : Nat) (s : State) :
    (takeCapacity n s).ledger.capacity = n ∧ (takeCapacity n s).ledger.effective = effectiveOf n s.supply.state := by
  simp only [takeCapacity, tellGrants_ledger, State.setLedger_ledger, tellAllNoBudget_ledger]
  obtain ⟨hc, he, -⟩ := Ledger.grantHeads_spec (s.ledger.take n s.supply.state).1.wait (s.ledger.take n s.supply.state).1
  exact ⟨hc, he⟩

/-- No entry exceeds the capacity that the settling of the event leaves. -/
theorem settle_within (n : Nat) (payload : List Byte) (s : State) : (settle (done 32 0 payload (takeCapacity n s))).ledger.Within :=
  have hk : Keeps false (s.setLedger (s.ledger.take n s.supply.state).1) (settle (done 32 0 payload (takeCapacity n s))) :=
    ((((Keeps.refl _).tellAllNoBudget _).ledger (fun hl => hl.reexamine) _).done _ _ _).settle
  hk.within (by rw [State.setLedger_ledger]; exact Ledger.take_within _ _ _)

/-- A ledger of this capacity, E following the supply (R50). -/
def Ledger.budget (l : Ledger) (n : Nat) (x : SupplyState) : Ledger := { l with capacity := n, effective := effectiveOf n x }

/-- R58: with no entry above the capacity its taking is a re-examination. -/
theorem takeCapacity_of_fitting {n : Nat} (h : ∀ e ∈ s.ledger.wait, e.req.need ≤ n) :
    takeCapacity n s = tellGrants ((s.ledger.budget n s.supply.state).reexamine).2
      (s.setLedger ((s.ledger.budget n s.supply.state).reexamine).1) := by
  have hkeep : s.ledger.wait.filter (fun e : WaitEntry => e.req.need ≤ n) = s.ledger.wait :=
    List.filter_eq_self.mpr fun e he => by simpa using h e he
  have hgone : s.ledger.wait.filter (fun e : WaitEntry => n < e.req.need) = [] :=
    List.filter_eq_nil_iff.mpr fun e he => by simpa using h e he
  simp only [takeCapacity, Ledger.take, hkeep, hgone]
  rfl

/-- A re-examination with nothing waiting. -/
theorem reexamine_idle (h : s.ledger.wait = []) : tellGrants s.ledger.reexamine.2 (s.setLedger s.ledger.reexamine.1) = s := by
  have hl : s.ledger.reexamine = (s.ledger, []) := by rw [Ledger.reexamine, h, Ledger.grantHeads, ← h]
  rw [hl]
  rfl

/-- R58: with nothing waiting a capacity taken is C and E. -/
theorem takeCapacity_of_nil (n : Nat) (h : s.ledger.wait = []) : takeCapacity n s = s.setLedger (s.ledger.budget n s.supply.state) := by
  rw [takeCapacity_of_fitting (by simp [h])]
  exact reexamine_idle (s := s.setLedger (s.ledger.budget n s.supply.state)) h

/-- R58: with nothing waiting SET BUDGET is the answer over C and E. -/
theorem setBudget_nil (n : Nat) (hr : s.link.resetN = true) (hset : Settled s) (h : s.ledger.wait = []) :
    settle (done 32 0 (u16 n) (takeCapacity n (s.modLink Link.framed))) =
      State.answer [1, 32, 0, 2, byteOf (n / 256), byteOf n] (s.setLedger (s.ledger.budget n s.supply.state)) := by
  have hswap : takeCapacity n (s.modLink Link.framed) = (s.setLedger (s.ledger.budget n s.supply.state)).modLink Link.framed :=
    takeCapacity_of_nil (s := s.modLink Link.framed) n h
  have hattn : AttnExact (s.setLedger (s.ledger.budget n s.supply.state)) :=
    hset.1.congr rfl rfl rfl fun c => by cases c <;> rfl
  rw [hswap, done, reply_framed _ _ _ _ _ (by exact hr) hattn]
  refine settle_exact _ (fun c => ?_) (fun c => ?_)
  · exact hset.2.2.1 c
  · exact hset.2.2.2 c

/-- A spindle whose request alone waits has been told NO_BUDGET at the taking of a capacity. -/
def budgetFails (b : Bay) (n : Nat) (s : State) : State :=
  completeOp b (.failed .noBudget)
    ((s.setLedger { s.ledger.budget n s.supply.state with wait := [] }).modSpin b fun x => { x with state := .stopped })

/-- R58: a spindle that waits alone for 180 above C fails NO_BUDGET. -/
theorem takeCapacity_fails {n : Nat} (hw : s.ledger.wait = [⟨.spindle b, .fixed 180⟩]) (hn : n < 180)
    (hs : (s.bay b).spin.state = .waitPower) (hi : (s.bay b).sched.inflight = some op) (hk : op.kind = .spinUp) :
    takeCapacity n s = budgetFails b n s := by
  have htake : s.ledger.take n s.supply.state = ({ s.ledger.budget n s.supply.state with wait := [] }, [.spindle b]) := by
    have hnot : ¬180 ≤ n := by omega
    simp [Ledger.take, Ledger.budget, hw, Req.need, hn, hnot]
  have htell : tellNoBudget (.spindle b) (s.setLedger { s.ledger.budget n s.supply.state with wait := [] }) = budgetFails b n s := by
    rw [tellNoBudget, if_pos (by simpa using hs), completeIf_of_kind (op := op) (by simpa using hi) (by rw [hk]; rfl)]
    rfl
  simp only [takeCapacity, htake, tellAllNoBudget, htell]
  exact reexamine_idle (by simp [budgetFails])

/-- What that leaves. -/
theorem budgetFails_spec (n : Nat) (hi : (s.bay b).sched.inflight = some op) (hk : op.kind = .spinUp) :
    let u := budgetFails b n s
    Confined b s u ∧ (u.bay b).gate = (s.bay b).gate ∧ (u.bay b).spin = { (s.bay b).spin with state := .stopped } ∧
      (u.bay b).sched = (s.bay b).sched.ended ∧ u.ledger = { s.ledger.budget n s.supply.state with wait := [] } ∧
      u.completions = recorded s.completions ⟨op.tag, b, .spinUp, .failed .noBudget, some (s.bay b).spin.attempt⟩ := by
  unfold budgetFails
  refine ⟨(((Confined.refl b s).setLedger _).modSpin _).completeOp _, by simp, by simp, by simp [completeOp_sched], by simp, ?_⟩
  rw [completeOp_completions (op := op) (by simpa using hi), hk]
  simp [detailOf]

/-! #### The re-examination behind a spindle at the head of the list (R56) -/

theorem Ledger.reexamine_granted {l : Ledger} {a : Nat} {rest : List WaitEntry} (hw : l.wait = ⟨c, .fixed a⟩ :: rest)
    (hf : l.sum - l.hold c + a ≤ l.effective) :
    l.reexamine = (((l.setHold c a).grantHeads rest).1, (c, a) :: ((l.setHold c a).grantHeads rest).2) := by
  rw [Ledger.reexamine, hw, Ledger.grantHeads, Ledger.fit_fixed, if_pos hf]

theorem Ledger.reexamine_waiting {l : Ledger} {a : Nat} {rest : List WaitEntry} (hw : l.wait = ⟨c, .fixed a⟩ :: rest)
    (hf : ¬l.sum - l.hold c + a ≤ l.effective) : l.reexamine = (l, []) := by
  rw [Ledger.reexamine, hw, Ledger.grantHeads, Ledger.fit_fixed, if_neg hf, ← hw]

/-- An entry to LOADING leaves a spindle whose speed-lost timer does not run. -/
theorem enterLoading_spin_eq (hs : (s.bay b).spin.state ≠ .unlocked) (hn : (s.bay b).spin.speedLost = none) :
    ((enterLoading b s).bay b).spin = (s.bay b).spin := by
  rw [enterLoading, speedLostUpdate_off (.inl (by simpa [historyReset_spin] using hs)), State.modSpin_spin, State.modPos_spin,
    historyReset_spin, ← hn]

/-- A grant to the actuator leaves a spindle that is not LOCKED, or whose speed-lost timer does not run. -/
theorem actuatorGranted_spin_eq (n : Nat) (hl : (s.bay b).spin.state = .locked → (s.bay b).spin.speedLost = none) :
    ((actuatorGranted b n s).bay b).spin = (s.bay b).spin := by
  have hc : ((clampAct b n s).bay b).spin = (s.bay b).spin := by simp [clampAct]
  unfold actuatorGranted
  dsimp only
  split
  · split
    · simp only [enterSeeking, State.modPos_spin, switchHead_spin, setTarget_spin, hc]
    · simp only [enterSeeking, State.modPos_spin, hc]
    · exact hc
  · unfold tryLoading
    split
    · next hc' =>
      simp only [Bool.and_eq_true, decide_eq_true_eq, hc] at hc'
      obtain ⟨-, hlocked⟩ := hc'
      rw [enterLoading_spin_eq (by simp [hc, hlocked]) (by rw [hc]; exact hl hlocked), hc]
    · exact hc

/-- A grant leaves a spindle out of WAIT_POWER whose speed-lost timer does not run under LOCKED. -/
theorem tellGrant_spin_eq (g : Grant) (hw : (s.bay b).spin.state ≠ .waitPower)
    (hl : (s.bay b).spin.state = .locked → (s.bay b).spin.speedLost = none) :
    ((tellGrant s g).bay b).spin = (s.bay b).spin := by
  rcases g with ⟨d | d | d, n⟩
  all_goals
    simp only [tellGrant]
    rcases Bay.cases_eq d b with rfl | rfl
  · simp [enterAligning, hw]
  · rw [enterAligning_bay_other]
  · exact actuatorGranted_spin_eq n hl
  · rw [actuatorGranted_bay_other]
  · rw [startPulse_spin]
  · rw [startPulse_spin]

theorem tellGrants_spin_eq (gs : List Grant) (hw : (s.bay b).spin.state ≠ .waitPower)
    (hl : (s.bay b).spin.state = .locked → (s.bay b).spin.speedLost = none) :
    ((tellGrants gs s).bay b).spin = (s.bay b).spin := by
  unfold tellGrants
  induction gs generalizing s with
  | nil => rfl
  | cons g gs ih =>
    have hg := tellGrant_spin_eq g hw hl
    exact (ih (by rw [hg]; exact hw) (by rw [hg]; exact hl)).trans hg

/-- R31, R58: the spindle that waits alone for more than the new capacity. -/
theorem setBudget_fails {x : BitVec 16} (hl : LinkTakes (frameOf (.setBudget x)) s) (hset : Settled s)
    (hw : s.ledger.wait = [⟨.spindle b, .fixed 180⟩]) (hx : x.toNat < 180) (hsum : s.ledger.sum ≤ max 100 x.toNat)
    (hs : (s.bay b).spin.state = .waitPower) (hi : (s.bay b).sched.inflight = some op) (hk : op.kind = .spinUp)
    (hr : (s.bay b).sched.state = .running) (hq : (s.bay b).sched.queue = []) :
    After (exec (.setBudget x) s) fun t =>
      t.ledger = { s.ledger with capacity := max 100 x.toNat, effective := t.ledger.effective, wait := [] } ∧
      t.bay b = { s.bay b with
        cart := (t.bay b).cart, spin := { (s.bay b).spin with state := .stopped }, gate := (t.bay b).gate,
        sched := { (s.bay b).sched with inflight := none } } ∧
      t.bay b.other = s.bay b.other ∧
      t.completions = recorded s.completions ⟨op.tag, b, .spinUp, .failed .noBudget, some (s.bay b).spin.attempt⟩ := by
  have hn : max 100 (min 400 x.toNat) = max 100 x.toNat := by omega
  rw [exec_setBudget x hl hset.1, hn, if_neg (by omega),
    takeCapacity_fails (by simpa using hw) (by omega) (by simpa using hs) (by simpa using hi) hk]
  obtain ⟨hconf, hgate, hspin, hsched, hledger, hcomp⟩ := budgetFails_spec (b := b) (s := s.modLink Link.framed) (op := op)
    (max 100 x.toNat) (by simpa using hi) hk
  simp only [State.modLink_bay, State.modLink_ledger, State.modLink_completions] at hgate hspin hsched hledger hcomp
  replace hconf := (((Confined.refl b s).modLink _).trans hconf).done 32 0 (u16 (max 100 x.toNat))
  generalize budgetFails b (max 100 x.toNat) (s.modLink Link.framed) = u at hconf hgate hspin hsched hledger hcomp
  have hsupply : (done 32 0 (u16 (max 100 x.toNat)) u).supply = s.supply := by rw [hconf.part]
  have hended : (s.bay b).sched.ended = { (s.bay b).sched with inflight := none } := by simp [Sched.ended, hi, hr]
  rw [hended] at hsched
  have hexact : PermitExact (done 32 0 (u16 (max 100 x.toNat)) u) :=
    hset.2.2.1.unlocked hconf.other hsupply (by rw [done_bay, hgate]) (by simp [hs]) (by simp [hspin])
  rw [hset.settle_own hconf.other (by rw [hsupply]) (fun _ => by rw [done_bay, hsched]; exact hq), judgeGate_exact _ b (hexact b)]
  refine ⟨_, rfl, by simp [hledger, Ledger.budget], ?_, hconf.other, by simpa using hcomp⟩
  have hown := hconf.own
  rw [done_bay, hspin, hsched] at hown
  rw [done_bay]
  exact hown

/-- R58: with no entry above the capacity SET BUDGET is the ledger's re-examination and its grants. -/
theorem exec_setBudget_fitting {x : BitVec 16} (hl : LinkTakes (frameOf (.setBudget x)) s) (hset : Settled s)
    (hsum : s.ledger.sum ≤ max 100 (min 400 x.toNat)) (hfit : ∀ e ∈ s.ledger.wait, e.req.need ≤ max 100 (min 400 x.toNat)) :
    exec (.setBudget x) s = .next (judgeGates (done 32 0 (u16 (max 100 (min 400 x.toNat)))
      (tellGrants (s.ledger.budget (max 100 (min 400 x.toNat)) s.supply.state).reexamine.2
        ((s.modLink Link.framed).setLedger (s.ledger.budget (max 100 (min 400 x.toNat)) s.supply.state).reexamine.1)))) := by
  rw [exec_setBudget x hl hset.1, if_neg (by omega), takeCapacity_of_fitting (by simpa using hfit), settle_of_takingsDone]
  · simp
  · intro c
    rw [done_bay, tellGrants_sched]
    exact hset.2.2.2 c

/-- A spindle at the grant of its 180. -/
theorem tellGrant_spindle (n : Nat) (h : (s.bay b).spin.state = .waitPower) : tellGrant s (.spindle b, n) = s.modSpin b Spindle.aligning := by
  rw [tellGrant, enterAligning, if_pos h]
  rfl

theorem Spindle.aligning_eq (x : Spindle) :
    x.aligning = { x with state := .aligning, drive := 60, phases := .fixed, sbrk := false, stageTimer := some 500000 } := rfl

theorem Ledger.budget_sum (l : Ledger) (n : Nat) (x : SupplyState) : (l.budget n x).sum = l.sum := rfl

theorem Ledger.budget_hold (l : Ledger) (n : Nat) (x : SupplyState) (c : Consumer) : (l.budget n x).hold c = l.hold c := by
  rcases c with b | b | b <;> cases b <;> rfl

theorem Ledger.budget_setHold (l : Ledger) (n : Nat) (x : SupplyState) (c : Consumer) (a : Nat) :
    (l.budget n x).setHold c a = (l.setHold c a).budget n x := by rcases c with b | b | b <;> cases b <;> rfl

/-- What a capacity taken leaves of the ledger and the grants when a spindle at the head of the list can have its 180 (R56). -/
def spindleServed (b : Bay) (n : Nat) (rest : List WaitEntry) (s : State) : Ledger × List Grant :=
  ((s.ledger.setHold (.spindle b) 180).budget n s.supply.state).grantHeads rest

section
variable {x : BitVec 16} {n : Nat} {rest : List WaitEntry} (hl : LinkTakes (frameOf (.setBudget x)) s) (hset : Settled s)
  (hw : s.ledger.wait = ⟨.spindle b, .fixed 180⟩ :: rest) (hh : s.hold (.spindle b) = 0) (hn : max 100 (min 400 x.toNat) = n)
  (hcap : 180 ≤ n) (hsum : s.ledger.sum ≤ n) (hrest : ∀ e ∈ rest, e.req.need ≤ n)

include hw hcap hrest in
theorem head_fits : ∀ e ∈ s.ledger.wait, e.req.need ≤ n := by
  rw [hw]
  exact List.forall_mem_cons.mpr ⟨hcap, hrest⟩

include hh in
theorem budget_free : (s.ledger.budget n s.supply.state).sum - (s.ledger.budget n s.supply.state).hold (.spindle b) + 180 =
    s.ledger.sum + 180 := by
  rw [Ledger.budget_sum, Ledger.budget_hold, show s.ledger.hold (.spindle b) = 0 from hh, Nat.sub_zero]

include hl hset hw hh hn hcap hsum hrest

/-- Behind a head that does not fit nothing is granted. -/
theorem setBudget_head_waits (hno : effectiveOf n s.supply.state < s.ledger.sum + 180) :
    exec (.setBudget x) s =
      .next (done 32 0 (u16 n) ((s.modLink Link.framed).setLedger (s.ledger.budget n s.supply.state))) := by
  have hre : (s.ledger.budget n s.supply.state).reexamine = (s.ledger.budget n s.supply.state, []) :=
    Ledger.reexamine_waiting (a := 180) hw (by rw [budget_free hh]; exact Nat.not_le.mpr hno)
  subst hn
  rw [exec_setBudget_fitting hl hset hsum (head_fits hw hcap hrest), hre]
  refine congrArg _ (judgeGates_exact fun c => ?_)
  simpa [tellGrants] using hset.2.2.1 c

/-- A head that fits is granted, and the entries behind it are judged. -/
theorem setBudget_head_granted (hs : (s.bay b).spin.state = .waitPower) (hyes : s.ledger.sum + 180 ≤ effectiveOf n s.supply.state) :
    exec (.setBudget x) s =
      .next (judgeGates (done 32 0 (u16 n) (tellGrants (spindleServed b n rest s).2
        (((s.modLink Link.framed).setLedger (spindleServed b n rest s).1).modSpin b Spindle.aligning)))) := by
  have hre := Ledger.reexamine_granted (l := s.ledger.budget n s.supply.state) (a := 180) hw (by rw [budget_free hh]; exact hyes)
  rw [Ledger.budget_setHold] at hre
  subst hn
  rw [exec_setBudget_fitting hl hset hsum (head_fits hw hcap hrest), hre]
  change Host.Outcome.next (judgeGates (done _ _ _ (tellGrants _ (tellGrant _ _)))) = _
  rw [tellGrant_spindle _ (by simpa using hs)]
  rfl

end

/-- The other spindle's 180 behind this one's (R53, R56). -/
theorem spindleServed_other (n : Nat) (hh : s.hold (.spindle b) = 0) (ho : s.hold (.spindle b.other) = 0) :
    spindleServed b n [⟨.spindle b.other, .fixed 180⟩] s =
      if s.ledger.sum + 360 ≤ effectiveOf n s.supply.state then
        ({ ((s.ledger.setHold (.spindle b) 180).setHold (.spindle b.other) 180).budget n s.supply.state with wait := [] },
          [(.spindle b.other, 180)])
      else ({ (s.ledger.setHold (.spindle b) 180).budget n s.supply.state with wait := [⟨.spindle b.other, .fixed 180⟩] }, []) := by
  have hne : Consumer.spindle b.other ≠ .spindle b := by cases b <;> simp [Bay.other]
  have hsum : ((s.ledger.setHold (.spindle b) 180).budget n s.supply.state).sum -
      ((s.ledger.setHold (.spindle b) 180).budget n s.supply.state).hold (.spindle b.other) + 180 = s.ledger.sum + 360 := by
    simp only [State.hold] at hh ho
    rw [Ledger.budget_sum, Ledger.budget_hold, Ledger.setHold_hold_ne _ _ _ _ hne, Ledger.setHold_sum, hh, ho]
    omega
  have heff : ((s.ledger.setHold (.spindle b) 180).budget n s.supply.state).effective = effectiveOf n s.supply.state := rfl
  rw [spindleServed, Ledger.grantHeads, Ledger.fit_fixed, hsum, heff]
  by_cases hf : s.ledger.sum + 360 ≤ effectiveOf n s.supply.state
  · rw [if_pos hf, if_pos hf, ← Ledger.budget_setHold _ _ _ (.spindle b.other)]
    rfl
  · rw [if_neg hf, if_neg hf]
    rfl

/-- Settles O36: a capacity taken is the ledger's C and E, NO_BUDGET for what exceeds it, and a re-examination. -/
theorem setBudgetSetsTheCapacity : Obligations.SetBudgetSetsTheCapacity := by
  refine ⟨fun x s hl hset => ⟨fun hn => ?_, fun hn => ?_⟩,
    fun b x s op hl hset hw hx hsum hs hi hk hr hq => setBudget_fails hl hset hw hx hsum hs hi hk hr hq,
    fun b x rest s hl hset hw hs hh hcap hsum hrest => ?_⟩
  · rw [exec_setBudget x hl hset.1, if_pos hn]
  · rw [exec_setBudget x hl hset.1, if_neg (by omega)]
    generalize max 100 (min 400 x.toNat) = n
    obtain ⟨hcap, heff, hheld⟩ := (Steady.refl (done 32 0 (u16 n) (takeCapacity n (s.modLink Link.framed)))).settle
    obtain ⟨hc, he⟩ := takeCapacity_ledger n (s.modLink Link.framed)
    rw [done_ledger, hc] at hcap
    rw [done_ledger, he] at heff
    refine ⟨_, rfl, hcap, ?_, fun e hmem => hcap ▸ settle_within n (u16 n) _ e hmem, hheld, fun hw => ?_⟩
    · rw [heff]
      change effectiveOf n s.supply.state = _
      cases s.supply.state <;> rfl
    · rw [hcap, heff, setBudget_nil n hl.1 hset hw]
      rfl
  · generalize hn : max 100 (min 400 x.toNat) = n at hcap hsum hrest
    by_cases hyes : s.ledger.sum + 180 ≤ effectiveOf n s.supply.state
    · rw [setBudget_head_granted hl hset hw hh hn hcap hsum hrest hs hyes]
      have heff : (spindleServed b n rest s).1.effective = effectiveOf n s.supply.state := (Ledger.grantHeads_spec _ _).2.1
      have hcapn : (spindleServed b n rest s).1.capacity = n := (Ledger.grantHeads_spec _ _).1
      refine ⟨_, rfl, ?_⟩
      simp only [judgeGates_ledger, done_ledger, tellGrants_ledger, State.modSpin_ledger, State.setLedger_ledger, heff, hcapn]
      refine ⟨fun h => absurd hyes (Nat.not_le.mpr h), fun _ => ⟨?_, fun hnil => ?_, fun hother hso hho => ?_⟩⟩
      · rw [judgeGates_spin, done_bay, tellGrants_spin_eq _ (by simp [Spindle.aligning, Spindle.driven])
          (by simp [Spindle.aligning, Spindle.driven])]
        simp [Spindle.aligning_eq]
      · subst hnil
        refine ⟨rfl, ?_⟩
        rw [judgeGates_own hset.2.2.1 (b := b) (by simp [spindleServed, Ledger.grantHeads, tellGrants])
          (by simp [spindleServed, Ledger.grantHeads, tellGrants]), judgeGate_bay_other]
        simp [spindleServed, Ledger.grantHeads, tellGrants]
      · subst hother
        rw [spindleServed_other n hh hho]
        split
        · refine ⟨rfl, ?_⟩
          rw [judgeGates_spin, done_bay]
          change ((tellGrant _ (.spindle b.other, 180)).bay b.other).spin.state = _
          rw [tellGrant_spindle _ (by simpa using hso)]
          simp [Spindle.aligning_eq]
        · refine ⟨rfl, ?_⟩
          rw [judgeGates_own hset.2.2.1 (b := b) (by simp [tellGrants]) (by simp [tellGrants]), judgeGate_bay_other]
          simp [tellGrants]
    · rw [setBudget_head_waits hl hset hw hh hn hcap hsum hrest (Nat.not_le.mp hyes)]
      exact ⟨_, rfl, fun _ => ⟨rfl, rfl, rfl⟩, fun h => absurd h hyes⟩

end Sys2Proof.Machine
end

section
namespace Sys2Proof.Machine

variable {b : Bay} {m : Bool} {s t u v : State} {c : Consumer} {k : OpKind} {op : Op} {o : OpOutcome} {bytes : List Byte}

/-! ### ABORT BAY: the queue is cancelled (R159) -/

/-- The link is this one but for ATTN, which is as the state gives it. -/
def LinkIs (l : Link) (s : State) : Prop := s.link = { l with attn := attnDue s }

theorem linkIs_refreshAttn {l : Link} {a : Bool} (h : s.link = { l with attn := a }) : LinkIs l (refreshAttn s) := by
  have hr : (refreshAttn s).link = { s.link with attn := attnDue s } := rfl
  rw [LinkIs, hr, h]
  rfl

/-- R166: a reply over a link that has taken a frame. -/
theorem LinkIs.reply {l : Link} (h : LinkIs l.framed s) (hr : l.resetN = true) (kind : Nat) (code bay : Byte) (payload : List Byte) :
    Answers (replyFrame kind code bay payload) (reply kind code bay payload s) := by
  have hl : (Machine.reply kind code bay payload s).link =
      { s.link with phase := .holding, buffer := [], overflow := false, held := replyFrame kind code bay payload, readIndex := 0,
                    lrdy := true, resetOnRead := false } := rfl
  have ha : attnDue (Machine.reply kind code bay payload s) = attnDue s := rfl
  rw [Answers, hl, h, ha]
  simp [Link.framed, Link.answered, hr]

/-- What the records of a cancelled queue leave of the part. -/
theorem cancelAll_part (l : Link) (b : Bay) (ops : List Op) :
    ∀ s : State, LinkIs l s →
      LinkIs l (cancelAll b ops s) ∧
      cancelAll b ops s = { s with
        completions := (cancelAll b ops s).completions, link := (cancelAll b ops s).link
        partCnt := { s.partCnt with completionOverwrites := (cancelAll b ops s).partCnt.completionOverwrites } } := by
  induction ops with
  | nil => exact fun s h => ⟨h, rfl⟩
  | cons op ops ih =>
    intro s h
    have hw : LinkIs l (writeRecord b op .cancelled s) ∧
        writeRecord b op .cancelled s = { s with
          completions := (writeRecord b op .cancelled s).completions, link := (writeRecord b op .cancelled s).link
          partCnt := { s.partCnt with completionOverwrites := (writeRecord b op .cancelled s).partCnt.completionOverwrites } } := by
      unfold writeRecord appendRecord
      split
      · exact ⟨linkIs_refreshAttn h, rfl⟩
      · exact ⟨linkIs_refreshAttn h, rfl⟩
    obtain ⟨h1, h2⟩ := ih _ hw.1
    refine ⟨h1, ?_⟩
    rw [cancelAll]
    have hpart := hw.2
    generalize (cancelAll b ops (writeRecord b op .cancelled s)).completions = x1,
      (cancelAll b ops (writeRecord b op .cancelled s)).link = x2,
      (cancelAll b ops (writeRecord b op .cancelled s)).partCnt.completionOverwrites = x3 at h2 ⊢
    rw [h2, hpart]

/-- The state in which ABORT BAY stops the operation in flight: the frame taken, the queue cancelled. -/
def emptiedQueue (b : Bay) (s : State) : State := cancelQueue b (s.modLink Link.framed)

theorem emptiedQueue_part (ha : AttnExact s) (b : Bay) :
    LinkIs s.link.framed (emptiedQueue b s) ∧
      emptiedQueue b s = { s with
        bayA := (emptiedQueue b s).bayA, bayB := (emptiedQueue b s).bayB, completions := (emptiedQueue b s).completions
        link := (emptiedQueue b s).link
        partCnt := { s.partCnt with completionOverwrites := (emptiedQueue b s).partCnt.completionOverwrites } } := by
  have hlink : LinkIs s.link.framed ((s.modLink Link.framed).modSched b fun x => { x with queue := [] }) := by
    have hd : attnDue ((s.modLink Link.framed).modSched b fun x => { x with queue := [] }) = attnDue s := by cases b <;> rfl
    rw [LinkIs, hd, ← (show s.link.attn = attnDue s from ha)]
    cases b <;> rfl
  obtain ⟨h1, h2⟩ := cancelAll_part s.link.framed b ((s.modLink Link.framed).bay b).sched.queue _ hlink
  refine ⟨h1, ?_⟩
  rw [emptiedQueue, cancelQueue]
  generalize cancelAll b ((s.modLink Link.framed).bay b).sched.queue ((s.modLink Link.framed).modSched b fun x => { x with queue := [] }) = q
    at h2 ⊢
  generalize q.completions = x1, q.link = x2, q.partCnt.completionOverwrites = x3 at h2 ⊢
  rw [h2]
  cases b <;> rfl

theorem emptiedQueue_bay (b : Bay) (s : State) :
    (emptiedQueue b s).bay b = { s.bay b with sched := { (s.bay b).sched with queue := [] } } := by
  rw [emptiedQueue, cancelQueue_bay, State.modLink_bay]

theorem emptiedQueue_other (b : Bay) (s : State) : (emptiedQueue b s).bay b.other = s.bay b.other := by simp [emptiedQueue]

theorem emptiedQueue_ledger (b : Bay) (s : State) : (emptiedQueue b s).ledger = s.ledger := by simp [emptiedQueue]

theorem emptiedQueue_completions (b : Bay) (s : State) :
    (emptiedQueue b s).completions = recordedAll s.completions (cancelRecords b (s.bay b)) := by
  rw [emptiedQueue, cancelQueue_completions, State.modLink_bay, State.modLink_completions]

theorem emptiedQueue_inflight (b : Bay) (s : State) : ((emptiedQueue b s).bay b).sched.inflight = (s.bay b).sched.inflight := by
  rw [emptiedQueue_bay]

theorem emptiedQueue_supply (b : Bay) (s : State) : (emptiedQueue b s).supply = s.supply := (kept_cancelQueue b _).supply

/-- The bay brought to rest by ABORT BAY. -/
def stopsBay (b : Bay) (s : State) : State := abortPositioner b (cancelSpinUp b (emptiedQueue b s))

theorem acts_stopsBay (b : Bay) (s : State) : Acts b false (emptiedQueue b s) (stopsBay b s) :=
  (Acts.refl false _).cancelSpinUp.abortPositioner

/-- The reply of ABORT BAY (R159). -/
def abortAnswer (b : Bay) (s u : State) : List Byte :=
  [1, 19, toBay b, 2, byteOf (s.bay b).sched.queue.length, byteOf (((u.bay b).sched.inflight.map Op.tag).getD 0)]

theorem stopsBay_queue (b : Bay) (s : State) : ((stopsBay b s).bay b).sched.queue = [] := by
  have h := (acts_stopsBay b s).queueShrinks
  rcases h.2 with e | e
  · rw [e, emptiedQueue_bay]
  · exact e

/-- ABORT BAY is the cancellation, the stop, the answer; nothing is left to take. -/
theorem exec_abortBay (hl : LinkTakes (frameOf (.abortBay b)) s) (hset : Settled s) :
    exec (.abortBay b) s = .next (judgeGates (done 19 (toBay b)
      (abortReply (s.bay b).sched.queue.length ((stopsBay b s).bay b).sched) (stopsBay b s))) := by
  have hdone : TakingsDone (done 19 (toBay b) (abortReply (s.bay b).sched.queue.length ((stopsBay b s).bay b).sched) (stopsBay b s)) := by
    refine hset.2.2.2.ofOther (b := b) ?_ fun _ => ?_
    · rw [done_bay, (acts_stopsBay b s).other_kept.1, emptiedQueue_other]
    · rw [done_bay, stopsBay_queue]
  rw [exec_framed rfl hl, ← settle_of_takingsDone hdone]
  simp only [takeRequest, requestAbortBay, State.modLink_bay]
  rfl

/-- The end of an ABORT BAY leaves the bays but for their gates, the ledger and the records as the stop left them. -/
theorem abortBay_ends (hl : LinkTakes (frameOf (.abortBay b)) s) (hset : Settled s) {P : State → Prop}
    (h : ∀ t, (t.bay b).pos = ((stopsBay b s).bay b).pos → (t.bay b).spin = ((stopsBay b s).bay b).spin →
      (t.bay b).sched = ((stopsBay b s).bay b).sched → t.ledger = (stopsBay b s).ledger →
      t.completions = (stopsBay b s).completions → t.link.held = abortAnswer b s t → P t) :
    After (exec (.abortBay b) s) P := by
  rw [exec_abortBay hl hset]
  refine ⟨_, rfl, h _ (by simp) (by simp) (by simp) (by simp) (by simp) ?_⟩
  simp only [abortAnswer, judgeGates_sched, done_bay]
  rw [judgeGates, judgeGate_held, judgeGate_held]
  rfl

/-- With no SPIN UP, LOAD HEADS or SEEK in flight nothing is stopped. -/
theorem stopsBay_of_none (h : ∀ op, (s.bay b).sched.inflight = some op → op.kind = .spinDown ∨ op.kind = .unloadHeads ∨ op.kind = .eject) :
    stopsBay b s = emptiedQueue b s := by
  have hnot : ∀ p : OpKind → Bool, p .spinDown = false → p .unloadHeads = false → p .eject = false →
      inflightIs b p (emptiedQueue b s) = false := by
    intro p h1 h2 h3
    cases hi : (s.bay b).sched.inflight with
    | none => exact inflightIs_none (by rw [emptiedQueue_inflight, hi])
    | some op =>
      rw [inflightIs_of (op := op) (by rw [emptiedQueue_inflight, hi])]
      rcases h op hi with e | e | e <;> rw [e] <;> assumption
  rw [stopsBay, cancelSpinUp_of_not (hnot _ rfl rfl rfl), abortPositioner, hnot OpKind.isLoad rfl rfl rfl, hnot OpKind.isSeek rfl rfl rfl]
  rfl

/-- R159: nothing but the queue. -/
theorem abortBay_queue (hl : LinkTakes (frameOf (.abortBay b)) s) (hset : Settled s)
    (h : ∀ op, (s.bay b).sched.inflight = some op → op.kind = .spinDown ∨ op.kind = .unloadHeads ∨ op.kind = .eject) :
    After (exec (.abortBay b) s) fun t =>
      t = { s with bayA := t.bayA, bayB := t.bayB, completions := t.completions, link := t.link,
                   partCnt := { s.partCnt with completionOverwrites := t.partCnt.completionOverwrites } } ∧
      t.bay b.other = s.bay b.other ∧ t.bay b = { s.bay b with sched := { (s.bay b).sched with queue := [] } } ∧
      t.completions = recordedAll s.completions (cancelRecords b (s.bay b)) ∧
      t.link = Link.answered (abortAnswer b s s) (attnDue t) := by
  obtain ⟨hlink, hpart⟩ := emptiedQueue_part hset.1 b
  have hans := hlink.reply hl.1 1 19 (toBay b) (abortReply (s.bay b).sched.queue.length ((emptiedQueue b s).bay b).sched)
  rw [emptiedQueue_bay] at hans
  have hexact : PermitExact (done 19 (toBay b) (abortReply (s.bay b).sched.queue.length (s.bay b).sched) (emptiedQueue b s)) := by
    refine hset.2.2.1.ofBay (b := b) (by rw [done_bay, emptiedQueue_other]) (by rw [done_supply, emptiedQueue_supply]) ?_
    rw [done_bay, done_supply, emptiedQueue_bay, emptiedQueue_supply]
    exact hset.2.2.1 b
  have hreply : abortReply (s.bay b).sched.queue.length ((emptiedQueue b s).bay b).sched =
      abortReply (s.bay b).sched.queue.length (s.bay b).sched := by rw [emptiedQueue_bay]; rfl
  rw [exec_abortBay hl hset, stopsBay_of_none h, hreply, judgeGates_exact hexact]
  refine ⟨_, rfl, ?_, by rw [done_bay, emptiedQueue_other], by rw [done_bay, emptiedQueue_bay],
    by rw [done_completions, emptiedQueue_completions], hans⟩
  unfold done reply
  generalize emptiedQueue b s = q at hpart
  rw [hpart]
  rfl

/-! ### ABORT BAY: the operation in flight is stopped (R43, R109) -/

/-- Acts behind which an operation is still in flight, none being queued, recorded nothing. -/
theorem Acts.unrecorded (h : Acts b m s t) (hq : (s.bay b).sched.queue = []) :
    (t.bay b).sched.queue = [] ∧
      ∀ op, (t.bay b).sched.inflight = some op → t.completions = s.completions ∧ (s.bay b).sched.inflight = some op := by
  induction h with
  | refl => exact ⟨hq, fun _ h => ⟨rfl, h⟩⟩
  | moved _ ih => exact ih hq
  | judged _ _ ih => exact ih hq
  | complete o _ ih =>
    refine ⟨by rw [completeOp_queue]; exact (ih hq).1, fun op h => ?_⟩
    rw [completeOp_sched, Sched.ended_inflight] at h
    cases h
  | fault c _ ih =>
    refine ⟨by rw [faultHalt_queue]; exact (ih hq).1, fun op h => ?_⟩
    rw [faultHalt_sched] at h
    cases h
  | cancel _ ih => rw [cancelQueue_of_nil (ih hq).1]; exact ih hq
  | spin _ _ _ _ ih | pos _ _ _ ih | count _ _ ih | unqualify _ ih | dropSau _ ih | history _ _ ih | close _ ih | pulseOff _ _ ih
  | abandon _ _ ih | lamp _ ih | ledger _ _ _ _ _ _ ih =>
    simpa [clearQualified] using ih hq

theorem stopsBay_completions (h : ((stopsBay b s).bay b).sched.inflight = some op) :
    (stopsBay b s).completions = recordedAll s.completions (cancelRecords b (s.bay b)) :=
  (((acts_stopsBay b s).unrecorded (by rw [emptiedQueue_bay])).2 op h).1.trans (emptiedQueue_completions b s)

theorem setTarget_pos (n : Nat) (b : Bay) (s : State) : ((setTarget b n s).bay b).pos = { (s.bay b).pos with target := n } := by
  unfold setTarget
  dsimp only
  split <;> simp [clearQualified]

theorem setTarget_sched (n : Nat) (b c : Bay) (s : State) : ((setTarget b n s).bay c).sched = (s.bay c).sched := by
  unfold setTarget
  dsimp only
  split <;> simp [clearQualified]

section
variable (hi : (s.bay b).sched.inflight = some op)
include hi

theorem emptiedQueue_is (p : OpKind → Bool) : inflightIs b p (emptiedQueue b s) = p op.kind :=
  inflightIs_of (by rw [emptiedQueue_inflight, hi])

theorem stopsBay_load (hk : op.kind = .loadHeads) : stopsBay b s = stopLoad b (emptiedQueue b s) := by
  rw [stopsBay, cancelSpinUp_of_not (by rw [emptiedQueue_is hi, hk]; rfl), abortPositioner, emptiedQueue_is hi, hk]
  rfl

theorem stopsBay_seek (hk : op.kind.isSeek = true) : stopsBay b s = abortSeek b (emptiedQueue b s) := by
  have hu : op.kind.isSpinUp = false ∧ op.kind.isLoad = false := by
    cases h : op.kind with
    | seek => exact ⟨rfl, rfl⟩
    | _ => simp [h, OpKind.isSeek] at hk
  rw [stopsBay, cancelSpinUp_of_not (by rw [emptiedQueue_is hi, hu.1]), abortPositioner, emptiedQueue_is hi, hu.2, emptiedQueue_is hi, hk]
  rfl

/-- A SPIN UP that does not wait for power stays in flight until the platter stops (R43). -/
theorem stopsBay_spinUp (hk : op.kind = .spinUp) (hw : (s.bay b).spin.state ≠ .waitPower) :
    stopsBay b s = cancelOnSpindle b (emptiedQueue b s) ∧ ((stopsBay b s).bay b).sched.inflight = some op := by
  have hkept : ((cancelOnSpindle b (emptiedQueue b s)).bay b).sched = ((emptiedQueue b s).bay b).sched := by
    refine (unended_cancelOnSpindle (b := b) (emptiedQueue b s)).same fun o ho => ?_
    rw [emptiedQueue_inflight, hi] at ho
    cases ho
    rw [hk]
    rfl
  have hin : ((cancelOnSpindle b (emptiedQueue b s)).bay b).sched.inflight = some op := by rw [hkept, emptiedQueue_inflight, hi]
  have heq : stopsBay b s = cancelOnSpindle b (emptiedQueue b s) := by
    rw [stopsBay, cancelSpinUp, emptiedQueue_is hi, hk, if_pos (show OpKind.spinUp.isSpinUp = true from rfl),
      if_neg (by rw [emptiedQueue_bay]; exact hw), abortPositioner,
      inflightIs_of hin, inflightIs_of hin, hk]
    rfl
  exact ⟨heq, by rw [heq, hin]⟩

/-- R94, R109: a LOAD HEADS in its load wait ends at once. -/
theorem stopsBay_loadWait (hk : op.kind = .loadHeads) (hp : (s.bay b).pos.state = .parked) (hn : (s.bay b).pos.pending = .load) :
    ((stopsBay b s).bay b).pos = { (s.bay b).pos with pending := .none, loadWait := none } ∧
      (stopsBay b s).ledger.hold (.actuator b) = 0 ∧ (stopsBay b s).ledger.waits (.actuator b) = false ∧
      ((stopsBay b s).bay b).sched.inflight = none ∧
      (stopsBay b s).completions =
        recordedAll s.completions (cancelRecords b (s.bay b) ++ [⟨op.tag, b, .loadHeads, .cancelled, none⟩]) := by
  have hw : loadWaiting b (emptiedQueue b s) = true := loadWaiting_iff.mpr (by rw [emptiedQueue_bay]; exact ⟨hp, hn⟩)
  have hin : ((endLoadWait b (emptiedQueue b s)).bay b).sched.inflight = some op := by
    rw [endLoadWait_sched, emptiedQueue_inflight, hi]
  obtain ⟨hpos, -, -, hwaits, hhold⟩ := endLoadWait_heads hw
  rw [stopsBay_load hi hk, stopLoad, if_pos hw, completeIf_of_kind hin (by rw [hk]; rfl)]
  refine ⟨by rw [completeOp_pos, hpos, emptiedQueue_bay], by rw [completeOp_ledger, hhold], by rw [completeOp_ledger, hwaits],
    by rw [completeOp_sched, Sched.ended_inflight], ?_⟩
  rw [completeOp_completions hin, endLoadWait_completions, emptiedQueue_completions, hk, recordedAll_append]
  rfl

/-- R109: a LOAD HEADS in LOADING or ACQUIRING is unloaded. -/
theorem stopsBay_unloads (hk : op.kind = .loadHeads) (hp : (s.bay b).pos.state = .loading ∨ (s.bay b).pos.state = .acquiring)
    (hpark : (s.bay b).pins.park = false) :
    ((stopsBay b s).bay b).pos = (s.bay b).pos.unloading ∧ ((stopsBay b s).bay b).sched.inflight = some op := by
  have hpos : ((emptiedQueue b s).bay b).pos = (s.bay b).pos := by rw [emptiedQueue_bay]
  have hl : (s.bay b).pos.state.loaded = true := by rcases hp with e | e <;> rw [e] <;> rfl
  have hn : loadWaiting b (emptiedQueue b s) = false :=
    loadWaiting_of_pos (by rw [hpos]; rcases hp with e | e <;> simp [e])
  have hstop : stopLoad b (emptiedQueue b s) = unloadBegun b (emptiedQueue b s) := by
    rw [stopLoad, hn, hpos, ← enterUnloading_unparked (by rw [emptiedQueue_bay]; exact hpark), ← unloadOrder_loaded (by rw [hpos]; exact hl)]
    rcases hp with e | e <;> simp [e]
  rw [stopsBay_load hi hk, hstop, (unloadBegun_heads b _).1, hpos, unloadBegun_sched, emptiedQueue_inflight, hi]
  exact ⟨rfl, rfl⟩

/-- R109: a SEEK whose request waits ends at once. -/
theorem stopsBay_pendingSeek (hk : op.kind.isSeek = true) {track head : Nat} (hp : (s.bay b).pos.pending = .seek track head) :
    ((stopsBay b s).bay b).pos = { (s.bay b).pos with pending := .none } ∧ (stopsBay b s).ledger.waits (.actuator b) = false ∧
      (stopsBay b s).ledger.hold (.actuator b) = s.ledger.hold (.actuator b) ∧ ((stopsBay b s).bay b).sched.inflight = none ∧
      (stopsBay b s).completions =
        recordedAll s.completions (cancelRecords b (s.bay b) ++ [⟨op.tag, b, op.kind, .cancelled, none⟩]) := by
  have hpos : ((emptiedQueue b s).bay b).pos = (s.bay b).pos := by rw [emptiedQueue_bay]
  obtain ⟨hleft, hhold, hwaits⟩ := withdrawActuator b ((emptiedQueue b s).modPos b fun p => { p with pending := .none })
  have hin : ((dropPending b (emptiedQueue b s)).bay b).sched.inflight = some op := by
    rw [dropPending, withdrawRequest_sched, State.modPos_sched, emptiedQueue_inflight, hi]
  have hcomp : (dropPending b (emptiedQueue b s)).completions = (emptiedQueue b s).completions := by
    simp [dropPending, withdrawRequest]
  rw [stopsBay_seek hi hk, abortSeek, hpos, hp, if_pos (show (Pending.seek track head).isSeek = true from rfl), completeIf_of_kind hin hk]
  refine ⟨?_, by rw [completeOp_ledger]; exact hwaits, ?_, by rw [completeOp_sched, Sched.ended_inflight], ?_⟩
  · rw [completeOp_pos, dropPending, hleft.pos, State.modPos_pos, hpos]
  · rw [completeOp_ledger, dropPending, hhold, State.modPos_ledger, emptiedQueue_ledger]
  · rw [completeOp_completions hin, hcomp, emptiedQueue_completions, recordedAll_append]
    cases h : op.kind with
    | seek => rfl
    | _ => simp [h, OpKind.isSeek] at hk

/-- R77, R109: a SEEK that seeks or settles goes on to the nearest track. -/
theorem stopsBay_settles (hk : op.kind.isSeek = true) (hn : (s.bay b).pos.pending = .none)
    (hp : (s.bay b).pos.state = .seeking ∨ (s.bay b).pos.state = .settling) :
    ((stopsBay b s).bay b).pos =
        { (s.bay b).pos with
          state := .settling, seekTimer := none, owner := .aborted, target := nearestTrack b s
          settle := if (s.bay b).pos.state = .settling ∧ nearestTrack b s = (s.bay b).pos.target then (s.bay b).pos.settle else 0 } ∧
      (stopsBay b s).ledger = s.ledger ∧ ((stopsBay b s).bay b).sched.inflight = some op := by
  have hpos : ((emptiedQueue b s).bay b).pos = (s.bay b).pos := by rw [emptiedQueue_bay]
  have htrack : nearestTrack b (emptiedQueue b s) = nearestTrack b s := by simp only [nearestTrack, lastTrack, emptiedQueue_bay]
  have hstop : abortSeek b (emptiedQueue b s) = settleAborted b (emptiedQueue b s) := by
    rw [abortSeek, hpos, hn, if_neg (by simp [Pending.isSeek])]
    rcases hp with e | e <;> simp [e]
  rw [stopsBay_seek hi hk, hstop, settleAborted]
  refine ⟨?_, by simp [emptiedQueue_ledger], by simp [setTarget_sched, emptiedQueue_inflight, hi]⟩
  simp only [State.modPos_pos, htrack, setTarget_pos, hpos]
  rcases hp with e | e <;> simp [e]

/-- R38, R43: a SPIN UP in BRAKING loses its start mark. -/
theorem stopsBay_unmarked (hk : op.kind = .spinUp) (hs : (s.bay b).spin.state = .braking) :
    ((stopsBay b s).bay b).spin =
        { (s.bay b).spin with
          purpose := if (s.bay b).spin.purpose = some .overcurrent then some .overcurrent else some .stop, startMark := false } ∧
      (stopsBay b s).ledger = s.ledger ∧ ((stopsBay b s).bay b).sched.inflight = some op := by
  obtain ⟨heq, hin⟩ := stopsBay_spinUp hi hk (by simp [hs])
  have hspin : ((emptiedQueue b s).bay b).spin = (s.bay b).spin := by rw [emptiedQueue_bay]
  have hmerge : cancelOnSpindle b (emptiedQueue b s) = mergeStop b (emptiedQueue b s) := by
    unfold cancelOnSpindle
    rw [hspin, hs]
  refine ⟨?_, by rw [heq, hmerge, mergeStop, State.modSpin_ledger, emptiedQueue_ledger], hin⟩
  rw [heq, hmerge, mergeStop, State.modSpin_spin, hspin]
  split <;> simp [*]

/-- R37, R43: a driven SPIN UP brakes. -/
theorem stopsBay_brakes (hk : op.kind = .spinUp)
    (hs : (s.bay b).spin.state = .aligning ∨ (s.bay b).spin.state = .ramping ∨ (s.bay b).spin.state = .locking) :
    ((s.bay b).spin.braking .stop).SameButSpeedLost ((stopsBay b s).bay b).spin ∧ ((stopsBay b s).bay b).sched.inflight = some op ∧
      ((s.bay b).pos.pending ≠ .load → (s.bay b).cart.phase ≠ some .pulse → s.ledger.wait = [] →
        (stopsBay b s).ledger = s.ledger.setHold (.spindle b) 0) := by
  obtain ⟨heq, hin⟩ := stopsBay_spinUp hi hk (by rcases hs with e | e | e <;> simp [e])
  have hspin : ((emptiedQueue b s).bay b).spin = (s.bay b).spin := by rw [emptiedQueue_bay]
  have hbrake : cancelOnSpindle b (emptiedQueue b s) = enterBraking b .stop (emptiedQueue b s) := by
    unfold cancelOnSpindle
    rw [hspin]
    rcases hs with e | e | e <;> rw [e]
  have hsame := enterBraking_spin (b := b) (s := emptiedQueue b s) .stop
  rw [hspin] at hsame
  refine ⟨by rw [heq, hbrake]; exact hsame, hin, fun hn hp hw => ?_⟩
  rw [heq, hbrake, enterBraking_eq (by rw [emptiedQueue_ledger]; exact hw)
    (loadWaiting_of_pending (by rw [emptiedQueue_bay]; exact hn)) (fun _ => by rw [emptiedQueue_bay]; exact hp),
    State.setLedger_ledger, emptiedQueue_ledger]

end

/-- A grant to the actuator begins no load wait. -/
theorem actuatorGranted_pending (n : Nat) (h : (s.bay b).pos.pending ≠ .load) : ((actuatorGranted b n s).bay b).pos.pending ≠ .load := by
  have hc : ((clampAct b n s).bay b).pos.pending = (s.bay b).pos.pending := by simp [clampAct]
  unfold actuatorGranted
  dsimp only
  split
  · split
    · simp [enterSeeking]
    · simp [enterSeeking]
    · rwa [hc]
  · rw [tryLoading, loadWaiting_of_pending (by rwa [hc])]
    simpa [hc] using h

theorem tellGrant_pending (g : Grant) (h : (s.bay b).pos.pending ≠ .load) : ((tellGrant s g).bay b).pos.pending ≠ .load := by
  rcases g with ⟨d | d | d, n⟩
  all_goals
    simp only [tellGrant]
    rcases Bay.cases_eq d b with rfl | rfl
  · unfold enterAligning
    split
    · simpa using h
    · exact h
  · rwa [enterAligning_bay_other]
  · exact actuatorGranted_pending n h
  · rwa [actuatorGranted_bay_other]
  · rcases startPulse_cases b n s with e | ⟨-, -, -, -, -, e, -⟩
    · rwa [e]
    · rwa [e]
  · rwa [startPulse_bay_other]

theorem tellGrants_pending (gs : List Grant) (h : (s.bay b).pos.pending ≠ .load) : ((tellGrants gs s).bay b).pos.pending ≠ .load := by
  unfold tellGrants
  induction gs generalizing s with
  | nil => exact h
  | cons g gs ih => exact ih (tellGrant_pending g h)

/-- R43, R55: a SPIN UP that waits for power ends at once and leaves the list. -/
theorem stopsBay_waitPower (hi : (s.bay b).sched.inflight = some op) (hk : op.kind = .spinUp) (hs : (s.bay b).spin.state = .waitPower)
    (hc : (s.bay b).cart.state = .seated) (hn : (s.bay b).pos.pending ≠ .load) :
    ((stopsBay b s).bay b).spin.state = .stopped ∧ ((stopsBay b s).bay b).spin.drive = 0 ∧ ((stopsBay b s).bay b).spin.sbrk = false ∧
      ((stopsBay b s).bay b).spin.startMark = false ∧ (stopsBay b s).ledger.waits (.spindle b) = false ∧
      ((stopsBay b s).bay b).sched.inflight = none ∧
      (stopsBay b s).completions =
        recordedAll s.completions (cancelRecords b (s.bay b) ++ [⟨op.tag, b, .spinUp, .cancelled, some (s.bay b).spin.attempt⟩]) := by
  have hin : ((emptiedQueue b s).bay b).sched.inflight = some op := by rw [emptiedQueue_inflight, hi]
  have hcomp := completeOp_completions hin .cancelled
  have hcart : ((completeOp b .cancelled (emptiedQueue b s)).bay b).cart.state = .seated := by
    rw [completeOp_cart_state, emptiedQueue_bay, hc]
  have hpend : ((completeOp b .cancelled (emptiedQueue b s)).bay b).pos.pending ≠ .load := by
    rw [completeOp_pos, emptiedQueue_bay]; exact hn
  have hsched : ((completeOp b .cancelled (emptiedQueue b s)).bay b).sched.inflight = none := by
    rw [completeOp_sched, Sched.ended_inflight]
  have hspin : ((completeOp b .cancelled (emptiedQueue b s)).bay b).spin = (s.bay b).spin := by
    rw [completeOp_spin, emptiedQueue_bay]
  have hstop : stopsBay b s = abortPositioner b (abandonPower b (completeOp b .cancelled (emptiedQueue b s))) := by
    rw [stopsBay, cancelSpinUp, emptiedQueue_is hi, hk, if_pos (show OpKind.spinUp.isSpinUp = true from rfl),
      if_pos (by rw [emptiedQueue_bay]; exact hs), cancelOnSpindle, hspin, hs]
  generalize completeOp b .cancelled (emptiedQueue b s) = w at hcomp hcart hpend hsched hspin hstop
  have hne : ∀ x : State, (x.bay b).cart.state = .seated → (x.bay b).cart.state ≠ .releasePending := fun x h => by simp [h]
  have hcart' : ((withdrawRequest (.spindle b) w).bay b).cart.state = .seated := by
    simp only [withdrawRequest]
    rw [tellGrants_cart _ (by simp [hcart]), State.setLedger_bay, hcart]
  have hpend' : ((withdrawRequest (.spindle b) w).bay b).pos.pending ≠ .load :=
    tellGrants_pending _ (by rw [State.setLedger_bay]; exact hpend)
  have halone : SpindleAlone b (withdrawRequest (.spindle b) w) :=
    ⟨loadWaiting_of_pending hpend', pulseOff_of_state (by simp [hcart']), fun h => absurd h (hne _ hcart')⟩
  have hend : abandonPower b w = (withdrawRequest (.spindle b) w).modSpin b Spindle.stopped := by
    rw [abandonPower, halone.enterStopped_eq, judgeLatch_of_not (by simp [hcart'])]
  have hidle : ((abandonPower b w).bay b).sched.inflight = none := by
    rw [hend, State.modSpin_sched, withdrawRequest_sched, hsched]
  have hsame : stopsBay b s = abandonPower b w := by
    rw [hstop, abortPositioner, inflightIs_none hidle, inflightIs_none hidle]
    rfl
  rw [hsame]
  refine ⟨by simp [hend, Spindle.stopped], by simp [hend, Spindle.stopped], by simp [hend, Spindle.stopped],
    by simp [hend, Spindle.stopped], ?_, hidle, ?_⟩
  · rw [hend, State.modSpin_ledger, withdrawRequest, tellGrants_ledger, State.setLedger_ledger]
    exact (Ledger.withdraw_own _ _).2.2
  · rw [hend, State.modSpin_completions, withdrawRequest, tellGrants_completions, State.setLedger_completions, hcomp, hk,
      emptiedQueue_completions, emptiedQueue_bay, recordedAll_append]
    rfl

/-- The clamped nearest track (R77). -/
theorem nearestTrack_eq (b : Bay) (s : State) :
    nearestTrack b s = (clampInt 0 ((((s.bay b).cart.media.bind Media.lastTrack).getD 611 : Nat) : Int)
      (nearest (s.bay b).servo.P 64)).toNat := rfl

/-- Settles O33: the queue is cancelled and the operation in flight stopped, each by its state. -/
theorem abortBayCancelsAndStops : Obligations.AbortBayCancelsAndStops := by
  refine ⟨fun b s hl hset h => abortBay_queue hl hset h, fun b s op hl hset hi => ?_, fun b s op hl hset hc hi => ?_⟩
  · refine abortBay_ends hl hset fun t hpos hspin hsched hledger _ hheld => ?_
    refine ⟨fun hp hn hk => ?_, fun hs hk hn hph => ?_⟩
    · obtain ⟨h1, h2, h3⟩ := stopsBay_settles hi hk hn (.inl hp)
      refine ⟨?_, by rw [hledger, h2], by rw [hsched, h3], by rw [hsched, stopsBay_queue]⟩
      rw [hpos, h1, if_neg (by simp [hp]), nearestTrack_eq]
    · obtain ⟨h1, h2, h3⟩ := stopsBay_brakes hi hk hs
      rw [← hspin] at h1
      exact ⟨congrArg Spindle.state h1, congrArg Spindle.purpose h1, congrArg Spindle.drive h1, congrArg Spindle.sbrk h1,
        congrArg Spindle.stageTimer h1, by rw [hsched, h2], by rw [hsched, stopsBay_queue],
        fun hw => by rw [hledger, h3 hn hph hw]⟩
  · refine abortBay_ends hl hset fun t hpos hspin hsched hledger hcomp hheld => ?_
    refine ⟨by rw [hsched, stopsBay_queue], hheld, fun hk hp hn => ?_, fun hk hp hpark => ?_, fun track head hp hk _ => ?_,
      fun hk hp hn => ?_, fun hk hs hn => ?_, fun hk hs => ?_⟩
    · obtain ⟨h1, h2, h3, h4, h5⟩ := stopsBay_loadWait hi hk hp hn
      exact ⟨hpos.trans h1, by rw [State.hold, hledger, h2], by rw [hledger, h3], by rw [hsched, h4], hcomp.trans h5⟩
    · obtain ⟨h1, h2⟩ := stopsBay_unloads hi hk hp hpark
      exact ⟨hpos.trans h1, by rw [hsched, h2], hcomp.trans (stopsBay_completions h2)⟩
    · obtain ⟨h1, h2, h3, h4, h5⟩ := stopsBay_pendingSeek hi hk hp
      exact ⟨hpos.trans h1, by rw [hledger, h2], by rw [State.hold, hledger, h3]; rfl, by rw [hsched, h4], hcomp.trans h5⟩
    · obtain ⟨h1, h2, h3⟩ := stopsBay_settles hi hk hn (.inr hp)
      have ht : (t.bay b).pos.target = nearestTrack b s := by rw [hpos, h1]
      refine ⟨?_, ht, by rw [hledger, h2], by rw [hsched, h3], hcomp.trans (stopsBay_completions h3)⟩
      rw [ht, hpos, h1]
      simp [hp]
    · obtain ⟨h1, h2, h3, h4, h5, h6, h7⟩ := stopsBay_waitPower hi hk hs hc hn
      exact ⟨hspin ▸ h1, hspin ▸ h2, hspin ▸ h3, hspin ▸ h4, by rw [hledger, h5], by rw [hsched, h6], hcomp.trans h7⟩
    · obtain ⟨h1, h2, h3⟩ := stopsBay_unmarked hi hk hs
      exact ⟨hspin.trans h1, by rw [hledger, h2], by rw [hsched, h3], hcomp.trans (stopsBay_completions h3)⟩

end Sys2Proof.Machine
end

section
namespace Sys2Proof.Machine

variable {b : Bay} {m : Bool} {s t u v : State} {c : Consumer} {k : OpKind} {op : Op}

/-! ### The stage timer, the brake limit and the speed-lost timer (R32 to R34, R36, R39, R40) -/

/-- A spindle at its entry to RAMPING (R33). -/
def Spindle.ramping (x : Spindle) : Spindle :=
  { x with state := .ramping, drive := 180, phases := .commutated, stageTimer := some 12000000, speedLost := none }

/-- What a seated bay that asks for no load shares with the spindle's changes: nothing. -/
theorem spindleAlone_of_seated (hn : (s.bay b).pos.pending ≠ .load) (hc : (s.bay b).cart.state = .seated) : SpindleAlone b s :=
  ⟨loadWaiting_of_pending hn, pulseOff_of_state (by simp [hc]), fun h => by simp [hc] at h⟩

theorem SpindleAlone.enterRamping_eq (h : SpindleAlone b s) : enterRamping b s = s.modSpin b Spindle.ramping :=
  (h.changed (by simp [Spindle.driven])).trans ((h.modSpin _).judgeLatch_away (not_atRest_of_spin (by simp [Spindle.driven])))

/-- An event that changes a spindle, LOCKED neither before nor behind it, and the ledger leaves nothing to judge. -/
theorem Settled.settle_unlocked (h : Settled s) (ho : t.bay b.other = s.bay b.other) (hx : t.supply = s.supply)
    (hsched : (t.bay b).sched = (s.bay b).sched) (hg : (t.bay b).gate = (s.bay b).gate) (hs : (s.bay b).spin.state ≠ .locked)
    (ht : (t.bay b).spin.state ≠ .locked) : settle t = t :=
  settle_exact t (h.2.2.1.unlocked ho hx hg hs ht) (h.2.2.2.ofBay ho hsched)

/-- R33: ALIGNING ends. -/
theorem stageTimer_ramps (hset : Settled s) (ht : (s.bay b).spin.stageTimer.isSome = true) (ha : SpindleAlone b s)
    (hs : (s.bay b).spin.state = .aligning) : exec (.stageTimerExpiry b) s = .next (s.modSpin b Spindle.ramping) := by
  change execStageTimerExpiry b s = _
  rw [execStageTimerExpiry, if_pos ht, stageOver, hs]
  simp only [ha.enterRamping_eq]
  rw [hset.settle_unlocked (b := b) (by simp) (by simp) (by simp) (by simp) (by simp [hs]) (by simp [Spindle.ramping])]

/-- R34, R36: RAMPING and LOCKING fail into the brake. -/
theorem stageTimer_fails (hset : Settled s) (ht : (s.bay b).spin.stageTimer.isSome = true) (hw : s.ledger.wait = []) (ha : SpindleAlone b s)
    (hs : (s.bay b).spin.state = .ramping ∨ (s.bay b).spin.state = .locking) :
    exec (.stageTimerExpiry b) s =
      .next ((s.modSpin b (Spindle.braking (if (s.bay b).spin.attempt < 3 then .retry else .spinFail))).setLedger
        (s.ledger.setHold (.spindle b) 0)) := by
  change execStageTimerExpiry b s = _
  have hover : stageOver b s = failAttempt b s := by
    unfold stageOver
    rcases hs with e | e <;> rw [e]
  rw [execStageTimerExpiry, if_pos ht, hover, failAttempt, enterBraking_eq hw ha.load ha.pulse,
    hset.settle_unlocked (b := b) (by simp) (by simp) (by simp) (by simp) (by rcases hs with e | e <;> simp [e]) (by simp [Spindle.braking])]

theorem spinFaultRaised_part (b : Bay) (x : Cause) (s : State) :
    spinFaultRaised b x s = { s with
      bayA := (spinFaultRaised b x s).bayA, bayB := (spinFaultRaised b x s).bayB, completions := (spinFaultRaised b x s).completions
      link := (spinFaultRaised b x s).link, partCnt := (spinFaultRaised b x s).partCnt } := by
  have hconf : Confined b s (spinFaultRaised b x s) :=
    ((((Confined.refl b s).modSpin Spindle.faulted).modGate fun g => { g with window := false }).completeOp (.failed x)).changeSched _
  have hledger : (spinFaultRaised b x s).ledger = s.ledger := (spinFaultRaised_spec b x s).2.2.2.1
  have htag : (spinFaultRaised b x s).nextTag = s.nextTag := by
    rw [spinFaultRaised, ((Acts.refl true _).close.fault x).kept.nextTag, State.modSpin_nextTag]
  have hpart := hconf.part
  rw [hledger, htag] at hpart
  exact hpart

/-- R40: a platter that does not stop in time. -/
theorem brakeLimit_faults (hset : Settled s) (ht : (s.bay b).spin.brakeLimit.isSome = true) (ha : SpindleAlone b s)
    (hs : (s.bay b).spin.state = .braking) :
    exec (.brakeLimitExpiry b) s = .next (judgeGate b (spinFaultRaised b .brakeTimeout s)) := by
  change execBrakeLimitExpiry b s = _
  obtain ⟨-, hother, -, -, hsched, -⟩ := spinFaultRaised_spec b .brakeTimeout s
  rw [execBrakeLimitExpiry, if_pos (by simp [ht, hs]), ha.raised, hset.settle_own hother (by rw [spinFaultRaised_part])
    (by rw [hsched]; simp [mayTake, Sched.faulted])]

/-- What a fatal outcome alone makes of a bay (R153). -/
structure Raised (b : Bay) (x : Cause) (s w : State) : Prop where
  confined : Confined b s w
  spin : (w.bay b).spin = (s.bay b).spin
  window : (w.bay b).gate.window = false
  ledger : w.ledger = s.ledger
  sched : (w.bay b).sched = (s.bay b).sched.faulted x
  completions : w.completions = recordedAll s.completions (faultRecords b (s.bay b) x)

theorem raised_raiseOutcome (b : Bay) (x : Cause) (s : State) : Raised b x s (raiseOutcome b x s) where
  confined := (((Confined.refl b s).modGate fun g => { g with window := false }).completeOp (.failed x)).changeSched _
  spin := by simp [raiseOutcome]
  window := by rw [raiseOutcome, faultHalt_gate, closeWindow_window]
  ledger := by simp [raiseOutcome]
  sched := by rw [raiseOutcome, faultHalt_sched, closeWindow_sched]
  completions := raiseOutcome_completions x b s

/-- A spindle under regulation that a fatal outcome finds LOCKED or UNLOCKED goes on. -/
theorem raiseFatal_regulated (h : (s.bay b).spin.state.regulated = true) (x : Cause) : raiseFatal b x s = raiseOutcome b x s := by
  unfold raiseFatal
  dsimp only
  split
  · unfold cancelOnSpindle
    rw [(raised_raiseOutcome b x s).spin]
    cases hs : (s.bay b).spin.state <;> simp [hs, SpinState.regulated] at h ⊢
  · rfl

theorem headsOff_supply (b : Bay) (s : State) : (headsOff b s).supply = s.supply := by cases b <;> rfl

theorem headsOff_window (b : Bay) (s : State) : ((headsOff b s).bay b).gate.window = (s.bay b).gate.window := by cases b <;> rfl

/-- R39: the heads are unloaded under SPEED_LOST. -/
theorem speedLostTimer_unloads (hset : Settled s) (ht : (s.bay b).spin.speedLost.isSome = true) (hs : (s.bay b).spin.state = .unlocked)
    (hl : (s.bay b).pos.state.loaded = true) (hk : (s.bay b).pins.park = false) (hw : s.ledger.wait = [])
    (hc : (s.bay b).cart.state = .seated) :
    After (exec (.speedLostTimerExpiry b) s) fun t =>
      (t.bay b).spin = { (s.bay b).spin with speedLost := none } ∧ (t.bay b).pos = (s.bay b).pos.unloading ∧
      t.ledger = (if 60 < s.hold (.actuator b) then s.ledger.setHold (.actuator b) 60 else s.ledger) ∧
      (t.bay b).sched = (s.bay b).sched.faulted .speedLost ∧ (t.bay b).gate.window = false ∧
      t.completions = recordedAll s.completions (faultRecords b (s.bay b) .speedLost) ∧ t.bay b.other = s.bay b.other := by
  change After (execSpeedLostTimerExpiry b s) _
  have hraise := raised_raiseOutcome b .speedLost (s.modSpin b fun x => { x with speedLost := none })
  rw [execSpeedLostTimerExpiry, if_pos ht, faultAndUnload, raiseFatal_regulated (by simp [hs, SpinState.regulated])]
  generalize raiseOutcome b .speedLost (s.modSpin b fun x => { x with speedLost := none }) = w at hraise
  obtain ⟨hconf, hspin, hwindow, hledger, hsched, hcomp⟩ := hraise
  have hconf' : Confined b s w := ((Confined.refl b s).modSpin _).trans hconf
  have hpos : (w.bay b).pos = (s.bay b).pos := by rw [hconf'.own]
  have hsupply : w.supply = s.supply := by rw [hconf'.part]
  rw [State.modSpin_ledger] at hledger
  have hunload : unloadOrder b w = headsOff b ((w.modPos b Positioner.unloading).setLedger
      (if 60 < s.hold (.actuator b) then s.ledger.setHold (.actuator b) 60 else s.ledger)) := by
    rw [unloadOrder_loaded (by rw [hpos]; exact hl), enterUnloading_eq (by rw [hledger]; exact hw) (by rw [hconf'.own]; exact hk)
      (pulseOff_of_state (by rw [hconf'.cart.eqs.1, hc]; simp)), hledger]
    rfl
  rw [hunload, hset.settle_own (b := b) (by simp [hconf'.other]) (by simp [headsOff_supply, hsupply]) (by simp [hsched, mayTake, Sched.faulted])]
  refine ⟨_, rfl, by simp [hspin], by simp [hpos], by simp, by simp [hsched], ?_, ?_, by simp [hconf'.other]⟩
  · exact judgeGate_window _ _ _ (by simp [headsOff_window, hwindow])
  · simp [hcomp, faultRecords]

/-- Settles O51: each timer by the state it expires in. -/
theorem spindleTimersAct : Obligations.SpindleTimersAct := by
  refine ⟨fun b s hset ht hw hn hc => ?_, fun b s hset ht hs hn hc hlatch => ?_, fun b s hset ht hs hl hk hw _ hc => ?_⟩
  · have ha := spindleAlone_of_seated hn hc
    refine ⟨fun hs => stageTimer_ramps hset ht ha hs, fun hs => ?_⟩
    rw [stageTimer_fails hset ht hw ha hs]
    exact ⟨_, rfl, congrArg (fun u : State => u.setLedger (s.ledger.setHold (.spindle b) 0))
      (State.modSpin_congr (by simp only [Spindle.braking, apply_ite some]))⟩
  · have ha : SpindleAlone b s := ⟨loadWaiting_of_pending hn, pulseOff_of_state hc, fun _ => hlatch⟩
    obtain ⟨hpos, hother, hspin, hledger, hsched, hcomp⟩ := spinFaultRaised_spec b .brakeTimeout s
    rw [brakeLimit_faults hset ht ha hs]
    refine ⟨_, rfl, ?_, by rw [judgeGate_spin, hspin]; rfl, by rw [judgeGate_sched, hsched],
      judgeGate_window _ _ _ (by rw [spinFaultRaised, faultHalt_gate, closeWindow_window]), by rw [judgeGate_completions, hcomp],
      by rw [judgeGate_pos, hpos], by rw [judgeGate_bay_other, hother], by rw [judgeGate_cart]; exact faultHalt_lamp _ _ _⟩
    have hpart := spinFaultRaised_part b .brakeTimeout s
    rw [judgeGate_eq]
    generalize spinFaultRaised b .brakeTimeout s = w at hpart
    rw [hpart]
    cases b <;> rfl
  · obtain ⟨t, ht, hspin, hpos, hrest⟩ := speedLostTimer_unloads hset ht hs hl hk hw hc
    exact ⟨t, ht, hspin, by rw [hpos]; rfl, by rw [hpos]; rfl, by rw [hpos]; rfl, hrest⟩

end Sys2Proof.Machine
end

section
namespace Sys2Proof.Machine

variable {b : Bay} {m : Bool} {s t u v w : State} {c : Consumer} {k : OpKind} {op : Op} {p : Nat}

/-! ### A change of a turning spindle, exactly (R39) -/

/-- The speed-lost timer runs under UNLOCKED with the heads loaded, and only there (R39). -/
def Spindle.timed (loaded : Bool) (x : Spindle) : Spindle :=
  { x with speedLost := if x.state = .unlocked ∧ loaded = true then (if x.speedLost.isSome then x.speedLost else some 1000000) else none }

theorem speedLostUpdate_timed (b : Bay) (s : State) :
    ((speedLostUpdate b s).bay b).spin = (s.bay b).spin.timed (s.bay b).pos.state.loaded := by
  simp [speedLostUpdate, Spindle.timed]

theorem lowerHolding_spin_eq (c : Consumer) (n : Nat) (hw : (s.bay b).spin.state ≠ .waitPower)
    (hl : (s.bay b).spin.state = .locked → (s.bay b).spin.speedLost = none) : ((lowerHolding c n s).bay b).spin = (s.bay b).spin := by
  rw [lowerHolding, tellGrants_spin_eq _ (by simpa using hw) (by simpa using hl), State.setLedger_bay]

theorem withdrawRequest_spin_eq (c : Consumer) (hw : (s.bay b).spin.state ≠ .waitPower)
    (hl : (s.bay b).spin.state = .locked → (s.bay b).spin.speedLost = none) : ((withdrawRequest c s).bay b).spin = (s.bay b).spin := by
  rw [withdrawRequest, tellGrants_spin_eq _ (by simpa using hw) (by simpa using hl), State.setLedger_bay]

/-- A change of a turning spindle that fails no load wait is the speed-lost timer, and completes nothing. -/
theorem spindleChanged_turning (ht : (s.bay b).spin.state.turning = true)
    (hl : (s.bay b).spin.state.regulated = true ∨ loadWaiting b s = false) :
    ((spindleChanged b s).bay b).spin = (s.bay b).spin.timed (s.bay b).pos.state.loaded ∧
      ∀ d, ((spindleChanged b s).bay d).sched = (s.bay d).sched := by
  have hw : (s.bay b).spin.state ≠ .waitPower := fun e => by simp [e, SpinState.turning] at ht
  have hr : (s.bay b).spin.state ≠ .stopped := fun e => by simp [e, SpinState.turning] at ht
  have quiet : (s.bay b).spin.state = .locked → ((s.bay b).spin.timed (s.bay b).pos.state.loaded).speedLost = none := fun h => by
    simp [Spindle.timed, h]
  have hload : ∀ v, v = (if ((speedLostUpdate b s).bay b).spin.state.regulated then tryLoading b (speedLostUpdate b s)
        else failLoadWait b .notReady (speedLostUpdate b s)) →
      (v.bay b).spin = (s.bay b).spin.timed (s.bay b).pos.state.loaded ∧ ∀ d, (v.bay d).sched = (s.bay d).sched := by
    rintro v rfl
    split
    · refine ⟨?_, fun d => by rw [tryLoading_sched, speedLostUpdate_sched]⟩
      unfold tryLoading
      split
      · next hc =>
        simp only [Bool.and_eq_true, decide_eq_true_eq, speedLostUpdate_spin_state] at hc
        obtain ⟨-, hlocked⟩ := hc
        rw [enterLoading_spin_eq (by simp [hlocked]) (by rw [speedLostUpdate_timed]; exact quiet hlocked), speedLostUpdate_timed]
      · exact speedLostUpdate_timed b s
    · next hn =>
      have hwait : loadWaiting b (speedLostUpdate b s) = false :=
        (loadWaiting_congr (by simp)).trans (hl.resolve_left (by simpa using hn))
      rw [failLoadWait_of_not hwait]
      exact ⟨speedLostUpdate_timed b s, fun d => speedLostUpdate_sched s b d⟩
  unfold spindleChanged
  dsimp only
  obtain ⟨h1, h2⟩ := hload _ rfl
  generalize (if ((speedLostUpdate b s).bay b).spin.state.regulated then tryLoading b (speedLostUpdate b s)
    else failLoadWait b .notReady (speedLostUpdate b s)) = v at h1 h2
  have hcut : ((cutPulse b v).bay b).spin = (v.bay b).spin := by
    unfold cutPulse
    split
    · rw [endPulse, lowerHolding_spin_eq _ _ (by rw [State.modCart_spin, h1]; exact hw) (by rw [State.modCart_spin, h1]; exact quiet),
        State.modCart_spin]
    · rfl
  have hjudge : ((judgeLatch b (cutPulse b v)).bay b).spin = (v.bay b).spin := by
    unfold judgeLatch
    rw [not_atRest_of_spin (by rw [hcut, h1]; exact hr)]
    split
    · exact (withdrawRequest_spin_eq _ (by rw [hcut, h1]; exact hw) (by rw [hcut, h1]; exact quiet)).trans hcut
    · exact hcut
  exact ⟨hjudge.trans h1, fun d => by
    rw [judgeLatch_sched_away (not_atRest_of_spin (by rw [hcut, h1]; exact hr)), cutPulse_sched, h2]⟩

/-! ### A TACH pulse: the revolution is measured (R26, R64) -/

/-- A spindle behind a TACH pulse, before its revolution is judged. -/
def Spindle.pulsed (period : Option Nat) (x : Spindle) : Spindle :=
  { x with lastPeriod := period, tachRef := true, tachTimer := some 500000 }

/-- The spindle of this bay behind a TACH pulse of period `p`. -/
def measuredPulse (b : Bay) (p : Nat) (s : State) : State :=
  if (s.bay b).spin.tachRef then judgeRevolution b p (s.modSpin b (Spindle.pulsed (some p))) else s.modSpin b (Spindle.pulsed none)

theorem exec_tachPulse (h1 : 1 ≤ p) (h2 : p ≤ 500000) :
    exec (.tachPulse b p) s = .next (settle (beginWindows b (measuredPulse b p s))) := by
  change execTachPulse b p s = _
  by_cases hr : (s.bay b).spin.tachRef = true
  · have hm : measured (s.bay b).spin.tachRef p = some p := by simp [measured, hr, h1, h2]
    simp only [execTachPulse, pulse, hm, measuredPulse, if_pos hr]
    rfl
  · have hm : measured (s.bay b).spin.tachRef p = none := by simp [measured, hr]
    simp only [execTachPulse, pulse, hm, measuredPulse, if_neg hr]
    rfl

/-- What a pulse measures, whatever the revolution does. -/
theorem tachPulse_measures (b : Bay) (p : Nat) (s : State) :
    let t := settle (beginWindows b (measuredPulse b p s))
    (t.bay b).spin.tachRef = true ∧ (t.bay b).spin.tachTimer = some 500000 ∧
      (t.bay b).spin.lastPeriod = (if (s.bay b).spin.tachRef then some p else none) ∧
      (t.bay b).demod = { window := some 0, interval := (if (s.bay b).spin.tachRef then p else 16667) / 48 } := by
  have hkept : ((s.modSpin b (Spindle.pulsed (if (s.bay b).spin.tachRef then some p else none))).bay b).TachKept
      ((measuredPulse b p s).bay b) := by
    have hk : Keeps true (s.modSpin b (Spindle.pulsed (if (s.bay b).spin.tachRef then some p else none))) (measuredPulse b p s) := by
      unfold measuredPulse
      split
      · exact (Keeps.refl _).judgeRevolution p
      · exact .refl _
    exact (hk.bay b).tach rfl
  have hsettled := (((Keeps.refl (m := true) (beginWindows b (measuredPulse b p s))).settle).bay b).tach rfl
  obtain ⟨href, hperiod, htimer, -⟩ := hkept
  obtain ⟨kref, kperiod, ktimer, kdemod⟩ := hsettled
  simp only [beginWindows, State.modDemod_spin, State.modSpin_spin, Spindle.pulsed] at href hperiod htimer kref kperiod ktimer
  refine ⟨kref.trans href, ktimer (htimer trivial), kperiod.trans hperiod, kdemod.trans ?_⟩
  simp only [beginWindows, State.modDemod_demod, hperiod]
  split <;> rfl

/-- Where nothing is completed, the event ends with the gates. -/
theorem settle_beginWindows (hset : Settled s) (h : ∀ d, (w.bay d).sched = (s.bay d).sched) :
    settle (beginWindows b w) = judgeGates (beginWindows b w) :=
  settle_of_takingsDone fun d => by rw [beginWindows, State.modDemod_sched, h]; exact hset.2.2.2 d

/-- A pulse that judges no revolution is the measurement. -/
theorem tachPulse_only (hset : Settled s) (hw : w = s.modSpin b (Spindle.pulsed (w.bay b).spin.lastPeriod)) :
    settle (beginWindows b w) = beginWindows b w := by
  refine hset.settle_eq (b := b) ?_ ?_ ?_ ?_
  · rw [hw]; simp [beginWindows]
  · rw [hw]; simp [beginWindows]
  · rw [hw]; simp [beginWindows]
  · have hp := hset.2.2.1 b
    rw [hw]
    simpa [beginWindows, permitDue, Spindle.pulsed] using hp

/-! ### The revolution is judged (R28, R33 to R35) -/

/-- The lock counts, LOCKED and UNLOCKED behind a revolution, but for the end of a spin-up (R28, R35). -/
def Spindle.counted (inside : Bool) (x : Spindle) : Spindle :=
  match x.state, inside with
  | .locking, true => { x with inside := x.inside + 1 }
  | .unlocked, true =>
    if 8 ≤ x.inside + 1 then { x with state := .locked, inside := 0, outside := 0 } else { x with inside := x.inside + 1 }
  | .locking, false | .unlocked, false => { x with inside := 0 }
  | .locked, true => { x with outside := 0 }
  | .locked, false =>
    if 2 ≤ x.outside + 1 then { x with state := .unlocked, inside := 0, outside := 0 } else { x with outside := x.outside + 1 }
  | _, _ => x

theorem countRevolution_eq {i : Bool} (hs : (s.bay b).spin.state = .locking ∨ (s.bay b).spin.state.regulated = true)
    (h : (s.bay b).spin.state = .locking → (s.bay b).spin.inside < 7) :
    countRevolution b i s = if ((s.bay b).spin.counted i).state = (s.bay b).spin.state then s.modSpin b (Spindle.counted i)
      else spindleChanged b (s.modSpin b (Spindle.counted i)) := by
  have stays : ∀ {f : Spindle → Spindle}, f (s.bay b).spin = (s.bay b).spin.counted i →
      ((s.bay b).spin.counted i).state = (s.bay b).spin.state →
      s.modSpin b f = if ((s.bay b).spin.counted i).state = (s.bay b).spin.state then s.modSpin b (Spindle.counted i)
        else spindleChanged b (s.modSpin b (Spindle.counted i)) := fun hf he => by
    rw [if_pos he]
    exact State.modSpin_congr hf
  have moves : ∀ {goal : SpinState}, { (s.bay b).spin with state := goal, inside := 0, outside := 0 } = (s.bay b).spin.counted i →
      goal ≠ (s.bay b).spin.state →
      moveLock b goal s = if ((s.bay b).spin.counted i).state = (s.bay b).spin.state then s.modSpin b (Spindle.counted i)
        else spindleChanged b (s.modSpin b (Spindle.counted i)) := fun hf hne => by
    rw [if_neg (by rw [← hf]; exact hne), moveLock]
    exact congrArg _ (State.modSpin_congr hf)
  cases hst : (s.bay b).spin.state with
  | locking =>
    have hno : ¬8 ≤ (s.bay b).spin.inside + 1 := by have := h hst; omega
    cases i with
    | true =>
      simp only [countRevolution, hst, if_neg hno]
      exact hst ▸ stays (by simp [Spindle.counted, hst]) (by simp [Spindle.counted, hst])
    | false =>
      simp only [countRevolution, hst]
      exact hst ▸ stays (by simp [Spindle.counted, hst]) (by simp [Spindle.counted, hst])
  | unlocked =>
    cases i with
    | true =>
      simp only [countRevolution, hst]
      split
      · next h8 => exact hst ▸ moves (by simp [Spindle.counted, hst, h8]) (by simp [hst])
      · next h8 => exact hst ▸ stays (by simp [Spindle.counted, hst, h8]) (by simp [Spindle.counted, hst, h8])
    | false =>
      simp only [countRevolution, hst]
      exact hst ▸ stays (by simp [Spindle.counted, hst]) (by simp [Spindle.counted, hst])
  | locked =>
    cases i with
    | true =>
      simp only [countRevolution, hst]
      exact hst ▸ stays (by simp [Spindle.counted, hst]) (by simp [Spindle.counted, hst])
    | false =>
      simp only [countRevolution, hst]
      split
      · next h2 => exact hst ▸ moves (by simp [Spindle.counted, hst, h2]) (by simp [hst])
      · next h2 => exact hst ▸ stays (by simp [Spindle.counted, hst, h2]) (by simp [Spindle.counted, hst, h2])
  | _ => simp [hst, SpinState.regulated] at hs

theorem Spindle.counted_regulated {i : Bool} {x : Spindle} (h : (x.counted i).state ≠ x.state) :
    (x.counted i).state.regulated = true := by
  unfold counted at h ⊢
  split at h
  case h_2 | h_6 =>
    split at h
    · next h' => simp [h', SpinState.regulated]
    · exact absurd rfl h
  all_goals exact absurd rfl h

/-- Whether a period is inside the lock window (R28). -/
theorem insideWindow_iff (trim : Int) (p : Nat) :
    insideWindow trim p = true ↔ ((p : Int) - (16667 + 4 * trim)).natAbs ≤ 83 := by
  rw [insideWindow, decide_eq_true_eq]
  rfl

/-- The spindle behind a revolution under regulation that ends no spin-up. -/
def Spindle.revolved (p held : Nat) (loaded : Bool) (x : Spindle) : Spindle :=
  let y := (x.pulsed (some p)).driven (driveCode x.trim p held)
  let z := y.counted (insideWindow x.trim p)
  if z.state = x.state then z else z.timed loaded

theorem judgeRevolution_eq (hs : (s.bay b).spin.state = .locking ∨ (s.bay b).spin.state.regulated = true) :
    judgeRevolution b p s = countRevolution b (insideWindow (s.bay b).spin.trim p)
      (s.modSpin b fun x => x.driven (driveCode x.trim p (s.hold (.spindle b)))) := by
  unfold judgeRevolution
  dsimp only
  split
  case h_1 hst => simp [hst, SpinState.regulated] at hs
  case h_5 h1 h2 h3 h4 => cases hst : (s.bay b).spin.state <;> simp_all [SpinState.regulated]
  all_goals rfl

theorem judgeRevolution_regulating (hs : (s.bay b).spin.state = .locking ∨ (s.bay b).spin.state.regulated = true)
    (h : (s.bay b).spin.state = .locking → (s.bay b).spin.inside < 7) :
    let w := judgeRevolution b p (s.modSpin b (Spindle.pulsed (some p)))
    (w.bay b).spin = (s.bay b).spin.revolved p (s.hold (.spindle b)) (s.bay b).pos.state.loaded ∧
      ∀ d, (w.bay d).sched = (s.bay d).sched := by
  have hjudge : judgeRevolution b p (s.modSpin b (Spindle.pulsed (some p))) =
      countRevolution b (insideWindow (s.bay b).spin.trim p) (s.modSpin b fun x =>
        (x.pulsed (some p)).driven (driveCode x.trim p (s.hold (.spindle b)))) := by
    rw [judgeRevolution_eq (by simpa [Spindle.pulsed] using hs), State.modSpin_modSpin]
    simp [Spindle.pulsed, State.hold]
  dsimp only
  rw [hjudge, countRevolution_eq (by simpa [Spindle.pulsed, Spindle.driven] using hs) (by simpa [Spindle.pulsed, Spindle.driven] using h)]
  simp only [State.modSpin_spin]
  unfold Spindle.revolved
  dsimp only
  have hstate : (((s.bay b).spin.pulsed (some p)).driven (driveCode (s.bay b).spin.trim p (s.hold (.spindle b)))).state = (s.bay b).spin.state := rfl
  rw [hstate]
  split
  · exact ⟨by simp, by simp⟩
  · next hne =>
    have hreg := Spindle.counted_regulated (i := insideWindow (s.bay b).spin.trim p)
      (x := ((s.bay b).spin.pulsed (some p)).driven (driveCode (s.bay b).spin.trim p (s.hold (.spindle b)))) hne
    obtain ⟨h1, h2⟩ := spindleChanged_turning (b := b) (s := (s.modSpin b fun x =>
        (x.pulsed (some p)).driven (driveCode x.trim p (s.hold (.spindle b)))).modSpin b (Spindle.counted (insideWindow (s.bay b).spin.trim p)))
      (by simpa using SpinState.turning_of_regulated hreg) (.inl (by simpa using hreg))
    exact ⟨by simpa using h1, by simpa using h2⟩

/-- R33: a revolution in RAMPING. -/
theorem judgeRevolution_ramping (hs : (s.bay b).spin.state = .ramping) (hn : (s.bay b).pos.pending ≠ .load) :
    let w := judgeRevolution b p (s.modSpin b (Spindle.pulsed (some p)))
    (∀ d, (w.bay d).sched = (s.bay d).sched) ∧
      if (p : Int) ≤ 16667 + 4 * (s.bay b).spin.trim + 1667 then
        (w.bay b).spin.state = .locking ∧ (w.bay b).spin.inside = 0 ∧ (w.bay b).spin.stageTimer = some 4000000 ∧
          (w.bay b).spin.phases = (if (w.bay b).spin.drive = 0 then .off else .commutated) ∧
          (w.bay b).spin.drive = driveCode (s.bay b).spin.trim p (s.hold (.spindle b))
      else (w.bay b).spin.state = .ramping ∧ (w.bay b).spin.drive = (s.bay b).spin.drive := by
  have hdone : rampDone (s.bay b).spin.trim p = decide ((p : Int) ≤ 16667 + 4 * (s.bay b).spin.trim + 1667) := rfl
  have hjudge : judgeRevolution b p (s.modSpin b (Spindle.pulsed (some p))) =
      if (p : Int) ≤ 16667 + 4 * (s.bay b).spin.trim + 1667 then enterLocking b p (s.modSpin b (Spindle.pulsed (some p)))
      else s.modSpin b (Spindle.pulsed (some p)) := by
    simp [judgeRevolution, Spindle.pulsed, hs, hdone]
  dsimp only
  rw [hjudge]
  split
  · obtain ⟨h1, h2⟩ := spindleChanged_turning (b := b) (s := (s.modSpin b (Spindle.pulsed (some p))).modSpin b fun x =>
        Spindle.driven (driveCode x.trim p ((s.modSpin b (Spindle.pulsed (some p))).hold (.spindle b)))
          { x with state := .locking, inside := 0, outside := 0, stageTimer := some Const.stageLock })
      (by simp [Spindle.driven, SpinState.turning]) (.inr (loadWaiting_of_pending (by simpa using hn)))
    rw [enterLocking, h1]
    exact ⟨fun d => by rw [h2]; simp, by simp [Spindle.timed, Spindle.driven, Spindle.pulsed, SpinState.phasesAt, SpinState.phases, State.hold]⟩
  · exact ⟨by simp, by simp [Spindle.pulsed, hs]⟩

/-- What such an event leaves: the spindle of the pulse, the gates judged. -/
theorem tachPulse_spin (hset : Settled s) (hr : (s.bay b).spin.tachRef = true)
    (h : ∀ d, ((judgeRevolution b p (s.modSpin b (Spindle.pulsed (some p)))).bay d).sched = (s.bay d).sched) :
    let t := settle (beginWindows b (measuredPulse b p s))
    (t.bay b).spin = ((judgeRevolution b p (s.modSpin b (Spindle.pulsed (some p)))).bay b).spin ∧
      ((t.bay b).spin.state ≠ .locked → (t.bay b).gate.wperm = false) := by
  dsimp only
  rw [measuredPulse, if_pos hr, settle_beginWindows hset h]
  refine ⟨by rw [judgeGates_spin, beginWindows, State.modDemod_spin], fun hn => ?_⟩
  rw [judgeGates_spin] at hn
  rw [judgeGates_wperm, permitDue_of_spin hn]

end Sys2Proof.Machine
end

section
namespace Sys2Proof.Machine

variable {b : Bay} {m : Bool} {s t u v w y : State} {c : Consumer} {k : OpKind} {op : Op} {p : Nat}

/-! ### What a revolution makes of the spindle, by its state (R28, R35) -/

section
variable {x : Spindle} {held : Nat} {loaded : Bool}

theorem Spindle.revolved_locked (h : x.state = .locked) :
    (x.revolved p held loaded).drive = driveCode x.trim p held ∧
      (x.revolved p held loaded).phases = (if (x.revolved p held loaded).drive = 0 then .off else .commutated) ∧
      (if ((p : Int) - (16667 + 4 * x.trim)).natAbs ≤ 83 then
        (x.revolved p held loaded).state = .locked ∧ (x.revolved p held loaded).outside = 0
      else if x.outside = 0 then (x.revolved p held loaded).state = .locked ∧ (x.revolved p held loaded).outside = 1
      else
        (x.revolved p held loaded).state = .unlocked ∧ (x.revolved p held loaded).inside = 0 ∧
          ((x.revolved p held loaded).speedLost.isSome = true ↔ loaded = true)) := by
  by_cases hi : ((p : Int) - (16667 + 4 * x.trim)).natAbs ≤ 83
  · have hw : insideWindow x.trim p = true := (insideWindow_iff _ _).mpr hi
    simp [revolved, counted, driven, pulsed, hw, h, hi, SpinState.phasesAt, SpinState.phases]
  · have hw : insideWindow x.trim p = false := by simpa using mt (insideWindow_iff _ _).mp hi
    by_cases ho : x.outside = 0
    · simp [revolved, counted, driven, pulsed, hw, h, hi, ho, SpinState.phasesAt, SpinState.phases]
    · have h2 : 2 ≤ x.outside + 1 := by omega
      cases loaded <;> cases hl : x.speedLost <;>
        simp [revolved, counted, driven, pulsed, timed, hw, h, hi, ho, h2, hl, SpinState.phasesAt, SpinState.phases]

theorem Spindle.revolved_locking (h : x.state = .locking) :
    (x.revolved p held loaded).state = .locking ∧
      (x.revolved p held loaded).phases = (if (x.revolved p held loaded).drive = 0 then .off else .commutated) ∧
      (x.revolved p held loaded).drive = driveCode x.trim p held ∧
      (x.revolved p held loaded).inside = (if ((p : Int) - (16667 + 4 * x.trim)).natAbs ≤ 83 then x.inside + 1 else 0) := by
  by_cases hi : ((p : Int) - (16667 + 4 * x.trim)).natAbs ≤ 83
  · have hw : insideWindow x.trim p = true := (insideWindow_iff _ _).mpr hi
    simp [revolved, counted, driven, pulsed, hw, h, hi, SpinState.phasesAt, SpinState.phases]
  · have hw : insideWindow x.trim p = false := by simpa using mt (insideWindow_iff _ _).mp hi
    simp [revolved, counted, driven, pulsed, hw, h, hi, SpinState.phasesAt, SpinState.phases]

theorem Spindle.revolved_unlocked (h : x.state = .unlocked) :
    (x.revolved p held loaded).phases = (if (x.revolved p held loaded).drive = 0 then .off else .commutated) ∧
      (x.revolved p held loaded).drive = driveCode x.trim p held ∧
      (if ((p : Int) - (16667 + 4 * x.trim)).natAbs ≤ 83 then
        (if x.inside < 7 then (x.revolved p held loaded).state = .unlocked ∧ (x.revolved p held loaded).inside = x.inside + 1
        else (x.revolved p held loaded).state = .locked ∧ (x.revolved p held loaded).speedLost = none)
      else (x.revolved p held loaded).state = .unlocked ∧ (x.revolved p held loaded).inside = 0) := by
  by_cases hi : ((p : Int) - (16667 + 4 * x.trim)).natAbs ≤ 83
  · have hw : insideWindow x.trim p = true := (insideWindow_iff _ _).mpr hi
    by_cases h7 : x.inside < 7
    · have h8 : ¬8 ≤ x.inside + 1 := by omega
      simp [revolved, counted, driven, pulsed, hw, h, hi, h7, h8, SpinState.phasesAt, SpinState.phases]
    · have h8 : 8 ≤ x.inside + 1 := by omega
      simp [revolved, counted, driven, pulsed, timed, hw, h, hi, h7, h8, SpinState.phasesAt, SpinState.phases]
  · have hw : insideWindow x.trim p = false := by simpa using mt (insideWindow_iff _ _).mp hi
    simp [revolved, counted, driven, pulsed, hw, h, hi, SpinState.phasesAt, SpinState.phases]

end

/-! ### The end of a spin-up (R34, R55, R56) -/

/-- A spindle at the eighth revolution inside the window (R34). -/
def Spindle.lockedAt (p held : Nat) (x : Spindle) : Spindle :=
  Spindle.driven (min (driveCode x.trim p held) 40)
    { x.pulsed (some p) with state := .locked, inside := 0, outside := 0, stageTimer := none }

theorem lockEntry_pulse (hr : (s.bay b).spin.tachRef = true) (hs : (s.bay b).spin.state = .locking) (h7 : (s.bay b).spin.inside = 7)
    (hi : ((p : Int) - (16667 + 4 * (s.bay b).spin.trim)).natAbs ≤ 83) :
    measuredPulse b p s = spindleChanged b (completeIf b OpKind.isSpinUp .success
      (lowerHolding (.spindle b) 40 (s.modSpin b (Spindle.lockedAt p (s.hold (.spindle b)))))) := by
  have hw : insideWindow (s.bay b).spin.trim p = true := (insideWindow_iff _ _).mpr hi
  rw [measuredPulse, if_pos hr, judgeRevolution_eq (by simp [Spindle.pulsed, hs])]
  simp only [countRevolution, State.modSpin_modSpin, State.modSpin_spin, Spindle.pulsed, Spindle.driven, hs, hw, h7, lockEntry,
    if_pos (show 8 ≤ 7 + 1 by decide), State.hold, State.modSpin_ledger]
  rfl

theorem completeIf_gate (q : OpKind → Bool) (o : OpOutcome) (b c : Bay) (s : State) :
    ((completeIf b q o s).bay c).gate = (s.bay c).gate := by
  unfold completeIf
  split <;> simp

theorem completeIf_supply (q : OpKind → Bool) (o : OpOutcome) (b : Bay) (s : State) : (completeIf b q o s).supply = s.supply := by
  unfold completeIf
  split
  · exact (kept_completeOp b o s).supply
  · rfl

/-- What the grants of the units given back may touch of the part (R55). -/
structure GivesBack (b : Bay) (s y : State) : Prop where
  own : y.bay b = s.bay b
  otherSched : (y.bay b.other).sched = (s.bay b.other).sched
  otherPermit : (y.bay b.other).gate.wperm = permitDue (y.bay b.other) s.supply.state
  supply : y.supply = s.supply
  latch : y.ledger.waits (.latch b) = false

/-- R34: the pulse that ends a spin-up ends with the SPIN UP complete and the windows begun. -/
theorem tachPulse_locks (hset : Settled s) (h1 : 1 ≤ p) (h2 : p ≤ 500000) (hr : (s.bay b).spin.tachRef = true)
    (hs : (s.bay b).spin.state = .locking) (h7 : (s.bay b).spin.inside = 7)
    (hi : ((p : Int) - (16667 + 4 * (s.bay b).spin.trim)).natAbs ≤ 83) (hn : (s.bay b).pos.pending ≠ .load)
    (hq : (s.bay b).sched.queue = []) (hw : (s.bay b).gate.window = false) (hp : (s.bay b).cart.phase ≠ some .pulse)
    (hy : lowerHolding (.spindle b) 40 (s.modSpin b (Spindle.lockedAt p (s.hold (.spindle b)))) = y)
    (hg : GivesBack b (s.modSpin b (Spindle.lockedAt p (s.hold (.spindle b)))) y) :
    exec (.tachPulse b p) s = .next (beginWindows b ((completeIf b OpKind.isSpinUp .success y).modSpin b fun x =>
      { x with speedLost := none })) := by
  obtain ⟨hown, hsched, hpermit, hsupply, hlatch⟩ := hg
  have hcart := completeIf_sameButLamp OpKind.isSpinUp .success y b
  have hpos : ((completeIf b OpKind.isSpinUp .success y).bay b).pos = (s.bay b).pos := by simp [hown]
  have hspin : ((completeIf b OpKind.isSpinUp .success y).bay b).spin.state = .locked := by
    simp [hown, Spindle.lockedAt, Spindle.driven]
  have hchange : spindleChanged b (completeIf b OpKind.isSpinUp .success y) =
      (completeIf b OpKind.isSpinUp .success y).modSpin b fun x => { x with speedLost := none } := by
    rw [spindleChanged_eq (loadWaiting_of_pending (by rw [hpos]; exact hn)) ?_, speedLostUpdate_off (.inl (by rw [hspin]; simp)),
      judgeLatch_away (not_atRest_of_spin (by rw [State.modSpin_spin, hspin]; simp)) (by simpa using hlatch)]
    intro _
    rw [hcart.eqs.2.1, hown, State.modSpin_cart]
    exact hp
  rw [exec_tachPulse h1 h2, lockEntry_pulse hr hs h7 hi, hy, hchange]
  refine congrArg _ (settle_exact _ (fun c => ?_) (hset.2.2.2.ofOther (b := b) ?_ fun _ => ?_))
  · simp only [beginWindows, State.modDemod_gate, State.modSpin_gate, completeIf_gate, State.modDemod_supply, State.modSpin_supply,
      completeIf_supply, hsupply]
    rcases Bay.cases_eq b c with rfl | rfl
    · rw [permitDue_of_closed (by simpa [completeIf_gate, hown] using hw), hown, State.modSpin_gate]
      exact hset.2.2.1.wperm_of_closed hw
    · simpa using hpermit
  · simpa [beginWindows] using hsched
  · simpa [beginWindows, hown] using hq

/-- With nothing waiting the units are given back to the ledger (R55). -/
theorem givesBack_nil (hset : Settled s) (f : Spindle → Spindle) (hw : s.ledger.wait = []) (hh : s.hold (.spindle b) = 180) :
    lowerHolding (.spindle b) 40 (s.modSpin b f) = (s.modSpin b f).setLedger (s.ledger.setHold (.spindle b) 40) ∧
      GivesBack b (s.modSpin b f) ((s.modSpin b f).setLedger (s.ledger.setHold (.spindle b) 40)) := by
  have hh' : s.ledger.hold (.spindle b) = 180 := hh
  refine ⟨?_, by simp, by simp, ?_, by simp, Ledger.waits_of_nil (by simpa using hw) _⟩
  · rw [lowerHolding_of_nil (by simpa using hw), State.modSpin_ledger, if_pos (by omega)]
  · simpa using hset.2.2.1 b.other

/-- The 180 of the other spindle, which waits alone, judged against the units given back (R55, R56). -/
theorem givesBack_other (f : Spindle → Spindle) (hset : Settled s) (hh : s.hold (.spindle b) = 180)
    (hw : s.ledger.wait = [⟨.spindle b.other, .fixed 180⟩]) (hs : (s.bay b.other).spin.state = .waitPower)
    (ho : s.hold (.spindle b.other) = 0) :
    let y := if s.ledger.sum + 40 ≤ s.ledger.effective then
        ((s.modSpin b f).setLedger { (s.ledger.setHold (.spindle b) 40).setHold (.spindle b.other) 180 with wait := [] }).modSpin b.other
          Spindle.aligning
      else (s.modSpin b f).setLedger (s.ledger.setHold (.spindle b) 40)
    lowerHolding (.spindle b) 40 (s.modSpin b f) = y ∧ GivesBack b (s.modSpin b f) y := by
  have hne : Consumer.spindle b.other ≠ .spindle b := by cases b <;> simp [Bay.other]
  have hh' : s.ledger.hold (.spindle b) = 180 := hh
  have ho' : s.ledger.hold (.spindle b.other) = 0 := ho
  have hle := Ledger.hold_le_sum (l := s.ledger) (c := .spindle b)
  have hsum : (s.ledger.setHold (.spindle b) 40).sum - (s.ledger.setHold (.spindle b) 40).hold (.spindle b.other) + 180 =
      s.ledger.sum + 40 := by
    rw [Ledger.setHold_hold_ne _ _ _ _ hne, Ledger.setHold_sum]
    omega
  have hwait : (s.ledger.setHold (.spindle b) 40).wait = [⟨.spindle b.other, .fixed 180⟩] := by rw [Ledger.setHold_wait, hw]
  have hlower : s.ledger.lower (.spindle b) 40 = (s.ledger.setHold (.spindle b) 40).reexamine := if_pos (by omega)
  dsimp only
  rw [lowerHolding, State.modSpin_ledger, hlower]
  split
  · next hf =>
    rw [Ledger.reexamine_granted hwait (by rw [hsum, Ledger.setHold_effective]; exact hf)]
    refine ⟨?_, by cases b <;> rfl, by simp, ?_, by simp, by simp [Ledger.waits]⟩
    · change tellGrant _ (.spindle b.other, 180) = _
      rw [tellGrant_spindle _ (by simpa using hs)]
      rfl
    · have hp := hset.2.2.1 b.other
      rw [permitDue_of_spin (by rw [hs]; simp)] at hp
      rw [permitDue_of_spin (by simp [Spindle.aligning, Spindle.driven])]
      simpa using hp
  · next hf =>
    rw [Ledger.reexamine_waiting hwait (by rw [hsum, Ledger.setHold_effective]; exact hf)]
    refine ⟨rfl, by simp, by simp, by simpa using hset.2.2.1 b.other, by simp, ?_⟩
    simp [Ledger.waits, hw]

/-- What the end of a spin-up leaves, its SPIN UP complete and the windows begun (R34, R64). -/
theorem spinUpEnds_spec (f : Spindle → Spindle) (l : Ledger) (hin : (s.bay b).sched.inflight = some op) (hk : op.kind = .spinUp)
    (hf : (f (s.bay b).spin).attempt = (s.bay b).spin.attempt) :
    let t := beginWindows b ((completeIf b OpKind.isSpinUp .success ((s.modSpin b f).setLedger l)).modSpin b fun x => { x with speedLost := none })
    (t.bay b).spin = { f (s.bay b).spin with speedLost := none } ∧ t.ledger = l ∧ (t.bay b).sched.inflight = none ∧
      t.completions = recorded s.completions ⟨op.tag, b, .spinUp, .success, some (s.bay b).spin.attempt⟩ ∧
      t.bay b.other = s.bay b.other ∧ (t.bay b).pos = (s.bay b).pos := by
  have hin' : (((s.modSpin b f).setLedger l).bay b).sched.inflight = some op := by simpa using hin
  have hcomp := completeOp_completions hin' .success
  dsimp only
  rw [completeIf_of_kind hin' (by rw [hk]; rfl)]
  refine ⟨by simp [beginWindows], by simp [beginWindows], by simp [beginWindows, completeOp_sched], ?_, by simp [beginWindows],
    by simp [beginWindows]⟩
  rw [beginWindows, State.modDemod_completions, State.modSpin_completions, hcomp, hk]
  simp [detailOf, hf]

/-- A pulse without reference, or where no revolution is judged, is the measurement (R26). -/
theorem tachPulse_unjudged (hset : Settled s) (h : (s.bay b).spin.tachRef = false ∨
      ¬((s.bay b).spin.state = .ramping ∨ (s.bay b).spin.state = .locking ∨ (s.bay b).spin.state = .locked ∨
        (s.bay b).spin.state = .unlocked)) :
    settle (beginWindows b (measuredPulse b p s)) =
      beginWindows b (s.modSpin b (Spindle.pulsed (if (s.bay b).spin.tachRef then some p else none))) := by
  have hw : measuredPulse b p s = s.modSpin b (Spindle.pulsed (if (s.bay b).spin.tachRef then some p else none)) := by
    unfold measuredPulse
    split
    · next hr =>
      have hs := h.resolve_left (by simp [hr])
      unfold judgeRevolution
      cases hst : (s.bay b).spin.state <;> simp [hst] at hs <;> simp [Spindle.pulsed, hst]
    · rfl
  rw [hw]
  exact tachPulse_only hset (by simp [Spindle.pulsed])

/-- Settles O49: what every pulse measures, what a revolution makes of the loop, and the two ends of a spin-up. -/
theorem tachPulseRunsTheLoop : Obligations.TachPulseRunsTheLoop := by
  refine ⟨fun b p s hset h1 h2 => ?_, fun b p s op hset h1 h2 hr hs h7 hi hh hw hn hq hin hk hwin hp => ?_,
    fun b p s hset h1 h2 hr hs h7 hi hh hw hso ho hn hq hwin hp => ?_⟩
  · obtain ⟨href, htimer, hperiod, hdemod⟩ := tachPulse_measures b p s
    refine ⟨_, exec_tachPulse h1 h2, href, htimer, hperiod, hdemod, fun hnone => ?_, fun hr =>
      ⟨fun hs hn => ?_, fun hs => ?_, fun hs h7 => ?_, fun hs => ?_⟩⟩
    · rw [hperiod, hdemod, tachPulse_unjudged hset hnone, beginWindows, State.modSpin_spin]
      dsimp only [Spindle.pulsed]
      split <;> rfl
    · obtain ⟨hsched, hramp⟩ := judgeRevolution_ramping (p := p) hs hn
      rw [(tachPulse_spin hset hr hsched).1]
      exact hramp
    · obtain ⟨hspin, hsched⟩ := judgeRevolution_regulating (p := p) (.inr (by rw [hs]; rfl)) (by simp [hs])
      obtain ⟨ht, hperm⟩ := tachPulse_spin hset hr hsched
      rw [ht, hspin] at hperm ⊢
      obtain ⟨hdrive, hphases, hstate⟩ := Spindle.revolved_locked (p := p) (held := s.hold (.spindle b))
        (loaded := (s.bay b).pos.state.loaded) hs
      refine ⟨hdrive, hphases, ?_⟩
      split at hstate
      · next hi => rw [if_pos hi]; exact hstate
      · next hi =>
        rw [if_neg hi]
        split at hstate
        · next h0 => rw [if_pos h0]; exact hstate
        · next h0 =>
          obtain ⟨hu, hin, hlost⟩ := hstate
          rw [if_neg h0]
          exact ⟨hu, hin, hperm (by rw [hu]; simp), hlost⟩
    · obtain ⟨hspin, hsched⟩ := judgeRevolution_regulating (p := p) (.inl hs) (fun _ => h7)
      rw [(tachPulse_spin hset hr hsched).1, hspin]
      exact Spindle.revolved_locking hs
    · obtain ⟨hspin, hsched⟩ := judgeRevolution_regulating (p := p) (.inr (by rw [hs]; rfl)) (by simp [hs])
      rw [(tachPulse_spin hset hr hsched).1, hspin]
      exact Spindle.revolved_unlocked hs
  · obtain ⟨hy, hg⟩ := givesBack_nil (b := b) hset (Spindle.lockedAt p (s.hold (.spindle b))) hw hh
    rw [tachPulse_locks hset h1 h2 hr hs h7 hi hn hq hwin hp hy hg]
    obtain ⟨hspin, hledger, hidle, hcomp, hother, hpos⟩ := spinUpEnds_spec (Spindle.lockedAt p (s.hold (.spindle b)))
      (s.ledger.setHold (.spindle b) 40) hin hk rfl
    refine ⟨_, rfl, ?_⟩
    dsimp only
    rw [hspin, hledger, hidle, hcomp, hother, hpos, hh]
    exact ⟨rfl, Nat.min_comm _ _, rfl, rfl, rfl, rfl, rfl, rfl, rfl, rfl, rfl, rfl⟩
  · obtain ⟨hy, hg⟩ := givesBack_other (Spindle.lockedAt p (s.hold (.spindle b))) hset hh hw hso ho
    rw [tachPulse_locks hset h1 h2 hr hs h7 hi hn hq hwin hp hy hg]
    refine ⟨_, rfl, ?_, ?_⟩
    · rw [beginWindows, State.modDemod_spin, State.modSpin_spin, completeIf_spin, hg.own, State.modSpin_spin]
      rfl
    · split
      · refine ⟨by simp [beginWindows], ?_⟩
        simp only [beginWindows, State.modDemod_bay_other, State.modSpin_bay_other, completeIf_bay_other]
        cases b <;> rfl
      · simp [beginWindows]

end Sys2Proof.Machine
end

section
namespace Sys2Proof.Machine

variable {b : Bay} {s t u : State} {c : Consumer}

/-! ### The law of an actuator (R49, R55, R81, R95, R104, R107) -/

/-- A positioner draws what its state gives it to draw, within this holding. -/
def Positioner.DrawsWithin (held : Nat) (p : Positioner) : Prop :=
  (p.source = .rail → p.act.natAbs ≤ held) ∧
    match p.state with
    | .parked | .fault => p.act = 0 ∧ p.source = .none
    | .retracting => p.act = -60 ∧ p.source = .reserve
    | .unloading => p.act = -25 ∧ p.source = .rail ∧ 30 ≤ held
    | .loading | .acquiring | .following | .seeking | .settling => p.source = .rail ∧ 30 ≤ held

/-- The requests an actuator makes: its 30, or 60 to 100 (R49). -/
def Req.OfActuator (r : Req) : Prop := r = .fixed 30 ∨ r = .ranged 60 100

/-- The states an actuator waits in: on the ramp, or with the heads loaded. -/
def PosState.MayWait (x : PosState) : Prop := x = .parked ∨ x.loaded = true

/-- The law of one bay's actuator. -/
structure ActuatorSound (b : Bay) (s : State) : Prop where
  draws : (s.bay b).pos.DrawsWithin (s.ledger.hold (.actuator b))
  waits : ∀ e ∈ s.ledger.wait, e.who = .actuator b → e.req.OfActuator ∧ (s.bay b).pos.state.MayWait

theorem actuatorsSound_iff : ActuatorsSound s ↔ ∀ b, ActuatorSound b s :=
  forall_congr' fun _ => ⟨fun ⟨h1, h2, h3⟩ => ⟨⟨h1, h2⟩, h3⟩, fun ⟨⟨h1, h2⟩, h3⟩ => ⟨h1, h2, h3⟩⟩

namespace Positioner

variable {p q : Positioner} {held n : Nat}

theorem drawsWithin_of_loaded (h : p.state.loaded = true) :
    p.DrawsWithin held ↔ p.source = .rail ∧ p.act.natAbs ≤ held ∧ 30 ≤ held := by
  have hstate : p.DrawsWithin held ↔ (p.source = .rail → p.act.natAbs ≤ held) ∧ p.source = .rail ∧ 30 ≤ held := by
    cases hs : p.state <;> simp [hs, PosState.loaded] at h <;> simp [DrawsWithin, hs]
  rw [hstate]
  exact ⟨fun ⟨h1, h2, h3⟩ => ⟨h2, h1 h2, h3⟩, fun ⟨h1, h2, h3⟩ => ⟨fun _ => h2, h1, h3⟩⟩

theorem drawsWithin_of_parked (h : p.state = .parked) : p.DrawsWithin held ↔ p.act = 0 ∧ p.source = .none := by
  simp +contextual [DrawsWithin, h]

/-- The law reads of a positioner its state, its code and its source. -/
theorem DrawsWithin.same (h : p.DrawsWithin held) (hs : q.state = p.state) (ha : q.act = p.act) (hr : q.source = p.source) :
    q.DrawsWithin held := by
  simpa only [DrawsWithin, hs, ha, hr] using h

/-- Loaded heads go on in a loaded state, at no greater code and on the rail (R91). -/
theorem DrawsWithin.loaded (h : p.DrawsWithin held) (hp : p.state.loaded = true) (hq : q.state.loaded = true)
    (ha : q.act.natAbs ≤ p.act.natAbs) (hr : q.source = p.source ∨ q.source = .rail) : q.DrawsWithin held := by
  obtain ⟨hrail, hact, hheld⟩ := (drawsWithin_of_loaded hp).mp h
  exact (drawsWithin_of_loaded hq).mpr ⟨hr.elim (·.trans hrail) id, ha.trans hact, hheld⟩

end Positioner

theorem clampInt_natAbs_le (n : Nat) (x : Int) : (clampInt (-n) n x).natAbs ≤ n ∧ (clampInt (-n) n x).natAbs ≤ x.natAbs := by
  unfold clampInt
  split
  · omega
  · split <;> omega

/-- R53: what an actuator is granted. -/
theorem Req.OfActuator.fit {r : Req} (h : r.OfActuator) {l : Ledger} {n : Nat} (hf : l.fit c r = some n) : 30 ≤ n := by
  rcases h with rfl | rfl
  · have := (l.fit_spec c (by simp) hf).2.1
    exact this
  · have hneed := (l.fit_spec c (by rintro _ _ ⟨⟩; decide) hf).2.1
    exact le_trans (by decide) hneed

/-! ### What a re-examination tells an actuator (R56, R94, R98) -/

/-- What a consumer takes for its holding once it has been told these grants. -/
def toldHolding (c : Consumer) (held : Nat) (gs : List Grant) : Nat := gs.foldl (fun n g => if g.1 = c then g.2 else n) held

/-- R56: what the grants tell a consumer is what it holds. -/
theorem Ledger.grantHeads_told (c : Consumer) (w : List WaitEntry) :
    ∀ l : Ledger, (l.grantHeads w).1.hold c = toldHolding c (l.hold c) (l.grantHeads w).2 := by
  induction w with
  | nil => intro l; rcases c with b | b | b <;> cases b <;> rfl
  | cons e es ih =>
    intro l
    simp only [Ledger.grantHeads]
    split
    · next n _ =>
      rw [ih, toldHolding, toldHolding, List.foldl_cons]
      split
      · next he => rw [← he, Ledger.setHold_hold]
      · next he => rw [Ledger.setHold_hold_ne _ _ _ _ (Ne.symm he)]
    · rcases c with b | b | b <;> cases b <;> rfl

/-- R56: every grant answers an entry of the list. -/
theorem Ledger.grantHeads_granted (w : List WaitEntry) :
    ∀ l : Ledger, ∀ g ∈ (l.grantHeads w).2, ∃ e ∈ w, e.who = g.1 ∧ ∃ m : Ledger, m.fit e.who e.req = some g.2 := by
  induction w with
  | nil => intro l g hg; simp [Ledger.grantHeads] at hg
  | cons e es ih =>
    intro l g hg
    simp only [Ledger.grantHeads] at hg
    split at hg
    · next n hn =>
      rcases List.mem_cons.mp hg with rfl | hg
      · exact ⟨e, List.mem_cons_self, rfl, l, hn⟩
      · obtain ⟨x, hx, hw⟩ := ih _ g hg
        exact ⟨x, List.mem_cons_of_mem e hx, hw⟩
    · simp at hg

theorem historyReset_pos (b c : Bay) (s : State) : ((historyReset b s).bay c).pos = (s.bay c).pos := by cases b <;> cases c <;> rfl

theorem switchHead_act (n : Nat) (b : Bay) (s : State) : ((switchHead b n s).bay b).pos.act = (s.bay b).pos.act := by
  unfold switchHead
  split
  · rfl
  · rw [historyReset_pos, State.modPos_pos]

theorem enterLoading_pos (b : Bay) (s : State) : ((enterLoading b s).bay b).pos.state = .loading ∧
    ((enterLoading b s).bay b).pos.act = 25 ∧ ((enterLoading b s).bay b).pos.source = .rail := by
  simp [enterLoading]

/-- R94: LOADING draws its 25 within the 30 that are held. -/
theorem tryLoading_draws {held : Nat} (h : (s.bay b).pos.DrawsWithin held) (hh : 30 ≤ held) (hm : (s.bay b).pos.state.MayWait) :
    ((tryLoading b s).bay b).pos.DrawsWithin held ∧ ((tryLoading b s).bay b).pos.state.MayWait := by
  unfold tryLoading
  split
  · obtain ⟨hs, ha, hr⟩ := enterLoading_pos b s
    have hl : ((enterLoading b s).bay b).pos.state.loaded = true := by rw [hs]; rfl
    refine ⟨(Positioner.drawsWithin_of_loaded hl).mpr ⟨hr, by rw [ha]; exact le_trans (by decide) hh, hh⟩, .inr hl⟩
  · exact ⟨h, hm⟩

/-- A grant brings ACT within it (R55). -/
theorem clampAct_draws {held n : Nat} (h : (s.bay b).pos.DrawsWithin held) (hn : 30 ≤ n) (hm : (s.bay b).pos.state.MayWait) :
    ((clampAct b n s).bay b).pos.DrawsWithin n := by
  have hs : ((clampAct b n s).bay b).pos.state = (s.bay b).pos.state := by simp [clampAct]
  have hr : ((clampAct b n s).bay b).pos.source = (s.bay b).pos.source := by simp [clampAct]
  have ha : ((clampAct b n s).bay b).pos.act = clampInt (-n) n (s.bay b).pos.act := by simp [clampAct]
  obtain ⟨hle, hact⟩ := clampInt_natAbs_le n (s.bay b).pos.act
  rcases hm with hp | hl
  · rw [Positioner.drawsWithin_of_parked hp] at h
    rw [Positioner.drawsWithin_of_parked (hs.trans hp), ha, hr]
    exact ⟨by rw [h.1] at hact ⊢; simpa using hact, h.2⟩
  · rw [Positioner.drawsWithin_of_loaded hl] at h
    rw [Positioner.drawsWithin_of_loaded (by rw [hs]; exact hl), ha, hr]
    exact ⟨h.1, hle, hn⟩

/-- R94, R98: a grant told to the actuator. -/
theorem actuatorGranted_draws {held n : Nat} (h : (s.bay b).pos.DrawsWithin held) (hn : 30 ≤ n) (hm : (s.bay b).pos.state.MayWait) :
    ((actuatorGranted b n s).bay b).pos.DrawsWithin n ∧ ((actuatorGranted b n s).bay b).pos.state.MayWait := by
  have hc := clampAct_draws h hn hm
  have hs : ((clampAct b n s).bay b).pos.state = (s.bay b).pos.state := by simp [clampAct]
  unfold actuatorGranted
  dsimp only
  split
  · next hf =>
    have hl : ((clampAct b n s).bay b).pos.state.loaded = true := by
      simp only [Bool.or_eq_true, decide_eq_true_eq] at hf
      rcases hf with e | e <;> rw [e] <;> rfl
    split
    · refine ⟨hc.loaded hl ?_ ?_ (.inr ?_), .inr ?_⟩
      all_goals simp [enterSeeking, switchHead_act, setTarget_pos, PosState.loaded]
    · refine ⟨hc.loaded hl ?_ ?_ (.inr ?_), .inr ?_⟩
      all_goals simp [enterSeeking, PosState.loaded]
    · exact ⟨hc, by rw [hs]; exact hm⟩
  · exact tryLoading_draws hc hn (by rw [hs]; exact hm)

/-- A grant told to a consumer, for the actuator of a bay. -/
theorem tellGrant_draws {held : Nat} {g : Grant} (h : (s.bay b).pos.DrawsWithin held)
    (hg : g.1 = .actuator b → 30 ≤ g.2 ∧ (s.bay b).pos.state.MayWait) :
    ((tellGrant s g).bay b).pos.DrawsWithin (if g.1 = .actuator b then g.2 else held) ∧
      ((s.bay b).pos.state.MayWait → ((tellGrant s g).bay b).pos.state.MayWait) := by
  by_cases hb : g.1 = .actuator b
  · obtain ⟨hn, hm⟩ := hg hb
    obtain ⟨d, n⟩ := g
    obtain rfl : d = .actuator b := hb
    obtain ⟨hd, hw⟩ := actuatorGranted_draws h hn hm
    simp only [if_true]
    exact ⟨hd, fun _ => hw⟩
  · rw [if_neg hb, (tellGrant_heads g fun e => absurd e hb).2.2.2 hb]
    exact ⟨h, id⟩

theorem tellGrants_draws (gs : List Grant) {held : Nat} (h : (s.bay b).pos.DrawsWithin held)
    (hg : ∀ g ∈ gs, g.1 = .actuator b → 30 ≤ g.2 ∧ (s.bay b).pos.state.MayWait) :
    ((tellGrants gs s).bay b).pos.DrawsWithin (toldHolding (.actuator b) held gs) ∧
      ((s.bay b).pos.state.MayWait → ((tellGrants gs s).bay b).pos.state.MayWait) := by
  unfold tellGrants toldHolding
  induction gs generalizing s held with
  | nil => exact ⟨h, id⟩
  | cons g gs ih =>
    simp only [List.forall_mem_cons] at hg
    obtain ⟨hd, hm⟩ := tellGrant_draws h hg.1
    obtain ⟨kd, km⟩ := ih hd fun x hx hb => ⟨(hg.2 x hx hb).1, hm (hg.2 x hx hb).2⟩
    exact ⟨kd, km ∘ hm⟩

end Sys2Proof.Machine
end

section
namespace Sys2Proof.Machine

variable {b : Bay} {s t u : State} {c d : Consumer}

/-! ### The consumer's side of the ledger: a change of its own, then a re-examination (R51 to R57) -/

/-- The wait list re-examined, and the consumers told (R56). -/
def reexamined (s : State) : State := tellGrants s.ledger.reexamine.2 (s.setLedger s.ledger.reexamine.1)

/-- R55: a reduction is the holding put in place, then a re-examination. -/
theorem lowerHolding_eq (c : Consumer) (n : Nat) (s : State) :
    lowerHolding c n s = if n < s.ledger.hold c then reexamined (s.setLedger (s.ledger.setHold c n)) else s := by
  unfold lowerHolding Ledger.lower
  split <;> rfl

/-- R57: a withdrawal is the entry removed, then a re-examination. -/
theorem withdrawRequest_eq (c : Consumer) (s : State) :
    withdrawRequest c s =
      if s.ledger.waits c then reexamined (s.setLedger { s.ledger with wait := s.ledger.wait.filter fun e => e.who ≠ c }) else s := by
  unfold withdrawRequest Ledger.withdraw
  split <;> rfl

theorem reexamined_setLedger (l : Ledger) (s : State) : reexamined (s.setLedger l) = tellGrants l.reexamine.2 (s.setLedger l.reexamine.1) := rfl

/-- R53, R54: over an empty list a request is the one entry of a list re-examined. -/
theorem ask_of_nil {r : Req} (hw : s.ledger.wait = []) (hc : r.need ≤ s.ledger.capacity) :
    ask c r s = reexamined (s.setLedger { s.ledger with wait := [⟨c, r⟩] }) := by
  have hsum : Ledger.sum { s.ledger with wait := [⟨c, r⟩] } = s.ledger.sum := rfl
  have hhold : Ledger.hold { s.ledger with wait := [⟨c, r⟩] } c = s.ledger.hold c := Ledger.hold_congr rfl rfl c
  have hfit : Ledger.fit { s.ledger with wait := [⟨c, r⟩] } c r = s.ledger.fit c r := by simp only [Ledger.fit, hsum, hhold]
  rw [reexamined_setLedger, Ledger.reexamine]
  cases hf : s.ledger.fit c r with
  | none =>
    rw [ask_of_waiting (Ledger.waits_of_nil hw c) hc fun _ => hf, hw]
    simp only [Ledger.grantHeads, hfit, hf]
    rfl
  | some n =>
    have hput : { Ledger.setHold { s.ledger with wait := [⟨c, r⟩] } c n with wait := [] } = s.ledger.setHold c n := by
      rw [← hw]
      rcases c with b | b | b <;> cases b <;> rfl
    rw [ask_of_fitting hw hc hf]
    simp only [Ledger.grantHeads, hfit, hf, hput]
    rfl

/-- R51 to R54: a request is told NO_BUDGET, takes its consumer's place in the list, or joins the list; the list is re-examined but
where the request joins others. -/
theorem ask_eq (c : Consumer) (r : Req) (s : State) :
    ask c r s =
      if s.ledger.capacity < r.need then tellNoBudget c (withdrawRequest c s)
      else if s.ledger.waits c then
        reexamined (s.setLedger { s.ledger with wait := s.ledger.wait.map fun e => if e.who = c then ⟨c, r⟩ else e })
      else if s.ledger.wait = [] then reexamined (s.setLedger { s.ledger with wait := [⟨c, r⟩] })
      else s.setLedger { s.ledger with wait := s.ledger.wait ++ [⟨c, r⟩] } := by
  by_cases hc : s.ledger.capacity < r.need
  · rw [if_pos hc]
    by_cases hw : s.ledger.waits c = true
    · simp only [ask, Ledger.request, hw, hc, if_true]
      rfl
    · rw [Bool.not_eq_true] at hw
      rw [ask_of_exceeding hw hc, withdrawRequest_of_not_waits hw]
  · rw [if_neg hc]
    by_cases hw : s.ledger.waits c = true
    · simp only [ask, Ledger.request, hw, hc, if_true, if_false, Bool.false_eq_true]
      rfl
    · rw [if_neg hw]
      rw [Bool.not_eq_true] at hw
      split
      · next hl => exact ask_of_nil hl (Nat.le_of_not_lt hc)
      · next hl => exact ask_of_waiting hw (Nat.le_of_not_lt hc) fun h => absurd h hl

/-! ### The two laws of the ledger along its events -/

theorem reexamined_supply (s : State) : (reexamined s).supply = s.supply := (granted_tellGrants _ _).supply.trans (by simp)

/-- R50, R56: a re-examination keeps the sum within the capacity. -/
theorem LedgerSound.reexamined (h : LedgerSound s) : LedgerSound (reexamined s) := by
  obtain ⟨hsum, heff⟩ := h
  obtain ⟨h1, h2, -, h4⟩ := Ledger.grantHeads_spec s.ledger.wait s.ledger
  rw [LedgerSound, reexamined_supply, Machine.reexamined, tellGrants_ledger, State.setLedger_ledger]
  refine ⟨?_, ?_⟩
  · rw [Ledger.reexamine, h1]
    exact h4 _ (by rw [heff]; exact effectiveOf_le _ _) hsum
  · rw [Ledger.reexamine, h2, h1, heff]

/-- R56: a re-examination keeps an actuator within what it is told. -/
theorem ActuatorSound.reexamined (h : ActuatorSound b s) : ActuatorSound b (reexamined s) := by
  have hw : s.ledger.reexamine.1.wait <:+ s.ledger.wait := (Ledger.grantHeads_spec s.ledger.wait s.ledger).2.2.1
  obtain ⟨hd, hm⟩ := tellGrants_draws (b := b) (s := s.setLedger s.ledger.reexamine.1) s.ledger.reexamine.2 (by simpa using h.draws)
    fun g hg hb => by
      obtain ⟨e, he, hwho, m, hf⟩ := Ledger.grantHeads_granted s.ledger.wait s.ledger g hg
      obtain ⟨hr, hstate⟩ := h.waits e he (hwho.trans hb)
      exact ⟨hr.fit hf, by simpa using hstate⟩
  rw [State.setLedger_bay] at hm
  constructor
  · rw [Machine.reexamined, tellGrants_ledger, State.setLedger_ledger, Ledger.reexamine, Ledger.grantHeads_told]
    exact hd
  · rw [Machine.reexamined, tellGrants_ledger, State.setLedger_ledger]
    intro e he hb
    obtain ⟨hr, hstate⟩ := h.waits e (hw.subset he) hb
    exact ⟨hr, hm hstate⟩

theorem LedgerSound.lower (h : LedgerSound s) (c : Consumer) (n : Nat) : LedgerSound (lowerHolding c n s) := by
  rw [lowerHolding_eq]
  split
  · next hn =>
    refine LedgerSound.reexamined ⟨?_, by simpa using h.2⟩
    have := s.ledger.hold_le_sum c
    have := h.1
    simp only [State.setLedger_ledger, Ledger.setHold_sum, Ledger.setHold_capacity]
    omega
  · exact h

theorem LedgerSound.withdraw (h : LedgerSound s) (c : Consumer) : LedgerSound (withdrawRequest c s) := by
  rw [withdrawRequest_eq]
  split
  · exact LedgerSound.reexamined (s := s.setLedger _) h
  · exact h

/-- R55: a reduction of any consumer; of the actuator itself, to a total that it draws within. -/
theorem ActuatorSound.lower (h : ActuatorSound b s) (c : Consumer) (n : Nat)
    (hn : c = .actuator b → n < s.ledger.hold c → (s.bay b).pos.DrawsWithin n) : ActuatorSound b (lowerHolding c n s) := by
  rw [lowerHolding_eq]
  split
  · next hlt =>
    refine ActuatorSound.reexamined ⟨?_, by simpa using h.waits⟩
    by_cases hc : c = .actuator b
    · subst hc
      simpa using hn rfl hlt
    · simpa [Ledger.setHold_hold_ne _ _ _ _ (Ne.symm hc)] using h.draws
  · exact h

theorem ActuatorSound.withdraw (h : ActuatorSound b s) (c : Consumer) : ActuatorSound b (withdrawRequest c s) := by
  rw [withdrawRequest_eq]
  split
  · refine ActuatorSound.reexamined ⟨by simpa [Ledger.hold] using h.draws, fun e he => ?_⟩
    exact h.waits e (List.mem_of_mem_filter he)
  · exact h

end Sys2Proof.Machine
end

section
namespace Sys2Proof.Machine

variable {b : Bay} {s t u : State} {c : Consumer}

/-! ### What every operation keeps of the power (R49, R50, R59, R81)

`Powered s t` tells of the ledger and of the actuator of each bay that their laws hold of `t` if they hold of `s`. It is proved once for
each operation, in the order of the model, and read off for every command. -/

/-- The laws of the ledger and of the actuators that hold of `s` hold of `t`. -/
structure Powered (s t : State) : Prop where
  ledger : LedgerSound s → LedgerSound t
  actuator : ∀ b, ActuatorSound b s → ActuatorSound b t

namespace Powered

theorem refl (s : State) : Powered s s := ⟨id, fun _ => id⟩

theorem trans (h : Powered s t) (k : Powered t u) : Powered s u := ⟨k.ledger ∘ h.ledger, fun b => k.actuator b ∘ h.actuator b⟩

/-- A change that neither the ledger, nor the supply, nor the positioners see. -/
theorem same (h : Powered s t) (hp : ∀ c, (u.bay c).pos = (t.bay c).pos) (hl : u.ledger = t.ledger) (hs : u.supply.state = t.supply.state) :
    Powered s u := by
  refine h.trans ⟨fun hx => ?_, fun b hx => ⟨?_, ?_⟩⟩
  · rwa [LedgerSound, hl, hs]
  · rw [hp, hl]; exact hx.draws
  · rw [hp, hl]; exact hx.waits

/-- A change of one bay that leaves its positioner. -/
theorem setBay (h : Powered s t) {x : BayState} (hp : x.pos = (t.bay b).pos) : Powered s (t.setBay b x) := by
  refine h.same (fun c => ?_) (by simp) (by simp)
  rcases Bay.cases_eq b c with rfl | rfl
  · simpa using hp
  · simp

/-! #### Changes of the positioner -/

/-- A change of the positioner that keeps within the holding, and waits where it waited. -/
theorem posMove (h : Powered s t) (f : Positioner → Positioner)
    (hd : (t.bay b).pos.DrawsWithin (t.hold (.actuator b)) → (f (t.bay b).pos).DrawsWithin (t.hold (.actuator b)))
    (hm : (t.bay b).pos.state.MayWait → (f (t.bay b).pos).state.MayWait) : Powered s (t.modPos b f) := by
  refine h.trans ⟨fun hx => ?_, fun c hx => ?_⟩
  · rwa [LedgerSound, State.modPos_ledger, State.modPos_supply]
  · rcases Bay.cases_eq b c with rfl | rfl
    · refine ⟨by simpa [State.hold] using hd hx.draws, fun e he hb => ?_⟩
      rw [State.modPos_pos]
      obtain ⟨hr, hw⟩ := hx.waits e (by simpa using he) hb
      exact ⟨hr, hm hw⟩
    · exact ⟨by simpa using hx.draws, by simpa using hx.waits⟩

theorem posKeep (h : Powered s t) (f : Positioner → Positioner) (hs : (f (t.bay b).pos).state = (t.bay b).pos.state)
    (ha : (f (t.bay b).pos).act = (t.bay b).pos.act) (hr : (f (t.bay b).pos).source = (t.bay b).pos.source) :
    Powered s (t.modPos b f) :=
  h.posMove f (·.same hs ha hr) (by rw [hs]; exact id)

/-- Loaded heads go on in a loaded state (R91). -/
theorem posLoaded (h : Powered s t) (f : Positioner → Positioner) (hl : (t.bay b).pos.state.loaded = true)
    (hf : (f (t.bay b).pos).state.loaded = true) (ha : (f (t.bay b).pos).act.natAbs ≤ (t.bay b).pos.act.natAbs)
    (hr : (f (t.bay b).pos).source = (t.bay b).pos.source) : Powered s (t.modPos b f) :=
  h.posMove f (·.loaded hl hf ha (.inl hr)) fun _ => .inr hf

/-! #### Events of the ledger -/

theorem reexamined (h : Powered s t) : Powered s (reexamined t) := h.trans ⟨LedgerSound.reexamined, fun _ => ActuatorSound.reexamined⟩

theorem lower (h : Powered s t) {c : Consumer} (n : Nat)
    (hn : ∀ b, c = .actuator b → ActuatorSound b t → n < t.ledger.hold c → (t.bay b).pos.DrawsWithin n) : Powered s (lowerHolding c n t) :=
  h.trans ⟨fun hx => hx.lower c n, fun b hx => hx.lower c n fun hc => hn b hc hx⟩

/-- A reduction of a spindle or a latch. -/
theorem lowerOther (h : Powered s t) {c : Consumer} (n : Nat) (hc : ∀ b, c ≠ .actuator b) : Powered s (lowerHolding c n t) :=
  h.lower n fun b hb => absurd hb (hc b)

theorem withdraw (h : Powered s t) (c : Consumer) : Powered s (withdrawRequest c t) :=
  h.trans ⟨fun hx => hx.withdraw c, fun _ hx => hx.withdraw c⟩

end Powered

/-! #### The small operations -/

theorem tellNoBudget_pos (c : Consumer) (s : State) (d : Bay) : ((tellNoBudget c s).bay d).pos = (s.bay d).pos := by
  rcases c with e | e | e <;> simp only [tellNoBudget] <;> split <;> simp

namespace Powered

theorem count (h : Powered s t) (f : BayCounters → BayCounters) : Powered s (t.modCnt b f) := h.setBay rfl

theorem modGate (h : Powered s t) (f : Gate → Gate) : Powered s (t.modGate b f) := h.setBay rfl

theorem modServo (h : Powered s t) (f : Servo → Servo) : Powered s (t.modServo b f) := h.setBay rfl

theorem modCart (h : Powered s t) (f : Cartridge → Cartridge) : Powered s (t.modCart b f) := h.setBay rfl

theorem modSpin (h : Powered s t) (f : Spindle → Spindle) : Powered s (t.modSpin b f) := h.setBay rfl

theorem modMon (h : Powered s t) (f : Monitor → Monitor) : Powered s (t.modMon b f) := h.setBay rfl

theorem modSched (h : Powered s t) (f : Sched → Sched) : Powered s (t.modSched b f) := h.setBay rfl

theorem unqualify (h : Powered s t) : Powered s (clearQualified b t) := h.modGate _

theorem close (h : Powered s t) : Powered s (closeWindow b t) := h.modGate _

theorem dropSau (h : Powered s t) : Powered s (dropSauWork b t) :=
  h.same (fun _ => by simp) (by simp) (by rw [(granted_dropSauWork b t).supply])

theorem historyReset (h : Powered s t) : Powered s (historyReset b t) := (h.modServo _).dropSau.unqualify

theorem setTarget (h : Powered s t) (n : Nat) : Powered s (setTarget b n t) := by
  unfold Machine.setTarget
  dsimp only
  split
  · exact h.posKeep _ rfl rfl rfl
  · exact (h.posKeep _ rfl rfl rfl).unqualify

theorem speedLostUpdate (h : Powered s t) : Powered s (speedLostUpdate b t) := by
  unfold Machine.speedLostUpdate
  exact h.modSpin _

theorem changeCart (h : Powered s t) (f : Cartridge → Cartridge) : Powered s (changeCart b f t) := (h.modCart _).modCart _

theorem changeSched (h : Powered s t) (f : Sched → Sched) : Powered s (changeSched b f t) :=
  h.same (by simp) (by simp) (by rw [(kept_changeSched b f t).supply])

theorem complete (h : Powered s t) (o : OpOutcome) : Powered s (completeOp b o t) :=
  h.same (by simp) (by simp) (by rw [(kept_completeOp b o t).supply])

theorem completeIf (h : Powered s t) (p : OpKind → Bool) (o : OpOutcome) : Powered s (completeIf b p o t) := by
  unfold Machine.completeIf
  split
  · exact h.complete o
  · exact h

theorem fault (h : Powered s t) (x : Cause) : Powered s (faultHalt b x t) := (h.complete _).changeSched _

theorem cancel (h : Powered s t) : Powered s (cancelQueue b t) :=
  h.same (by simp) (by simp) (by rw [(kept_cancelQueue b t).supply])

theorem tellNoBudget (h : Powered s t) (c : Consumer) : Powered s (tellNoBudget c t) := by
  rcases c with d | d | d <;> simp only [Machine.tellNoBudget]
  · split
    · exact (h.modSpin _).completeIf _ _
    · exact h
  · exact h
  · split
    · exact (h.changeCart _).completeIf _ _
    · exact h

/-- R51 to R54: a request; of an actuator, one of its own and from where it may wait. -/
theorem ask (h : Powered s t) {c : Consumer} (r : Req)
    (hr : ∀ b, c = .actuator b → r.OfActuator ∧ (t.bay b).pos.state.MayWait) : Powered s (ask c r t) := by
  have waiting : ∀ w : List WaitEntry, (∀ e ∈ w, e ∈ t.ledger.wait ∨ e = ⟨c, r⟩) → Powered s (t.setLedger { t.ledger with wait := w }) := by
    refine fun w hw => h.trans ⟨id, fun b hx => ⟨by simpa [Ledger.hold] using hx.draws, fun e he hb => ?_⟩⟩
    rcases hw e he with hold | rfl
    · exact hx.waits e hold hb
    · exact hr b hb
  rw [ask_eq]
  split
  · exact (h.withdraw c).tellNoBudget c
  · split
    · refine (waiting _ fun e he => ?_).reexamined
      obtain ⟨x, hx, rfl⟩ := List.mem_map.mp he
      split
      · exact .inr rfl
      · exact .inl hx
    · split
      · exact (waiting _ fun e he => .inr (List.mem_singleton.mp he)).reexamined
      · exact waiting _ fun e he => (List.mem_append.mp he).imp_right List.mem_singleton.mp

/-- R94: LOADING is entered from PARKED with the 30 held. -/
theorem tryLoading (h : Powered s t) : Powered s (tryLoading b t) := by
  have hs : (Machine.tryLoading b t).supply = t.supply := (granted_tryLoading b t).supply
  refine h.trans ⟨fun hx => by rwa [LedgerSound, tryLoading_ledger, hs], fun c hx => ?_⟩
  rcases Bay.cases_eq b c with rfl | rfl
  · by_cases hc : (loadWaiting c t && Const.followUnits ≤ t.hold (.actuator c) && (t.bay c).mon.qualified &&
        (t.bay c).spin.state = .locked) = true
    · have hh : 30 ≤ t.ledger.hold (.actuator c) ∧ (t.bay c).pos.state = .parked := by
        simp only [Bool.and_eq_true, decide_eq_true_eq, loadWaiting] at hc
        exact ⟨hc.1.1.2, hc.1.1.1.1⟩
      obtain ⟨hd, hm⟩ := tryLoading_draws hx.draws hh.1 (.inl hh.2)
      refine ⟨by rw [tryLoading_ledger]; exact hd, fun e he hb => ?_⟩
      rw [tryLoading_ledger] at he
      exact ⟨(hx.waits e he hb).1, hm⟩
    · rw [Machine.tryLoading, if_neg hc]
      exact hx
  · refine ⟨?_, ?_⟩ <;> rw [tryLoading_ledger, tryLoading_bay_other]
    · exact hx.draws
    · exact hx.waits

/-- Heads that give back all but `n`, their request withdrawn, to draw within what is left (R103, R104, R107). -/
theorem headsDropped (h : Powered s t) (n : Nat) (f : Positioner → Positioner)
    (hf : ∀ held, (t.bay b).pos.DrawsWithin held → (f (t.bay b).pos).DrawsWithin (min n held)) : Powered s (headsDropped b n f t) := by
  refine h.trans ⟨fun hx => ?_, fun c hx => ?_⟩
  · exact LedgerSound.lower (LedgerSound.withdraw (by rwa [LedgerSound, State.modPos_ledger, State.modPos_supply]) _) _ _
  · rcases Bay.cases_eq b c with rfl | rfl
    · obtain ⟨-, hnone, -⟩ := headsDropped_left c n f t
      obtain ⟨-, hheld, hfree⟩ := withdrawActuator c (t.modPos c f)
      have hhold : (Machine.headsDropped c n f t).ledger.hold (.actuator c) = min n (t.ledger.hold (.actuator c)) := by
        rw [State.modPos_ledger] at hheld
        rw [Machine.headsDropped, lowerHolding_eq, ← hheld]
        split
        · next hlt =>
          rw [reexamined_setLedger, tellGrants_ledger, State.setLedger_ledger, Ledger.reexamine, Ledger.grantHeads_hold, Ledger.setHold_hold]
          · omega
          · rw [Ledger.setHold_wait]
            exact Ledger.waits_eq_false.mp hfree
        · omega
      refine ⟨by rw [headsDropped_pos, hhold]; exact hf _ hx.draws, fun e he hb => ?_⟩
      exact absurd (List.mem_map.mpr ⟨e, he, hb⟩) (Ledger.waits_eq_false.mp hnone)
    · refine ActuatorSound.lower (ActuatorSound.withdraw ⟨by simpa using hx.draws, by simpa using hx.waits⟩ _) _ _ fun hb => ?_
      simp at hb

theorem endLoadWait (h : Powered s t) : Powered s (endLoadWait b t) := by
  unfold Machine.endLoadWait
  split
  · next hl =>
    have hp : (t.bay b).pos.state = .parked := by simp [loadWaiting] at hl; exact hl.1
    refine h.headsDropped 0 _ fun held hd => ?_
    rw [Positioner.drawsWithin_of_parked hp] at hd
    exact (Positioner.drawsWithin_of_parked hp).mpr hd
  · exact h

theorem failLoadWait (h : Powered s t) (x : Cause) : Powered s (failLoadWait b x t) := by
  unfold Machine.failLoadWait
  split
  · exact h.endLoadWait.completeIf _ _
  · exact h

theorem endPulse (h : Powered s t) : Powered s (endPulse b t) := (h.modCart _).lowerOther _ (by simp)

theorem cutPulse (h : Powered s t) : Powered s (cutPulse b t) := by
  unfold Machine.cutPulse
  split
  · exact h.endPulse
  · exact h

theorem judgeLatch (h : Powered s t) : Powered s (judgeLatch b t) := by
  unfold Machine.judgeLatch
  split
  · split
    · split
      · exact h
      · exact h.ask _ (by simp)
    · exact h.withdraw _
  · exact h

/-! #### The Spindle Controller -/

theorem spindleChanged (h : Powered s t) : Powered s (spindleChanged b t) := by
  unfold Machine.spindleChanged
  dsimp only
  refine judgeLatch (cutPulse ?_)
  split
  · exact h.speedLostUpdate.tryLoading
  · exact h.speedLostUpdate.failLoadWait _

theorem enterBraking (h : Powered s t) (p : BrakePurpose) : Powered s (enterBraking b p t) :=
  ((h.modSpin _).lowerOther _ (by simp)).spindleChanged

theorem enterStopped (h : Powered s t) : Powered s (enterStopped b t) := (h.modSpin _).spindleChanged

theorem enterSpinFault (h : Powered s t) : Powered s (enterSpinFault b t) := (h.modSpin _).spindleChanged

theorem abandonPower (h : Powered s t) : Powered s (abandonPower b t) := (h.withdraw _).enterStopped

theorem brakeOrder (h : Powered s t) : Powered s (brakeOrder b t) := by
  unfold Machine.brakeOrder
  split
  case h_4 => exact h.abandonPower
  case h_5 | h_6 | h_7 | h_8 | h_9 =>
    split
    · exact h.modSpin _
    · exact h.enterBraking _
  all_goals exact h

theorem cancelOnSpindle (h : Powered s t) : Powered s (cancelOnSpindle b t) := by
  unfold Machine.cancelOnSpindle
  split
  case h_1 => exact h.abandonPower
  case h_2 | h_3 | h_4 => exact h.enterBraking _
  case h_5 => exact h.modSpin _
  all_goals exact h

theorem cancelSpinUp (h : Powered s t) : Powered s (cancelSpinUp b t) := by
  unfold Machine.cancelSpinUp
  split
  · split
    · exact (h.complete _).cancelOnSpindle
    · exact h.cancelOnSpindle
  · exact h

theorem raiseOutcome (h : Powered s t) (x : Cause) : Powered s (raiseOutcome b x t) := h.close.fault x

theorem raiseFatal (h : Powered s t) (x : Cause) : Powered s (raiseFatal b x t) := by
  unfold Machine.raiseFatal
  dsimp only
  split
  · exact (h.raiseOutcome x).cancelOnSpindle
  · exact h.raiseOutcome x

theorem askPower (h : Powered s t) (n : Nat) : Powered s (askPower b n t) := ((h.modSpin _).spindleChanged).ask _ (by simp)

theorem beginAttempt (h : Powered s t) : Powered s (beginAttempt b t) := by
  unfold Machine.beginAttempt
  split
  · exact h.enterSpinFault.raiseFatal _
  · exact h.askPower 1

theorem platterStop (h : Powered s t) : Powered s (platterStop b t) := by
  unfold Machine.platterStop
  dsimp only
  split
  · exact (h.count _).askPower _
  · exact h.enterSpinFault.raiseFatal _
  · split
    · exact h.enterSpinFault.raiseFatal _
    · exact (h.enterSpinFault.completeIf _ _).completeIf _ _
  all_goals
    split
    · exact (h.modSpin _).beginAttempt
    · exact ((h.completeIf _ _).completeIf _ _).enterStopped

theorem lockEntry (h : Powered s t) : Powered s (lockEntry b t) := (((h.modSpin _).lowerOther _ (by simp)).completeIf _ _).spindleChanged

theorem moveLock (h : Powered s t) (goal : SpinState) : Powered s (moveLock b goal t) := (h.modSpin _).spindleChanged

theorem countRevolution (h : Powered s t) (i : Bool) : Powered s (countRevolution b i t) := by
  unfold Machine.countRevolution
  dsimp only
  split
  case h_1 => split <;> [exact h.lockEntry; exact h.modSpin _]
  case h_2 | h_6 => split <;> [exact h.moveLock _; exact h.modSpin _]
  case h_7 => exact h
  all_goals exact h.modSpin _

theorem judgeRevolution (h : Powered s t) (n : Nat) : Powered s (judgeRevolution b n t) := by
  unfold Machine.judgeRevolution
  dsimp only
  split
  case h_1 => split <;> [exact (h.modSpin _).spindleChanged; exact h]
  case h_5 => exact h
  all_goals exact (h.modSpin _).countRevolution _

theorem pulse (h : Powered s t) (n : Nat) : Powered s (pulse b n t) := by
  unfold Machine.pulse
  dsimp only
  split
  · exact (h.modSpin _).judgeRevolution _
  · exact h.modSpin _

theorem tachExpired (h : Powered s t) : Powered s (tachExpired b t) := by
  unfold Machine.tachExpired
  dsimp only
  split
  case h_1 => exact (h.modSpin _).platterStop
  case h_2 | h_3 | h_4 => exact ((h.modSpin _).modSpin _).countRevolution _
  all_goals exact h.modSpin _

theorem stageOver (h : Powered s t) : Powered s (stageOver b t) := by
  unfold Machine.stageOver
  split
  case h_1 => exact (h.modSpin _).spindleChanged
  case h_2 | h_3 => exact h.enterBraking _
  all_goals exact h

end Powered

end Sys2Proof.Machine
end

section
namespace Sys2Proof.Machine

variable {b : Bay} {s t u : State} {c : Consumer}

/-! #### The Positioner Controller -/

namespace Powered

theorem posChanged (h : Powered s t) : Powered s (posChanged b t) := by
  have reporting : ∀ u, Powered s u → Powered s (if (u.bay b).pos.state.loaded then u else clearQualified b (dropSauWork b u)) := by
    intro u hu
    split
    · exact hu
    · exact hu.dropSau.unqualify
  have ordered : ∀ (p : Bool) u, Powered s u → Powered s (if p then Machine.brakeOrder b u else u) := by
    intro p u hu
    split
    · exact hu.brakeOrder
    · exact hu
  exact (ordered _ _ (ordered _ _ (reporting t h).speedLostUpdate)).cutPulse.judgeLatch

theorem dropPending (h : Powered s t) : Powered s (dropPending b t) := (h.posKeep _ rfl rfl rfl).withdraw _

/-- R104, R107: at PARKED nothing is drawn, and nothing need be held. -/
theorem enterParked (h : Powered s t) : Powered s (enterParked b t) := by
  have hp : Powered s (lowerHolding (.actuator b) 0 (t.modPos b (Positioner.ended .parked))) := by
    refine (h.posMove _ (fun _ => ?_) fun _ => .inl rfl).lower 0 fun d hd _ _ => ?_
    · exact (Positioner.drawsWithin_of_parked rfl).mpr ⟨rfl, rfl⟩
    · obtain rfl : b = d := by simpa using hd
      rw [State.modPos_pos]
      exact (Positioner.drawsWithin_of_parked rfl).mpr ⟨rfl, rfl⟩
  exact ((hp.completeIf _ _).completeIf _ _).posChanged

/-- R104, R107: FAULT is entered from where nothing waits. -/
theorem enterPosFault (h : Powered s t) (hm : ¬(t.bay b).pos.state.MayWait) : Powered s (enterPosFault b t) := by
  have fault : ∀ n, ((t.bay b).pos.ended .fault).DrawsWithin n := fun n => ⟨fun hr => by simp [Positioner.ended] at hr, rfl, rfl⟩
  refine ((h.posMove (Positioner.ended .fault) (fun _ => fault _) fun hw => absurd hw hm).lower 0 fun d hd _ _ => ?_).posChanged
  obtain rfl : b = d := by simpa using hd
  rw [State.modPos_pos]
  exact fault 0

/-- R103, R104: -25 within the 30 at least that loaded heads hold. -/
theorem enterUnloading (h : Powered s t) (hl : (t.bay b).pos.state.loaded = true) : Powered s (enterUnloading b t) := by
  have hu : Powered s (unloadBegun b t) := by
    refine (h.headsDropped 60 _ fun held hd => ?_).posChanged
    obtain ⟨-, -, hheld⟩ := (Positioner.drawsWithin_of_loaded hl).mp hd
    exact ⟨fun _ => show 25 ≤ min 60 held by omega, rfl, rfl, by omega⟩
  rw [enterUnloading_begun]
  split
  · exact hu.enterParked
  · exact hu

theorem unloadOrder (h : Powered s t) : Powered s (unloadOrder b t) := by
  unfold Machine.unloadOrder
  split
  · next hl => exact h.enterUnloading hl
  · split
    · exact h.endLoadWait
    · exact h

/-- R107: -60 from the reserve, with nothing held. -/
theorem enterRetracting (h : Powered s t) : Powered s (enterRetracting b t) := by
  have hu : Powered s (retractBegun b t) :=
    (h.headsDropped 0 Positioner.retracting fun _ _ => ⟨fun hr => by simp [Positioner.retracting] at hr, rfl, rfl⟩).posChanged
  rw [enterRetracting_begun]
  split
  · exact hu.enterParked
  · exact hu

theorem retractOrder (h : Powered s t) : Powered s (retractOrder b t) := by
  unfold Machine.retractOrder
  split
  · exact h.endLoadWait
  · exact h
  · exact h.enterRetracting

theorem stopLoad (h : Powered s t) : Powered s (stopLoad b t) := by
  unfold Machine.stopLoad
  split
  · exact h.endLoadWait.completeIf _ _
  · split
    · exact h.unloadOrder
    · exact h

/-- R100, R109: SETTLING on another target, from SEEKING or SETTLING. -/
theorem settleOn (h : Powered s t) (hr : seekRunning b t = true) (n : Nat) (f : Positioner → Positioner)
    (hf : ∀ p, (f p).state = .settling ∧ (f p).act = p.act ∧ (f p).source = p.source) : Powered s ((Machine.setTarget b n t).modPos b f) := by
  obtain ⟨hs, ha, hsrc⟩ := hf ((Machine.setTarget b n t).bay b).pos
  refine (h.setTarget n).posLoaded f ?_ (by rw [hs]; rfl) (by rw [ha]) hsrc
  rw [setTarget_pos_state]
  simp only [seekRunning, Bool.or_eq_true, decide_eq_true_eq] at hr
  rcases hr with e | e <;> rw [e] <;> rfl

theorem abortSeek (h : Powered s t) : Powered s (abortSeek b t) := by
  unfold Machine.abortSeek
  split
  · exact h.dropPending.completeIf _ _
  · split
    · next hr =>
      unfold Machine.settleAborted
      refine h.settleOn hr _ _ ?_
      exact fun _ => ⟨rfl, rfl, rfl⟩
    · exact h

theorem abortPositioner (h : Powered s t) : Powered s (abortPositioner b t) := by
  unfold Machine.abortPositioner
  split
  · exact h.stopLoad
  · split
    · exact h.abortSeek
    · exact h

theorem stopByUnload (h : Powered s t) : Powered s (stopByUnload b t) := by
  unfold Machine.stopByUnload
  split
  · exact h.stopLoad
  · split
    · exact h.unloadOrder
    · exact h

theorem faultAndUnload (h : Powered s t) (x : Cause) : Powered s (faultAndUnload b x t) := (h.raiseFatal x).unloadOrder

/-- R97, R101: the 60 to 100 are asked for with the heads loaded. -/
theorem askSeek (h : Powered s t) (hl : (t.bay b).pos.state.loaded = true) : Powered s (askSeek b t) :=
  h.ask _ fun d hd => ⟨.inr rfl, by obtain rfl : b = d := by simpa using hd
                                    exact .inr hl⟩

theorem offTrackMark (h : Powered s t) (hl : (t.bay b).pos.state.loaded = true) : Powered s (offTrackMark b t) := by
  unfold Machine.offTrackMark
  split
  · exact ((h.close.count _).posKeep _ rfl rfl rfl).askSeek (by simpa using hl)
  · exact h.faultAndUnload _

theorem reserveDisqualified (h : Powered s t) : Powered s (reserveDisqualified b t) := by
  unfold Machine.reserveDisqualified
  split
  · exact h.faultAndUnload _
  · split
    · exact h.failLoadWait _
    · exact h

/-! #### Wedges -/

theorem invalidWedge (h : Powered s t) : Powered s (invalidWedge b t) := by
  unfold Machine.invalidWedge
  split
  · split
    · exact ((h.posKeep _ rfl rfl rfl).count _).faultAndUnload _
    · refine h.posKeep _ ?_ ?_ ?_ <;> dsimp only <;> split <;> rfl
  · exact h

theorem impliedWedges (n : Nat) (h : Powered s t) : Powered s (impliedWedges b n t) := by
  induction n generalizing t with
  | zero => exact h
  | succ n ih => exact ih h.invalidWedge

theorem acquisitionComplete (h : Powered s t) (hp : (t.bay b).pos.state = .acquiring) : Powered s (acquisitionComplete b t) := by
  refine ((h.setTarget _).unqualify.posLoaded _ ?_ rfl le_rfl rfl).completeIf _ _
  rw [clearQualified, State.modGate_pos, setTarget_pos_state, hp]
  rfl

/-- R55, R99: loaded heads give back what they hold beyond the 30, their code within it. -/
theorem keepFollow (h : Powered s t) (hl : (t.bay b).pos.state.loaded = true) (ha : (t.bay b).pos.act.natAbs ≤ 30) :
    Powered s (lowerHolding (.actuator b) Const.followUnits t) :=
  h.lower 30 fun d hd hx _ => by
    obtain rfl : b = d := by simpa using hd
    exact (Positioner.drawsWithin_of_loaded hl).mpr ⟨((Positioner.drawsWithin_of_loaded hl).mp hx.draws).1, ha, le_rfl⟩

theorem settled (h : Powered s t) (hp : (t.bay b).pos.state = .settling) : Powered s (settled b t) := by
  have hl : (t.bay b).pos.state.loaded = true := by rw [hp]; rfl
  have hclamp : Powered s (clampAct b Const.followUnits t) := h.posLoaded _ hl hl (clampInt_natAbs_le 30 _).2 rfl
  have hfollow := hclamp.posLoaded (b := b) (fun p =>
    { p with state := .following, seekTimer := none, settle := 3, offTrack := 0, clean := 0, servoLost := 0, owner := .none })
    (by simp [clampAct, hp, PosState.loaded]) rfl le_rfl rfl
  have hact := (clampInt_natAbs_le 30 (t.bay b).pos.act).1
  unfold Machine.settled
  dsimp only
  split
  · exact (hfollow.completeIf _ _).keepFollow (by simp [PosState.loaded]) (by simpa [clampAct] using hact)
  · exact (hfollow.completeIf _ _).keepFollow (by simp [PosState.loaded]) (by simpa [clampAct] using hact)
  all_goals exact hfollow.keepFollow (by simp [PosState.loaded]) (by simpa [clampAct] using hact)

theorem followWedge (h : Powered s t) (e : Int) (hl : (t.bay b).pos.state.loaded = true) : Powered s (followWedge b e t) := by
  unfold Machine.followWedge
  dsimp only
  split
  · exact h.posKeep _ rfl rfl rfl
  · split
    · split
      · exact (h.posKeep _ rfl rfl rfl).offTrackMark (by simpa using hl)
      · exact h.posKeep _ rfl rfl rfl
    · split <;> exact h.posKeep _ rfl rfl rfl

theorem validWedge (h : Powered s t) (e : Int) (a : Bool) : Powered s (validWedge b e a t) := by
  have kept : Powered s (t.modPos b fun p => { p with servoLost := 0 }) := h.posKeep _ rfl rfl rfl
  unfold Machine.validWedge
  split
  case h_1 hp => exact h.posLoaded _ (by rw [hp]; rfl) rfl le_rfl rfl
  case h_2 hp =>
    dsimp only
    split
    · exact kept.acquisitionComplete (by simp [hp])
    · exact kept.posKeep _ rfl rfl rfl
  case h_3 hp => exact kept.followWedge e (by simp [hp, PosState.loaded])
  case h_4 hp => refine h.posLoaded _ (by rw [hp]; rfl) ?_ ?_ ?_ <;> split <;> simp [hp, PosState.loaded]
  case h_5 hp =>
    dsimp only
    split
    · split
      · exact kept.settled (by simp [hp])
      · exact kept.posKeep _ rfl rfl rfl
    · exact kept.posKeep _ rfl rfl rfl
  all_goals exact h

theorem countWedges (h : Powered s t) (r : WedgeResult) : Powered s (countWedges b r t) := by
  unfold Machine.countWedges
  dsimp only
  split
  · split
    · exact (h.impliedWedges _).validWedge _ _
    · exact (h.impliedWedges _).invalidWedge
  · exact h.impliedWedges _

/-! #### Timers and the PARK switch -/

theorem loadWaitOver (h : Powered s t) : Powered s (loadWaitOver b t) := by
  unfold Machine.loadWaitOver
  dsimp only
  split
  · exact h.posKeep _ rfl rfl rfl
  · exact (h.posKeep _ rfl rfl rfl).failLoadWait _

theorem seekTimedOut (h : Powered s t) (hr : seekRunning b t = true) : Powered s (seekTimedOut b t) := by
  have settling : ∀ v, Powered s v → seekRunning b v = true → Powered s ((Machine.setTarget b (nearestTrack b v) v).modPos b fun p =>
      { p with state := .settling, settle := 0, seekTimer := none, owner := .none }) := fun v hv hr => by
    refine hv.settleOn hr _ _ ?_
    exact fun _ => ⟨rfl, rfl, rfl⟩
  have hs := settling _ (h.count (b := b) fun c => { c with seekTimeouts := Machine.count c.seekTimeouts }) (by simpa [seekRunning] using hr)
  unfold Machine.seekTimedOut
  dsimp only
  split
  · exact hs.completeIf _ _
  · exact hs

/-- The heads on their way to the ramp run out of time: a fatal outcome leaves them where they are, and nothing waits for them. -/
theorem headsRunOut (h : Powered s t) (x : Cause) (hp : (t.bay b).pos.state = .unloading ∨ (t.bay b).pos.state = .retracting) :
    Powered s (Machine.enterPosFault b (Machine.raiseFatal b x t)) := by
  have hoff : HeadsOff b t := by rcases hp with e | e <;> exact ⟨by rw [e]; rfl, fun hw => by simp [loadWaiting, e] at hw⟩
  refine (h.raiseFatal x).enterPosFault ?_
  rw [((Calm.refl (.inr hoff)).raiseFatal x).state]
  rcases hp with e | e <;> simp [e, PosState.MayWait, PosState.loaded]

theorem parkReached (h : Powered s t) : Powered s (parkReached b t) := by
  unfold Machine.parkReached
  split
  · exact h.enterParked
  · exact h.enterParked
  all_goals exact h

theorem parkLost (h : Powered s t) : Powered s (parkLost b t) := by
  unfold Machine.parkLost
  split
  · exact (h.failLoadWait _).enterRetracting
  · exact h

end Powered

end Sys2Proof.Machine
end

section
namespace Sys2Proof.Machine

variable {b : Bay} {s t u : State} {c : Consumer}

/-! #### Releases, resets, takings and the end of an event -/

namespace Powered

theorem orderToRest (h : Powered s t) : Powered s (orderToRest b t) := by
  have headsFirst : Powered s (if (t.bay b).pos.state.loaded then Machine.unloadOrder b t else t) := by
    split
    · exact h.unloadOrder
    · exact h
  have platterSecond : ∀ (p : Bool) u, Powered s u → Powered s (if p then Machine.brakeOrder b u else u) := by
    intro p u hu
    split
    · exact hu.brakeOrder
    · exact hu
  exact (platterSecond _ _ headsFirst).judgeLatch

theorem requestRelease (h : Powered s t) : Powered s (requestRelease b t) := by
  have accepted : Powered s (acceptRelease b t) := ((h.changeCart _).close.cancel).cancelSpinUp.stopByUnload.orderToRest
  unfold Machine.requestRelease
  split
  · exact accepted
  · exact accepted
  all_goals exact h

theorem dropLatch (h : Powered s t) : Powered s (dropLatch b t) := (h.lowerOther _ (by simp)).withdraw _

theorem resetSpindle (h : Powered s t) : Powered s (resetSpindle b t) := by
  unfold Machine.resetSpindle
  split
  · exact h.modSpin _
  · exact h.enterBraking _
  all_goals exact h.brakeOrder

theorem resetPositioner (h : Powered s t) : Powered s (resetPositioner b t) := by
  unfold Machine.resetPositioner
  dsimp only
  refine posKeep ?_ _ rfl rfl rfl
  split
  · exact h.enterRetracting
  · exact h.unloadOrder

theorem resetBlocks (h : Powered s t) : Powered s (resetBlocks b t) := ((h.changeSched _).changeCart _).resetPositioner.resetSpindle

theorem gate (h : Powered s t) (b : Bay) : Powered s (judgeGate b t) := h.same (by simp) (by simp) (by simp)

theorem beginSeek (h : Powered s t) (track head : Nat) (hl : (t.bay b).pos.state.loaded = true) : Powered s (beginSeek b track head t) :=
  (h.posKeep _ rfl rfl rfl).askSeek (by simpa using hl)

/-- R150: what an operation does at its taking. -/
theorem startOp (h : Powered s t) (k : OpKind) : Powered s (startOp b k t) := by
  cases k with
  | spinUp =>
    simp only [Machine.startOp, takeSpinUp]
    split
    · exact h.complete _
    · split
      · exact h.beginAttempt
      · exact h.complete _
      · exact h.complete _
      · exact h.modSpin _
      · exact h.raiseFatal _
      all_goals exact h
  | spinDown =>
    have hu : Powered s (if ((closeWindow b t).bay b).pos.state.loaded then Machine.unloadOrder b (closeWindow b t) else closeWindow b t) := by
      split
      · exact h.close.unloadOrder
      · exact h.close
    simp only [Machine.startOp, takeSpinDown]
    split
    · exact h.close.complete _
    · exact h.close.complete _
    · exact h.close
    all_goals exact hu.brakeOrder
  | loadHeads =>
    simp only [Machine.startOp, takeLoadHeads]
    split
    case h_9 hp =>
      split
      · refine (h.posKeep _ rfl rfl rfl).ask _ fun d hd => ⟨.inl rfl, .inl ?_⟩
        obtain rfl : b = d := by simpa using hd
        simpa using hp
      · exact h.complete _
    all_goals exact h.complete _
  | unloadHeads =>
    simp only [Machine.startOp, takeUnloadHeads]
    split
    · exact h.close.complete _
    · exact h.close.complete _
    · exact h.close
    · exact h.close
    all_goals exact h.close.unloadOrder
  | seek track head =>
    simp only [Machine.startOp, takeSeek]
    split
    case h_1 hp =>
      split
      · exact h.close.complete _
      · exact h.close.beginSeek _ _ (by rw [hp]; rfl)
    case h_2 hp =>
      split
      · exact h.close.posKeep _ rfl rfl rfl
      · exact h.close.beginSeek _ _ (by rw [hp]; rfl)
    all_goals exact h.close.complete _
  | openWrite =>
    simp only [Machine.startOp, takeOpenWrite]
    split
    · exact h.complete _
    · split
      · exact (h.modGate _).complete _
      · exact h.complete _
  | closeWrite => exact h.close.complete _
  | eject => exact h.requestRelease

theorem takeRun (n : Nat) (h : Powered s t) : Powered s (takeRun b n t) := by
  induction n generalizing t with
  | zero => exact h
  | succ n ih =>
    unfold Machine.takeRun
    split
    · split
      · exact h
      · exact ih ((((h.changeSched _).startOp _).gate .A).gate .B)
    · exact h

theorem settle (h : Powered s t) : Powered s (settle t) := (((h.gate .A).gate .B).takeRun _).takeRun _

/-- A part reset leaves the ledger empty, and each actuator drawing nothing or from the reserve (R62, R112). -/
theorem reset (h : Powered s t) : Powered s (partReset t) := by
  refine h.trans ⟨fun _ => ⟨by simp [partReset, State.reset, Ledger.reset, Ledger.sum, Holdings.sum], rfl⟩, fun b _ => ⟨?_, nofun⟩⟩
  rw [partReset_bay]
  rcases (t.bay b).pins with ⟨pres, btn, _ | _, wgate⟩
  · exact ⟨nofun, rfl, rfl⟩
  · exact ⟨nofun, rfl, rfl⟩

/-! #### The supply, the reserve and the spindle current -/

theorem spindleOnFail (h : Powered s t) : Powered s (spindleOnFail b t) := by
  unfold Machine.spindleOnFail
  split
  case h_1 => exact h.abandonPower
  case h_2 | h_3 | h_4 => exact h.enterBraking _
  case h_5 | h_6 => exact h.brakeOrder
  case h_7 => exact h.modSpin _
  all_goals exact h

theorem supplyFailBay (h : Powered s t) (b : Bay) : Powered s (supplyFailBay b t) := by
  have abandoned : Powered s (abandonCycle b t) := by
    unfold abandonCycle
    split
    · exact (h.changeCart _).dropLatch
    · exact h
  exact ((abandoned.raiseFatal _).retractOrder).spindleOnFail

/-- A capacity not below the sum and the supply in a state, E as they give it, some entries gone (R58 to R60). -/
theorem recast (h : Powered s t) {n : Nat} {x : SupplyState} {w : List WaitEntry} (hp : ∀ c, (u.bay c).pos = (t.bay c).pos)
    (hx : u.supply.state = x) (hn : LedgerSound t → t.ledger.sum ≤ n) (hw : w ⊆ t.ledger.wait)
    (hl : u.ledger = { t.ledger with capacity := n, effective := effectiveOf n x, wait := w }) : Powered s u := by
  refine h.trans ⟨fun hs => ?_, fun b hs => ⟨?_, ?_⟩⟩
  · rw [LedgerSound, hl, hx]
    exact ⟨hn hs, rfl⟩
  · rw [hp, hl]
    simpa [Ledger.hold] using hs.draws
  · rw [hp, hl]
    exact fun e he => hs.waits e (hw he)

theorem changeSupply (h : Powered s t) (x : SupplyState) : Powered s (changeSupply x t) := by
  have judged : ∀ {v : State} (y : SupplyState), (∀ c, (v.bay c).pos = (t.bay c).pos) → v.ledger = t.ledger → v.supply.state = y →
      Powered s (Machine.reexamined (v.setLedger { v.ledger with effective := effectiveOf v.ledger.capacity y })) := by
    intro v y hp hl hy
    refine (h.recast (n := t.ledger.capacity) (x := y) (w := t.ledger.wait) ?_ ?_ (·.1) (List.Subset.refl _) ?_).reexamined
    · simpa using hp
    · simpa using hy
    · simp [hl]
  unfold Machine.changeSupply
  dsimp only
  split
  · refine ((h.recast (n := t.ledger.capacity) (x := .fail) (w := []) ?_ ?_ (·.1) (List.nil_subset _) ?_).supplyFailBay .A).supplyFailBay .B
    · simp [countPart]
    · rfl
    · rfl
  · refine judged _ ?_ rfl rfl
    simp [countPart]
  · exact judged _ (by simp) rfl rfl

theorem spindleOvercurrent (h : Powered s t) : Powered s (spindleOvercurrent b t) := by
  have braked : Powered s (Machine.brakeOvercurrent b (Machine.raiseOutcome b .overcurrent t)) := by
    have hr := ((h.raiseOutcome (b := b) .overcurrent).modSpin (b := b) (Spindle.driven 0)).retractOrder (b := b)
    unfold Machine.brakeOvercurrent
    dsimp only
    split
    · exact hr.modSpin _
    · exact hr.enterBraking _
  unfold Machine.spindleOvercurrent
  split
  case h_6 => exact ((h.raiseOutcome _).withdraw _).enterSpinFault
  case h_7 => exact (h.modSpin _).raiseFatal _
  case h_8 | h_9 => exact h
  all_goals exact braked

/-- A change of neither bay. -/
theorem ofBay (h : Powered s t) (hb : ∀ c, u.bay c = t.bay c) (hl : u.ledger = t.ledger) (hs : u.supply.state = t.supply.state) : Powered s u :=
  h.same (fun c => by rw [hb]) hl hs

theorem latchEvent (h : Powered s t) (x : LatchedClass) : Powered s (latchEvent x t) := h.ofBay (by simp) (by simp) (by simp)

theorem judgeCurrent (h : Powered s t) (b : Bay) (v : Nat) : Powered s (judgeCurrent b v t) := by
  unfold Machine.judgeCurrent
  dsimp only
  split
  · exact h.modMon _
  · split
    · exact h.modMon _
    · split
      · exact ((h.modMon _).latchEvent _).spindleOvercurrent
      · exact h.modMon _

theorem judgeReserve (h : Powered s t) (b : Bay) (v : Nat) : Powered s (judgeReserve b v t) := by
  unfold Machine.judgeReserve
  dsimp only
  split
  · split
    · exact (h.modMon _).reserveDisqualified
    · exact h
  · split
    · split
      · exact (h.modMon _).tryLoading
      · exact h.modMon _
    · exact h.modMon _

/-- Samples judged leave the state of the supply but by a change of it. -/
theorem setSupply (h : Powered s t) {x : Supply} (hx : x.state = t.supply.state) : Powered s (t.setSupply x) :=
  h.ofBay (by simp) (by simp) (by simpa using hx)

theorem judgeSample (h : Powered s t) (position v : Nat) : Powered s (judgeSample position v t) := by
  unfold Machine.judgeSample
  split
  · unfold judge12
    dsimp only
    split
    · exact h.setSupply rfl
    · refine changeSupply (h.setSupply ?_) _
      rfl
  · unfold judge5
    dsimp only
    split
    · split
      · split
        · refine changeSupply (h.setSupply ?_) _
          rfl
        · exact h.setSupply rfl
      · exact h.setSupply rfl
    · split
      · exact h.changeSupply _
      · exact h
  · exact h.judgeReserve .A v
  · exact h.judgeReserve .B v
  · exact h.judgeCurrent .A v
  · exact h.judgeCurrent .B v
  · exact h

end Powered

end Sys2Proof.Machine
end

section
namespace Sys2Proof.Machine

variable {b : Bay} {s t u : State}

/-! #### Requests, the link and the events -/

/-- R81: the code a computation gives is within the actuator's holding. -/
theorem clampCode_natAbs_le (held : Nat) (x : Int) : (clampCode held x).natAbs ≤ held :=
  (clampInt_natAbs_le 127 _).2.trans (clampInt_natAbs_le held x).1

namespace Powered

theorem modLink (h : Powered s t) (f : Link → Link) : Powered s (t.modLink f) := h.ofBay (by simp) (by simp) (by simp)

theorem modSense (h : Powered s t) (f : Sense → Sense) : Powered s (t.modSense f) := h.ofBay (by simp) (by simp) (by simp)

theorem modStore (h : Powered s t) (f : Store → Store) : Powered s (t.modStore f) := h.ofBay (by simp) (by simp) (by simp)

theorem setSau (h : Powered s t) (x : Option Computation) : Powered s (t.setSau x) := h.ofBay (by simp) (by simp) (by simp)

theorem countPart (h : Powered s t) (f : PartCounters → PartCounters) : Powered s (countPart f t) :=
  h.ofBay (by simp [Machine.countPart]) rfl rfl

theorem reply (h : Powered s t) (kind : Nat) (code bay : Byte) (payload : List Byte) : Powered s (reply kind code bay payload t) :=
  h.modLink _

theorem done (h : Powered s t) (code bay : Byte) (payload : List Byte) : Powered s (done code bay payload t) := h.reply _ _ _ _

theorem modPins (h : Powered s t) (f : BayPins → BayPins) : Powered s (t.modPins b f) := h.setBay rfl

theorem modDemod (h : Powered s t) (f : Demod → Demod) : Powered s (t.modDemod b f) := h.setBay rfl

theorem modSlot (h : Powered s t) (f : Option Report → Option Report) : Powered s (t.modSlot b f) := h.setBay rfl

theorem modGains (h : Powered s t) (f : Gains → Gains) : Powered s (t.modGains b f) := h.setBay rfl

theorem refuseRecording (h : Powered s t) (code bay : Byte) (r : RefusalRecord) : Powered s (refuseRecording code bay r t) :=
  h.ofBay (by simp [Machine.refuseRecording, Machine.reply, Machine.countPart]) rfl rfl

theorem refuse (h : Powered s t) (code bay : Byte) (r : Reason) : Powered s (refuse code bay r t) := h.refuseRecording _ _ _

theorem requestOp (h : Powered s t) (b : Bay) (k : OpKind) : Powered s (requestOp b k t) := by
  unfold Machine.requestOp
  split
  · exact h.refuse _ _ _
  · unfold acceptOp queued advanceTag
    have hq := h.modSched (b := b) fun x => { x with queue := x.queue ++ [⟨t.nextTag, k⟩] }
    exact ((hq.ofBay (by simp) (by simp) (by simp)).reply _ _ _ _).settle

/-- R58: the consumers of the entries above the capacity are told so. -/
theorem tellAllNoBudget (cs : List Consumer) (h : Powered s t) : Powered s (tellAllNoBudget cs t) := by
  induction cs generalizing t with
  | nil => exact h
  | cons c cs ih => exact ih (h.tellNoBudget c)

/-- R58: a capacity that is not below the sum. -/
theorem takeCapacity (h : Powered s t) {n : Nat} (hn : t.ledger.sum ≤ n) : Powered s (takeCapacity n t) := by
  have taken : Powered s (t.setLedger (t.ledger.take n t.supply.state).1) := by
    refine h.recast (x := t.supply.state) (fun c => ?_) ?_ (fun _ => hn) (List.filter_subset_self _) rfl
    · rw [State.setLedger_bay]
    · rw [State.setLedger_supply]
  exact (taken.tellAllNoBudget _).reexamined

theorem requestSetBudget (h : Powered s t) (n : BitVec 16) : Powered s (requestSetBudget n t) := by
  unfold Machine.requestSetBudget
  dsimp only
  split
  · exact h.refuse _ _ _
  · next hn => exact ((h.takeCapacity (Nat.le_of_not_lt hn)).done _ _ _).settle

theorem installList (h : Powered s t) (l : List (Option SenseEntry)) : Powered s (installList l t) := by
  unfold Machine.installList
  exact (h.modStore _).modSense _

theorem requestWriteSenseList (h : Powered s t) (items : List SenseItem) : Powered s (requestWriteSenseList items t) := by
  unfold Machine.requestWriteSenseList writeList
  split
  · exact h.refuse _ _ _
  · split
    · exact h.refuse _ _ _
    · split
      · exact (h.modSense _).done _ _ _
      · exact (h.installList _).done _ _ _

theorem requestReadSamples (h : Powered s t) (selector first : Byte) : Powered s (requestReadSamples selector first t) := by
  unfold Machine.requestReadSamples
  dsimp only
  split
  · exact Powered.done (h.ofBay (by simp) (by rfl) (by rfl)) _ _ _
  · split
    · exact (h.modStore _).done _ _ _
    · exact h.refuse _ _ _

/-- R166: a request handed to its owning block. -/
theorem takeRequest (h : Powered s t) (i : Instr) : Powered s (takeRequest i t) := by
  cases i with
  | spinUp b | spinDown b | loadHeads b | unloadHeads b | seek b _ _ | openWrite b | closeWrite b | eject b => exact h.requestOp b _
  | haltBay b => exact (h.changeSched _).done _ _ _
  | runBay b => exact ((h.changeSched _).done _ _ _).settle
  | setStepMode b on => exact (h.modSched _).done _ _ _
  | abortBay b => exact (h.cancel.cancelSpinUp.abortPositioner.done _ _ _).settle
  | bayReset b => exact (h.close.cancel.cancelSpinUp.stopByUnload.resetBlocks.done _ _ _).settle
  | setPrevent b on =>
    simp only [Machine.takeRequest, requestSetPrevent]
    split
    · exact h.refuse _ _ _
    · exact h.refuse _ _ _
    all_goals exact (h.modCart _).done _ _ _
  | setTrim b trim => exact (h.modSpin _).done _ _ _
  | setGains b kv kp kd limit => exact (((h.modGains _).modGate _).gate b).done _ _ _
  | setBudget c => exact h.requestSetBudget c
  | writeProfile ds =>
    simp only [Machine.takeRequest, requestWriteProfile]
    split
    · exact h.refuse _ _ _
    · split
      · exact h.refuse _ _ _
      · exact Powered.done (h.ofBay (by simp) (by rfl) (by rfl)) _ _ _
  | writeSenseList es => exact h.requestWriteSenseList es
  | readSamples selector first => exact h.requestReadSamples selector first
  | setSampleMode mode interval =>
    simp only [Machine.takeRequest, requestSetSampleMode]
    split
    · exact h.refuse _ _ _
    · exact ((h.modSense _).modStore _).done _ _ _
  | setLimits f l sg rc rl ro oc =>
    simp only [Machine.takeRequest, requestSetLimits]
    split
    · refine (h.setSupply ?_).done _ _ _
      rfl
    · exact h.refuse _ _ _
  | resumeSense => exact (h.modSense _).done _ _ _
  | sampleNow channel gain =>
    simp only [Machine.takeRequest, requestSampleNow]
    exact (h.modSense _).modLink _
  | clearEvents x =>
    simp only [Machine.takeRequest, requestClearEvents]
    exact Powered.done (h.ofBay (by simp [clearClasses, refreshAttn]) (by rfl) (by rfl)) _ _ _
  | setEventMask x =>
    simp only [Machine.takeRequest, requestSetEventMask]
    exact Powered.done (h.ofBay (by simp [refreshAttn]) (by rfl) (by rfl)) _ _ _
  | readCounters => exact (((h.count _).count _).countPart _).done _ _ _
  | readRefusals =>
    simp only [Machine.takeRequest, requestReadRefusals]
    exact Powered.done (h.ofBay (by simp) (by rfl) (by rfl)) _ _ _
  | readCompletions =>
    simp only [Machine.takeRequest, requestReadCompletions]
    exact Powered.done (h.ofBay (by simp [refreshAttn]) (by rfl) (by rfl)) _ _ _
  | resetPart =>
    simp only [Machine.takeRequest, requestResetPart]
    exact (h.done _ _ _).modLink _
  | readProfile _ | readSenseList | identify | readStatus _ | readEvents => exact h.done _ _ _
  | _ => exact h

theorem releaseFrame (h : Powered s t) : Powered s (releaseFrame t) := h.modLink _

theorem endFrame (h : Powered s t) : Powered s (endFrame t) := by
  unfold Machine.endFrame
  split
  · exact h.takeRequest _
  · exact h.refuseRecording _ _ _

theorem lfrmReleased (h : Powered s t) : Powered s (lfrmReleased t) := by
  unfold Machine.lfrmReleased
  split
  · exact h
  · split
    · exact h.releaseFrame.endFrame
    · exact h.releaseFrame

/-- A whole frame (log entry 3). -/
theorem deliver (h : Powered s t) (frame : List Byte) {f : State → State} (hf : ∀ u, Powered s u → Powered s (f u)) :
    Powered s (deliver frame f t) := by
  unfold Machine.deliver
  split
  · exact h
  · split
    · exact h.releaseFrame
    · split
      · exact h.reset.releaseFrame
      · split
        · exact hf _ (h.modLink _)
        · exact h.releaseFrame.endFrame

theorem readStrobe (h : Powered s t) : Powered s (readStrobe t) := by
  unfold Machine.readStrobe
  split
  · dsimp only
    split
    · split
      · exact (h.modLink _).reset
      · exact (h.modLink _).modLink _
    · exact h.modLink _
  · exact h

theorem writeStrobe (h : Powered s t) (x : Byte) : Powered s (writeStrobe x t) := by
  unfold Machine.writeStrobe
  split
  · exact h
  · split
    · exact h.modLink _
    · exact h.modLink _
    · split
      · exact h.reset
      · exact h.modLink _
    · exact h.modLink _

theorem strobe (h : Powered s t) (ldir lfrm : Bool) (x : Byte) : Powered s (strobe ldir lfrm x t) := by
  unfold Machine.strobe
  split
  · exact h
  · dsimp only
    split
    · exact (h.modLink _).readStrobe
    · split
      · exact (h.modLink _).writeStrobe x
      · exact h.modLink _

theorem judgeWithheld (h : Powered s t) : Powered s (judgeWithheld t) := by
  unfold Machine.judgeWithheld
  split
  · exact h
  · dsimp only
    split
    · exact (h.modLink _).writeStrobe _
    · exact h.modLink _

/-! #### Events -/

theorem presenceFall (h : Powered s t) : Powered s (presenceFall b t) := by
  have gone : Powered s (Machine.dropLatch b (enterEmpty b t)) := dropLatch (cancel (close ((h.modCart _).latchEvent _)))
  have leaves : Powered s (cartridgeLeaves b t) := (gone.completeIf _ _).modCart _
  have loss : Powered s (presenceLoss b t) := by
    unfold presenceLoss
    dsimp only
    split
    · exact (gone.complete _).modCart _
    · exact (gone.raiseFatal _).retractOrder.brakeOrder
  unfold Machine.presenceFall
  split
  · exact h
  · exact h.changeCart _
  · exact loss
  · exact loss
  · split
    · exact loss
    · exact leaves
  · exact leaves

theorem longPressAction (h : Powered s t) : Powered s (longPressAction b t) := by
  unfold Machine.longPressAction
  split
  · exact ((h.modCart _).latchEvent _).requestRelease
  · exact h.requestRelease

theorem buttonStable (h : Powered s t) : Powered s (buttonStable b t) := by
  have hr : Powered s (t.modCart b fun c => { c with levelTimer := none, pressed := false, pressTimer := none }) := h.modCart _
  unfold Machine.buttonStable shortPress
  split
  · dsimp only
    split
    · split
      · exact hr.latchEvent _
      · exact hr.requestRelease
    · exact hr
  · exact h.modCart _

theorem waitOver (h : Powered s t) : Powered s (waitOver b t) := by
  unfold Machine.waitOver
  split
  · exact (h.changeCart _).judgeLatch
  · exact (h.changeCart _).raiseFatal _

theorem openScan (h : Powered s t) : Powered s (openScan t) := by
  unfold Machine.openScan
  dsimp only
  refine modSense ?_ _
  split
  · exact (h.modSense _).installList _
  · exact h.modSense _

theorem goOn (h : Powered s t) (goal : Option Nat) : Powered s (goOn goal t) := by
  unfold Machine.goOn
  dsimp only
  refine modSense ?_ _
  split
  · exact h.modSense _
  · split
    · exact (h.modSense _).openScan
    · exact h.modSense _

theorem storeSample (h : Powered s t) (position channel v : Nat) : Powered s (storeSample position channel v t) := by
  unfold Machine.storeSample storeImage storeHistory
  split
  · exact h.modStore _
  · dsimp only
    split
    · exact h.modStore _
    · exact ((h.modStore _).countPart _).latchEvent _

theorem actOnMarks (h : Powered s t) (e : SenseEntry) : Powered s (actOnMarks e t) := by
  unfold Machine.actOnMarks
  dsimp only
  split <;> split
  · exact (h.latchEvent _).modSense _
  · exact h.modSense _
  · exact h.latchEvent _
  · exact h

theorem listCompletion (h : Powered s t) (position : Nat) (raw : BitVec 10) : Powered s (listCompletion position raw t) := by
  unfold Machine.listCompletion
  split
  · exact h
  · exact (((h.storeSample _ _ _).judgeSample _ _).actOnMarks _).goOn _

theorem scanDueNow (h : Powered s t) : Powered s (scanDueNow t) := by
  unfold Machine.scanDueNow beginScan
  dsimp only
  split
  · exact (h.modSense _).modSense _
  · exact (h.modSense _).openScan.modSense _

theorem windowEnds (h : Powered s t) (n : Nat) (track : Option Nat) (burstA burstB : Nat) :
    Powered s (windowEnds b n track burstA burstB t) := by
  unfold Machine.windowEnds reportArrives
  dsimp only
  split
  · split
    · exact (h.modDemod _).setSau _
    · split
      · exact ((h.modDemod _).count _).modSlot _
      · exact (h.modDemod _).modSlot _
  · exact h.modDemod _

theorem takeSlot (h : Powered s t) (c : Bay) (ht : takeSlot c t = some u) : Powered s u := by
  unfold Machine.takeSlot at ht
  rw [Option.map_eq_some_iff] at ht
  obtain ⟨r, -, rfl⟩ := ht
  exact (h.setSau _).modSlot _

theorem chooseNext (h : Powered s t) (c : Bay) : Powered s (chooseNext c t) := by
  unfold Machine.chooseNext
  split
  · next ht => exact h.takeSlot _ ht
  · split
    · next ht => exact h.takeSlot _ ht
    · exact h.setSau _

/-- R81, R82: an applied completion writes a code within the holding. -/
theorem applyCompletion (h : Powered s t) (c : Computation) (hl : (t.bay c.bay).pos.state.loaded = true) :
    Powered s (applyCompletion c t) := by
  have hact : (resultOf c t).servo.I.natAbs ≤ t.hold (.actuator c.bay) := clampCode_natAbs_le _ _
  have hp : Powered s ((t.modServo c.bay fun _ => (resultOf c t).servo).modPos c.bay fun p => { p with act := (resultOf c t).servo.I }) := by
    refine (h.modServo (b := c.bay) fun _ => (resultOf c t).servo).posMove _ (fun hd => ?_) fun _ => .inr (by simpa using hl)
    obtain ⟨hrail, -, hheld⟩ := (Positioner.drawsWithin_of_loaded (by simpa using hl)).mp hd
    exact (Positioner.drawsWithin_of_loaded (by simpa using hl)).mpr ⟨hrail, by simpa [State.hold] using hact, hheld⟩
  refine countWedges ?_ _
  unfold Machine.writeResult
  dsimp only
  refine modGate ?_ _
  split
  · exact hp
  · exact hp.count _

theorem gateRises (h : Powered s t) : Powered s (gateRises b t) := by
  unfold Machine.gateRises
  split
  · exact h
  · exact (h.modGate _).count _

end Powered

/-! ### Every step keeps the laws of the ledger -/

/-- Every command keeps them. -/
theorem exec_powered (i : Instr) (h : exec i s = .next t) : Powered s t := by
  have start : Powered s s := .refl s
  have next : ∀ {u}, exec i s = .next u → Powered s u → Powered s t := fun hu hm => by
    rw [hu] at h
    cases h
    exact hm
  by_cases hr : i.isRequest = true
  · exact next (exec_request i hr s) (start.deliver _ fun u hu => hu.takeRequest i)
  cases i with
  | frameRefused bytes =>
    refine next rfl ?_
    split
    · exact start.lfrmReleased
    · exact start.deliver _ fun u hu => (hu.modLink _).endFrame
  | linkStrobe ldir lfrm x => exact next rfl (start.strobe _ _ _)
  | strobeNegated =>
    refine next rfl ?_
    unfold strobeEnd
    split
    · exact start
    · exact start.modLink _
  | resetNFall => exact next rfl (start.reset.modLink _)
  | powerOn => exact next rfl (start.reset.modLink _)
  | resetNRise lfrm =>
    refine next rfl ?_
    split
    · exact start
    · exact (start.modLink _).modLink _
  | presRise b =>
    refine next rfl ?_
    split
    · exact (start.modPins _).changeCart _
    · exact start.modPins _
  | presFall b => exact next rfl (start.modPins _).presenceFall.settle
  | debounceExpiry b med1 med0 wprot =>
    refine next rfl ?_
    split
    · exact ((start.changeCart _).latchEvent _).settle
    · exact start
  | btnChange b level => exact next rfl ((start.modPins _).modCart _)
  | buttonLevelExpiry b =>
    refine next rfl ?_
    split
    · exact start.buttonStable.settle
    · exact start
  | longPress b =>
    refine next rfl ?_
    split
    · exact (start.modCart _).longPressAction.settle
    · exact start
  | pulseTimerExpiry b =>
    refine next rfl ?_
    split
    · exact start.endPulse.settle
    · exact start
  | waitTimerExpiry b =>
    refine next rfl ?_
    split
    · exact start.waitOver.settle
    · exact start
  | lampFlashToggle b =>
    refine next rfl ?_
    split
    · exact start.modCart _
    · exact start
  | tachPulse b n => exact next rfl ((start.pulse n).modDemod _).settle
  | tachTimerExpiry b =>
    refine next rfl ?_
    split
    · exact start.tachExpired.settle
    · exact start
  | stageTimerExpiry b =>
    refine next rfl ?_
    split
    · exact start.stageOver.settle
    · exact start
  | brakeLimitExpiry b =>
    refine next rfl ?_
    split
    · exact (start.enterSpinFault.raiseFatal _).settle
    · exact start
  | speedLostTimerExpiry b =>
    refine next rfl ?_
    split
    · exact ((start.modSpin _).faultAndUnload _).settle
    · exact start
  | wedgeWindowEnd b code parityOk ampA ampB =>
    refine next rfl ?_
    split
    · exact start.windowEnds _ _ _ _
    · exact start
  | sauCompletion =>
    refine next rfl ?_
    split
    · split
      · next hc => exact ((start.applyCompletion _ (Bool.and_eq_true _ _ ▸ hc).2).chooseNext _).settle
      · exact (start.chooseNext _).settle
    · exact start
  | loadWaitTimerExpiry b =>
    refine next rfl ?_
    split
    · exact start.loadWaitOver.settle
    · exact start
  | loadTimerExpiry b =>
    refine next rfl ?_
    split
    · exact ((start.posKeep _ rfl rfl rfl).faultAndUnload _).settle
    · exact start
  | seekTimerExpiry b =>
    refine next rfl ?_
    split
    · next hc => exact (start.seekTimedOut (Bool.and_eq_true _ _ ▸ hc).2).settle
    · exact start
  | unloadTimerExpiry b =>
    refine next rfl ?_
    split
    · next hc => exact (start.headsRunOut _ (.inl (of_decide_eq_true (Bool.and_eq_true _ _ ▸ hc).2))).settle
    · exact start
  | retractTimerExpiry b =>
    refine next rfl ?_
    split
    · next hc => exact (start.headsRunOut _ (.inr (of_decide_eq_true (Bool.and_eq_true _ _ ▸ hc).2))).settle
    · exact start
  | parkRise b => exact next rfl (start.modPins _).parkReached.settle
  | parkFall b => exact next rfl (start.modPins _).parkLost.settle
  | wgateRise b => exact next rfl ((start.modPins _).gateRises.gate b)
  | wgateFall b => exact next rfl (((start.modPins _).modGate _).gate b)
  | scanTimerExpiry =>
    refine next rfl ?_
    split
    · exact start.scanDueNow
    · exact start
  | conversionCompletion raw =>
    refine next rfl ?_
    split
    · exact (start.listCompletion _ _).settle
    all_goals exact start
  | sampleNowCompletion raw =>
    refine next rfl ?_
    split
    · exact ((start.modSense _).done _ _ _).judgeWithheld
    all_goals exact start
  | lfrmRelease => exact next rfl start.lfrmReleased
  | _ => exact absurd rfl hr

theorem step_powered (h : step s = .next t) : Powered s t := by
  unfold step at h
  split at h
  · cases h
    exact .refl s
  · next c rest _ =>
    have hq : Powered s (s.setPending rest) := (Powered.refl s).ofBay (fun c => by cases c <;> rfl) rfl rfl
    exact hq.trans (exec_powered c h)

/-- Settles O4: what a step does to the ledger is requests, reductions, withdrawals and re-examinations, a capacity that is not
below the sum, or a change of the supply, and each keeps the sum within the capacity and E as C and the supply give it. -/
theorem stepKeepsLedgerSound : Obligations.StepKeepsLedgerSound := fun _ _ hs h => (step_powered h).ledger hs

/-- Settles O5: bay by bay, a step keeps the actuator within its holding and its requests its own. -/
theorem stepKeepsActuatorsSound : Obligations.StepKeepsActuatorsSound := fun _ _ hs h =>
  actuatorsSound_iff.mpr fun b => (step_powered h).actuator b (actuatorsSound_iff.mp hs b)

end Sys2Proof.Machine
end

section
namespace Sys2Proof.Machine

variable {b : Bay} {s t u v : State} {track head n : Nat}

/-! ### SEEK over heads on a track (R97, R98, R101) -/

/-- The heads follow a track or settle on one: where a SEEK is taken as a seek (R97). -/
def Positioner.OnTrack (p : Positioner) : Prop := p.state = .following ∨ p.state = .settling

theorem Positioner.OnTrack.loaded {p : Positioner} (h : p.OnTrack) : p.state.loaded = true := by
  rcases h with h | h <;> rw [h] <;> rfl

/-- The positioner with a SEEK's request made (R91, R97). -/
def Positioner.seekPending (track head : Nat) (p : Positioner) : Positioner :=
  { p with pending := .seek track head, offTrack := 0, clean := 0 }

/-- The positioner whose settle a SEEK on its own track and head owns (log entry 15). -/
def Positioner.settleOwned (p : Positioner) : Positioner := { p with seekTimer := some Const.seek, owner := .operation }

/-- The positioner at the grant of a SEEK's request (R98). -/
def Positioner.sought (track head n : Nat) (p : Positioner) : Positioner :=
  { p with state := .seeking, target := track, head := head, hsel := if head = p.head then p.hsel else head, pending := .none,
           owner := .operation, settle := 0, offTrack := 0, clean := 0, seekTimer := some Const.seek, source := .rail,
           act := clampInt (-n) n p.act }

/-- R97: a SEEK elsewhere closes the window and asks. -/
theorem takeSeek_elsewhere (ht : (s.bay b).pos.OnTrack) (he : track ≠ (s.bay b).pos.target ∨ head ≠ (s.bay b).pos.head) :
    takeSeek b track head s = askSeek b ((closeWindow b s).modPos b (Positioner.seekPending track head)) := by
  have hn : (decide (track = (s.bay b).pos.target) && decide (head = (s.bay b).pos.head)) = false := by
    rw [Bool.and_eq_false_iff, decide_eq_false_iff_not, decide_eq_false_iff_not]
    exact he
  rcases ht with hs | hs <;> simp only [takeSeek, closeWindow_pos, hs, hn, Bool.false_eq_true, if_false] <;> rfl

/-- A SEEK in SETTLING on its own track and head owns the settle (log entry 15). -/
theorem takeSeek_here (hs : (s.bay b).pos.state = .settling) (ht : track = (s.bay b).pos.target) (hh : head = (s.bay b).pos.head) :
    takeSeek b track head s = (closeWindow b s).modPos b Positioner.settleOwned := by
  simp only [takeSeek, closeWindow_pos, hs, ht, hh, decide_true, Bool.and_self, if_true]
  rfl

/-! #### The grant of a SEEK's request -/

theorem switchHead_pos (head : Nat) (b : Bay) (s : State) :
    ((switchHead b head s).bay b).pos =
      { (s.bay b).pos with head := head, hsel := if head = (s.bay b).pos.head then (s.bay b).pos.hsel else head } := by
  unfold switchHead
  split
  · next h => rw [h]
  · rw [historyReset_pos, State.modPos_pos]

theorem switchHead_servo (head : Nat) (b : Bay) (s : State) :
    ((switchHead b head s).bay b).servo =
      if head = (s.bay b).pos.head then (s.bay b).servo
      else { (s.bay b).servo with v := 0, fresh := true, lastValid := none, lastNum := none, k := 0, lastOk := false } := by
  unfold switchHead
  split
  · rfl
  · rw [(historyReset_spec _ b).1, State.modPos_servo]

theorem setTarget_servo (n : Nat) (b : Bay) (s : State) : ((setTarget b n s).bay b).servo = (s.bay b).servo := by
  unfold setTarget
  dsimp only
  split <;> simp [clearQualified]

/-- R116: another target or another head clears the qualification. -/
theorem switchHead_setTarget_unqualified (he : track ≠ (s.bay b).pos.target ∨ head ≠ (s.bay b).pos.head) :
    ((switchHead b head (setTarget b track s)).bay b).gate.qualified = false := by
  unfold switchHead
  split
  · next hh =>
    rw [setTarget_pos] at hh
    simp [setTarget, he.resolve_right (not_not.mpr hh), clearQualified]
  · rw [(historyReset_spec _ b).2.2.1]

/-- R98: the grant that begins a seek. -/
theorem actuatorGranted_seek (ht : (s.bay b).pos.OnTrack) (hp : (s.bay b).pos.pending = .seek track head) (n : Nat) :
    actuatorGranted b n s = enterSeeking b .operation (switchHead b head (setTarget b track (clampAct b n s))) := by
  have hs : ((clampAct b n s).bay b).pos.state = .following ∨ ((clampAct b n s).bay b).pos.state = .settling := by
    simpa [clampAct] using show (s.bay b).pos.state = .following ∨ (s.bay b).pos.state = .settling from ht
  have hq : ((clampAct b n s).bay b).pos.pending = .seek track head := by simpa [clampAct] using hp
  simp only [actuatorGranted, Bool.or_eq_true, decide_eq_true_eq, hs, if_true, hq]

theorem actuatorGranted_sought (ht : (s.bay b).pos.OnTrack) (hp : (s.bay b).pos.pending = .seek track head)
    (he : track ≠ (s.bay b).pos.target ∨ head ≠ (s.bay b).pos.head) (n : Nat) :
    let t := actuatorGranted b n s
    (t.bay b).pos = (s.bay b).pos.sought track head n ∧ (t.bay b).spin = (s.bay b).spin ∧ (t.bay b).gate.qualified = false ∧
      (t.bay b).servo =
        if head = (s.bay b).pos.head then (s.bay b).servo
        else { (s.bay b).servo with v := 0, fresh := true, lastValid := none, lastNum := none, k := 0, lastOk := false } := by
  have hc : ((clampAct b n s).bay b).pos = { (s.bay b).pos with act := clampInt (-n) n (s.bay b).pos.act } := by simp [clampAct]
  have hservo : ((clampAct b n s).bay b).servo = (s.bay b).servo := by simp [clampAct]
  dsimp only
  rw [actuatorGranted_seek ht hp, enterSeeking]
  refine ⟨?_, ?_, ?_, ?_⟩
  · rw [State.modPos_pos, switchHead_pos, setTarget_pos, hc]
    rfl
  · rw [State.modPos_spin, switchHead_spin, setTarget_spin, clampAct, State.modPos_spin]
  · rw [State.modPos_gate, switchHead_setTarget_unqualified (by rw [hc]; exact he)]
  · rw [State.modPos_servo, switchHead_servo, setTarget_servo, setTarget_pos, hc, hservo]

/-! #### The request itself (R51, R53, R54) -/

/-- What becomes of a SEEK's request over an empty list: at the grant the heads seek, else it waits. -/
theorem askSeek_answers (ht : (s.bay b).pos.OnTrack) (hp : (s.bay b).pos.pending = .seek track head)
    (he : track ≠ (s.bay b).pos.target ∨ head ≠ (s.bay b).pos.head) (hw : s.ledger.wait = []) (hc : 60 ≤ s.ledger.capacity) :
    let t := askSeek b s
    t.bay b.other = s.bay b.other ∧ (t.bay b).spin = (s.bay b).spin ∧
      if s.ledger.sum - s.hold (.actuator b) + 60 ≤ s.ledger.effective then
        let n := min 100 (s.ledger.effective + s.hold (.actuator b) - s.ledger.sum)
        t.ledger = s.ledger.setHold (.actuator b) n ∧ (t.bay b).pos = (s.bay b).pos.sought track head n ∧
          (t.bay b).gate.qualified = false ∧
          (t.bay b).servo =
            if head = (s.bay b).pos.head then (s.bay b).servo
            else { (s.bay b).servo with v := 0, fresh := true, lastValid := none, lastNum := none, k := 0, lastOk := false }
      else
        t.ledger = { s.ledger with wait := [⟨.actuator b, .ranged 60 100⟩] } ∧ (t.bay b).servo = (s.bay b).servo ∧
          (t.bay b).pos = (s.bay b).pos := by
  have hfit : s.ledger.fit (.actuator b) (.ranged 60 100) =
      if s.ledger.sum - s.hold (.actuator b) + 60 ≤ s.ledger.effective then
        some (min 100 (s.ledger.effective + s.hold (.actuator b) - s.ledger.sum)) else none := Ledger.fit_ranged _ _ 60 100
  dsimp only
  split
  · next hf =>
    set n := min 100 (s.ledger.effective + s.hold (.actuator b) - s.ledger.sum)
    have hask : askSeek b s = actuatorGranted b n (s.setLedger (s.ledger.setHold (.actuator b) n)) :=
      ask_of_fitting (r := .ranged 60 100) hw hc (hfit.trans (if_pos hf))
    obtain ⟨hpos, hspin, hqual, hservo⟩ := actuatorGranted_sought (s := s.setLedger (s.ledger.setHold (.actuator b) n)) (b := b)
      (by simpa using ht) (by simpa using hp) (by simpa using he) n
    simp only [State.setLedger_bay] at hpos hspin hservo
    rw [hask]
    exact ⟨by simp, hspin, by simp, hpos, hqual, hservo⟩
  · next hf =>
    have hask : askSeek b s = s.setLedger { s.ledger with wait := s.ledger.wait ++ [⟨.actuator b, .ranged 60 100⟩] } :=
      ask_of_waiting (r := .ranged 60 100) (Ledger.waits_of_nil hw _) hc fun _ => hfit.trans (if_neg hf)
    rw [hask, hw]
    simp

/-- An actuator is told its grants alone, never NO_BUDGET (R58). -/
theorem ask_actuator (b : Bay) (r : Req) (s : State) :
    ask (.actuator b) r s =
      tellGrants (s.ledger.request (.actuator b) r).grants (s.setLedger (s.ledger.request (.actuator b) r).ledger) := by
  simp only [ask, tellNoBudget, ite_self]

/-- What no request of an actuator changes. -/
theorem granted_askSeek (b : Bay) (s : State) : Granted (s.setLedger (askSeek b s).ledger) (askSeek b s) := by
  rw [askSeek, ask_actuator, tellGrants_ledger, State.setLedger_ledger]
  exact granted_tellGrants _ _

/-- With the heads loaded a grant leaves a spindle that is not in WAIT_POWER. -/
theorem tellGrant_spin_of_loaded (g : Grant) (hl : (s.bay b).pos.state.loaded = true) (hw : (s.bay b).spin.state ≠ .waitPower) :
    ((tellGrant s g).bay b).spin = (s.bay b).spin ∧ ((tellGrant s g).bay b).pos.state.loaded = true := by
  by_cases hg : g.1 = .actuator b
  · obtain ⟨c, n⟩ := g
    obtain rfl : c = .actuator b := hg
    have hc : ((clampAct b n s).bay b).pos.state.loaded = true := by simpa [clampAct] using hl
    have hs : ((clampAct b n s).bay b).spin = (s.bay b).spin := by simp [clampAct]
    have ramp : tryLoading b (clampAct b n s) = clampAct b n s := by
      rw [tryLoading, if_neg]
      intro h
      simp only [Bool.and_eq_true, loadWaiting, decide_eq_true_eq] at h
      rw [h.1.1.1.1] at hc
      simp [PosState.loaded] at hc
    simp only [tellGrant, actuatorGranted]
    split
    · split
      · exact ⟨by simp [enterSeeking, switchHead_spin, setTarget_spin, hs], by simp [enterSeeking, PosState.loaded]⟩
      · exact ⟨by simp [enterSeeking, hs], by simp [enterSeeking, PosState.loaded]⟩
      · exact ⟨hs, hc⟩
    · rw [ramp]
      exact ⟨hs, hc⟩
  · refine ⟨?_, by rw [(tellGrant_heads g fun h => absurd h hg).2.2.2 hg]; exact hl⟩
    rcases g with ⟨d | d | d, n⟩
    · rcases Bay.cases_eq d b with rfl | rfl
      · simp [tellGrant, enterAligning, hw]
      · simp [tellGrant]
    · rcases Bay.cases_eq d b with rfl | rfl
      · exact absurd rfl hg
      · simp [tellGrant]
    · rw [tellGrant, startPulse_spin]

theorem tellGrants_spin_of_loaded (gs : List Grant) (hl : (s.bay b).pos.state.loaded = true) (hw : (s.bay b).spin.state ≠ .waitPower) :
    ((tellGrants gs s).bay b).spin = (s.bay b).spin := by
  unfold tellGrants
  induction gs generalizing s with
  | nil => rfl
  | cons g gs ih =>
    obtain ⟨hspin, hloaded⟩ := tellGrant_spin_of_loaded g hl hw
    exact (ih hloaded (by rwa [hspin])).trans hspin

theorem askSeek_spin (hl : (s.bay b).pos.state.loaded = true) (hw : (s.bay b).spin.state ≠ .waitPower) :
    ((askSeek b s).bay b).spin = (s.bay b).spin := by
  rw [askSeek, ask_actuator, tellGrants_spin_of_loaded _ (by simpa using hl) (by simpa using hw), State.setLedger_bay]

/-- R56: a list whose head does not fit is re-examined to no effect. -/
theorem reexamined_of_unfit (h : ∀ e, s.ledger.wait.head? = some e → s.ledger.effective < s.ledger.sum - s.hold e.who + e.req.need) :
    reexamined s = s := by
  have hsame : s.ledger.reexamine = (s.ledger, []) := by
    cases hw : s.ledger.wait with
    | nil =>
      rw [Ledger.reexamine, hw, Ledger.grantHeads]
      simp [← hw]
    | cons e es =>
      have hfit : s.ledger.fit e.who e.req = none := if_neg (Nat.not_le.mpr (h e (by rw [hw]; rfl)))
      rw [Ledger.reexamine, hw, Ledger.grantHeads, hfit]
      simp [← hw]
  rw [reexamined, hsame]
  rfl

/-- R54: a request that asks for what its consumer waits for takes its own place; behind a head that does not fit it is told nothing. -/
theorem ask_again {c : Consumer} {r : Req} (hd : WaitDistinct s) (hc : r.need ≤ s.ledger.capacity) (hw : (⟨c, r⟩ : WaitEntry) ∈ s.ledger.wait)
    (h : ∀ e, s.ledger.wait.head? = some e → s.ledger.effective < s.ledger.sum - s.hold e.who + e.req.need) : ask c r s = s := by
  have hplace : (s.ledger.wait.map fun e => if e.who = c then ⟨c, r⟩ else e) = s.ledger.wait := by
    refine (List.map_congr_left fun e he => ?_).trans (List.map_id _)
    split
    · next hwho => exact (List.inj_on_of_nodup_map hd he hw hwho).symm
    · rfl
  have hwaits : s.ledger.waits c = true := by
    by_contra hn
    exact Ledger.waits_eq_false.mp (by simpa using hn) (List.mem_map.mpr ⟨_, hw, rfl⟩)
  rw [ask_eq, if_neg (Nat.not_lt.mpr hc), if_pos hwaits, hplace]
  exact reexamined_of_unfit h

/-! #### The taking -/

theorem judgeGate_qualified (b c : Bay) (s : State) : ((judgeGate b s).bay c).gate.qualified = (s.bay c).gate.qualified := by
  rcases Bay.cases_eq b c with rfl | rfl
  · unfold judgeGate dropPermit latchEvent
    split
    · simp
    · split
      · dsimp only
        split <;> simp [refreshAttn, closeWindow, countBay]
      · rfl
  · simp

theorem judgeGate_servo (b c : Bay) (s : State) : ((judgeGate b s).bay c).servo = (s.bay c).servo := by rw [(judgeGate_frame b c s).1]

/-- What a SEEK that is taken as a seek leaves, whatever becomes of its request (R97). -/
structure SeekTaken (b : Bay) (op : Op) (s u : State) : Prop where
  sched : (u.bay b).sched = (s.bay b).sched.holding op
  window : (u.bay b).gate.window = false
  completions : u.completions = s.completions
  supply : u.supply = s.supply

theorem SeekTaken.of_granted {op : Op} (h : Granted t u) (k : SeekTaken b op s t) : SeekTaken b op s u :=
  ⟨(h.bay b).sched.trans k.sched, (h.bay b).window.trans k.window, h.completions.trans k.completions, h.supply.trans k.supply⟩

/-- A SEEK just taken: its window closed, its positioner changed. -/
def seekOrdered (b : Bay) (track head : Nat) (f : Positioner → Positioner) (s : State) : State :=
  (closeWindow b (begun b (.seek track head) s)).modPos b f

section
variable (b : Bay) (track head : Nat) (f : Positioner → Positioner) (s : State)

theorem seekOrdered_taken : SeekTaken b ⟨s.nextTag, .seek track head⟩ s (seekOrdered b track head f s) :=
  ⟨by simp [seekOrdered, begun_sched], by simp [seekOrdered, closeWindow], by simp [seekOrdered, begun_completions],
    by simp [seekOrdered, closeWindow, begun_supply]⟩

@[simp] theorem seekOrdered_pos : ((seekOrdered b track head f s).bay b).pos = f (s.bay b).pos := by simp [seekOrdered, begun_pos]

@[simp] theorem seekOrdered_spin : ((seekOrdered b track head f s).bay b).spin = (s.bay b).spin := by simp [seekOrdered, begun_spin]

@[simp] theorem seekOrdered_bay_other : (seekOrdered b track head f s).bay b.other = s.bay b.other := by
  simp [seekOrdered, begun_bay_other]

@[simp] theorem seekOrdered_ledger : (seekOrdered b track head f s).ledger = s.ledger := by simp [seekOrdered, begun_ledger]

@[simp] theorem seekOrdered_servo : ((seekOrdered b track head f s).bay b).servo = (s.bay b).servo := by
  rw [seekOrdered, State.modPos_servo, closeWindow, State.modGate_servo, (confined_begun b _ s).own]

end

end Sys2Proof.Machine
end

section
namespace Sys2Proof.Machine

variable {b : Bay} {s t u : State} {track head : Nat}

/-! #### The end of the taking -/

/-- What a SEEK leaves stands behind the gates. -/
theorem SeekTaken.gates {op : Op} (h : SeekTaken b op s u) : SeekTaken b op s (judgeGates u) :=
  ⟨by rw [judgeGates_sched, h.sched], judgeGates_window b u h.window, by rw [judgeGates_completions, h.completions],
    by simp [judgeGates, h.supply]⟩

/-- A SEEK of its command's operands, behind the gates. -/
theorem exec_seek {track : BitVec 16} {head : Byte} (hl : LinkTakes (frameOf (.seek b track head)) s) (hset : Settled s)
    (hacc : OpAccepted b (.seek track.toNat head.toNat) s) (hf : SchedFree (s.bay b).sched) :
    exec (.seek b track head) s =
      .next (judgeGates (takeSeek b track.toNat head.toNat (begun b (.seek track.toNat head.toNat) s))) :=
  exec_taken (k := .seek track.toNat head.toNat) rfl rfl hl hset hacc hf

theorem takeSeek_begun_held :
    (judgeGates (takeSeek b track head (begun b (.seek track head) s))).link.held = [2, 5, toBay b, 1, byteOf s.nextTag] :=
  (Steady.refl _).gates.held.trans (startOp_held (k := .seek track head) (by simp) (by simp))

/-- R97: a SEEK elsewhere is a request of the bay with the seek pending. -/
theorem takeSeek_begun_elsewhere (ht : (s.bay b).pos.OnTrack) (he : track ≠ (s.bay b).pos.target ∨ head ≠ (s.bay b).pos.head) :
    takeSeek b track head (begun b (.seek track head) s) = askSeek b (seekOrdered b track head (Positioner.seekPending track head) s) :=
  takeSeek_elsewhere (by rw [begun_pos]; exact ht) (by rw [begun_pos]; exact he)

theorem askSeek_taken (b : Bay) (track head : Nat) (f : Positioner → Positioner) (s : State) :
    SeekTaken b ⟨s.nextTag, .seek track head⟩ s (askSeek b (seekOrdered b track head f s)) := by
  obtain ⟨h1, h2, h3, h4⟩ := seekOrdered_taken b track head f s
  exact .of_granted (granted_askSeek b _) ⟨by simpa using h1, by simpa using h2, by simpa using h3, by simpa using h4⟩

/-- R51, R53, R98: a SEEK elsewhere over an empty list. -/
theorem seek_answers (hset : Settled s) (ht : (s.bay b).pos.OnTrack)
    (he : track ≠ (s.bay b).pos.target ∨ head ≠ (s.bay b).pos.head) (hw : s.ledger.wait = []) (hc : 60 ≤ s.ledger.capacity) :
    let t := judgeGates (takeSeek b track head (begun b (.seek track head) s))
    t.bay b.other = s.bay b.other ∧ (t.bay b).spin = (s.bay b).spin ∧
      if s.ledger.sum - s.hold (.actuator b) + 60 ≤ s.ledger.effective then
        let n := min 100 (s.ledger.effective + s.hold (.actuator b) - s.ledger.sum)
        t.ledger = s.ledger.setHold (.actuator b) n ∧ (t.bay b).pos = (s.bay b).pos.sought track head n ∧
          (t.bay b).gate.qualified = false ∧
          (t.bay b).servo =
            if head = (s.bay b).pos.head then (s.bay b).servo
            else { (s.bay b).servo with v := 0, fresh := true, lastValid := none, lastNum := none, k := 0, lastOk := false }
      else
        t.ledger = { s.ledger with wait := [⟨.actuator b, .ranged 60 100⟩] } ∧ (t.bay b).servo = (s.bay b).servo ∧
          (t.bay b).pos = (s.bay b).pos.seekPending track head := by
  have hask := askSeek_answers (b := b) (s := seekOrdered b track head (Positioner.seekPending track head) s) (track := track) (head := head)
    (by rw [seekOrdered_pos]; exact ht) (by rw [seekOrdered_pos]; rfl) (by rw [seekOrdered_pos]; exact he)
    (by rw [seekOrdered_ledger]; exact hw) (by rw [seekOrdered_ledger]; exact hc)
  have htaken := askSeek_taken b track head (Positioner.seekPending track head) s
  simp only [seekOrdered_bay_other, seekOrdered_spin, seekOrdered_ledger, seekOrdered_pos, seekOrdered_servo, State.hold] at hask
  dsimp only
  rw [takeSeek_begun_elsewhere ht he, judgeGates_own hset.2.2.1 hask.1 (by rw [htaken.supply])]
  simp only [judgeGate_bay_other, judgeGate_spin, judgeGate_ledger, judgeGate_pos, judgeGate_qualified, judgeGate_servo]
  exact hask

/-- R97: a SEEK elsewhere is taken as a seek, whatever becomes of its request. -/
theorem seek_taken_elsewhere (ht : (s.bay b).pos.OnTrack) (he : track ≠ (s.bay b).pos.target ∨ head ≠ (s.bay b).pos.head) :
    SeekTaken b ⟨s.nextTag, .seek track head⟩ s (judgeGates (takeSeek b track head (begun b (.seek track head) s))) := by
  rw [takeSeek_begun_elsewhere ht he]
  exact (askSeek_taken b track head _ s).gates

/-- A SEEK elsewhere leaves a regulated spindle, whoever else waits. -/
theorem seek_spin_elsewhere (ht : (s.bay b).pos.OnTrack) (he : track ≠ (s.bay b).pos.target ∨ head ≠ (s.bay b).pos.head)
    (hr : (s.bay b).spin.state.regulated = true) :
    ((judgeGates (takeSeek b track head (begun b (.seek track head) s))).bay b).spin = (s.bay b).spin := by
  have hw : (s.bay b).spin.state ≠ .waitPower := fun e => by simp [e, SpinState.regulated] at hr
  rw [takeSeek_begun_elsewhere ht he, judgeGates_spin, askSeek_spin, seekOrdered_spin]
  · rw [seekOrdered_pos]; exact ht.loaded
  · rw [seekOrdered_spin]; exact hw

/-- A SEEK whose order asks for nothing new, behind the gates. -/
theorem seekOrdered_gates (hset : Settled s) (b : Bay) (track head : Nat) (f : Positioner → Positioner) :
    let t := judgeGates (seekOrdered b track head f s)
    t.bay b.other = s.bay b.other ∧ (t.bay b).pos = f (s.bay b).pos ∧ (t.bay b).spin = (s.bay b).spin ∧
      (t.bay b).servo = (s.bay b).servo ∧ t.ledger = s.ledger := by
  have hsupply := (seekOrdered_taken b track head f s).supply
  dsimp only
  rw [judgeGates_own hset.2.2.1 (seekOrdered_bay_other ..) (by rw [hsupply])]
  simp [judgeGate_servo]

/-- A SEEK in SETTLING on its own track and head (log entry 15). -/
theorem takeSeek_begun_here (hs : (s.bay b).pos.state = .settling) (ht : track = (s.bay b).pos.target) (hh : head = (s.bay b).pos.head) :
    takeSeek b track head (begun b (.seek track head) s) = seekOrdered b track head Positioner.settleOwned s :=
  takeSeek_here (by rw [begun_pos]; exact hs) (by rw [begun_pos]; exact ht) (by rw [begun_pos]; exact hh)

/-- R54: a SEEK elsewhere whose consumer waits for a recovery, behind a head that does not fit. -/
theorem takeSeek_begun_again (ht : (s.bay b).pos.OnTrack) (he : track ≠ (s.bay b).pos.target ∨ head ≠ (s.bay b).pos.head)
    (hd : WaitDistinct s) (hc : 60 ≤ s.ledger.capacity) (hw : (⟨.actuator b, .ranged 60 100⟩ : WaitEntry) ∈ s.ledger.wait)
    (hu : ∀ e, s.ledger.wait.head? = some e → s.ledger.effective < s.ledger.sum - s.hold e.who + e.req.need) :
    takeSeek b track head (begun b (.seek track head) s) = seekOrdered b track head (Positioner.seekPending track head) s := by
  rw [takeSeek_begun_elsewhere ht he]
  refine ask_again (r := .ranged 60 100) ?_ ?_ ?_ ?_
  all_goals simpa only [WaitDistinct, State.hold, seekOrdered_ledger]

/-- Settles O29: the request of a SEEK elsewhere is answered by the ledger; one that meets a recovery's request takes its place; a
SEEK in SETTLING on its own track and head asks for nothing. -/
theorem seekFromFollowing : Obligations.SeekFromFollowing := by
  refine ⟨fun b track head s hl hset hacc hf hs he hw hc => ?_, fun b track head s hl hset hr hacc hf hs => ?_,
    fun b track head s hl hset hd hacc hf hs _ he hc hm hu => ?_⟩
  all_goals refine ⟨_, exec_seek hl hset hacc hf, ?_⟩
  · have ht : (s.bay b).pos.OnTrack := .inl hs
    obtain ⟨hsched, hwindow, hcomp, -⟩ := seek_taken_elsewhere ht he
    obtain ⟨hother, hspin, hans⟩ := seek_answers hset ht he hw hc
    refine ⟨hsched, hwindow, hspin, hother, hcomp, takeSeek_begun_held, ?_⟩
    split
    · next hfit =>
      rw [if_pos hfit] at hans
      obtain ⟨hledger, hpos, hqual, hservo⟩ := hans
      rw [hpos]
      exact ⟨hledger, rfl, rfl, rfl, rfl, rfl, rfl, rfl, rfl, rfl, rfl, hqual, hservo⟩
    · next hfit =>
      rw [if_neg hfit] at hans
      exact hans
  · have ht : (s.bay b).pos.OnTrack := .inr hs
    by_cases he : track.toNat = (s.bay b).pos.target ∧ head.toNat = (s.bay b).pos.head
    · have hheld := takeSeek_begun_held (b := b) (s := s) (track := track.toNat) (head := head.toNat)
      rw [takeSeek_begun_here hs he.1 he.2] at hheld ⊢
      obtain ⟨hsched, hwindow, hcomp, -⟩ := (seekOrdered_taken b track.toNat head.toNat Positioner.settleOwned s).gates
      obtain ⟨hother, hpos, hspin, hservo, hledger⟩ := seekOrdered_gates hset b track.toNat head.toNat Positioner.settleOwned
      exact ⟨hsched, hwindow, hspin, hcomp, hheld, fun _ _ => ⟨hpos, hledger, hother, hservo⟩, fun hne => absurd he (not_and_or.mpr hne)⟩
    · rw [not_and_or] at he
      obtain ⟨hsched, hwindow, hcomp, -⟩ := seek_taken_elsewhere ht he
      refine ⟨hsched, hwindow, seek_spin_elsewhere ht he (hr b (by rw [hs]; rfl)), hcomp, takeSeek_begun_held,
        fun h1 h2 => absurd ⟨h1, h2⟩ (not_and_or.mpr he), fun _ hw hc => ?_⟩
      obtain ⟨hother, -, hans⟩ := seek_answers hset ht he hw hc
      refine ⟨hother, ?_⟩
      split
      · next hfit =>
        rw [if_pos hfit] at hans
        obtain ⟨hledger, hpos, -⟩ := hans
        rw [hpos]
        exact ⟨hledger, rfl, rfl, rfl, rfl, rfl, rfl⟩
      · next hfit =>
        rw [if_neg hfit] at hans
        obtain ⟨hledger, -, hpos⟩ := hans
        exact ⟨hledger, hpos⟩
  · rw [takeSeek_begun_again (.inl hs) he hd hc hm hu]
    obtain ⟨hsched, hwindow, hcomp, -⟩ :=
      (seekOrdered_taken b track.toNat head.toNat (Positioner.seekPending track.toNat head.toNat) s).gates
    obtain ⟨hother, hpos, -, -, hledger⟩ := seekOrdered_gates hset b track.toNat head.toNat (Positioner.seekPending track.toNat head.toNat)
    exact ⟨hledger, hsched, hpos, hwindow, hcomp, hother⟩

end Sys2Proof.Machine
end
